-- ==== Sys2Proof/Word.lean ====
section
/-! DEFINITION. The word types of the part and the fixed-size tables that hold its numbered records. -/

namespace Sys2Proof

/-- A byte of a frame, a request field or a status word. -/
abbrev Byte := BitVec 8

/-- An event counter: 32 bits (R3). -/
abbrev Counter := BitVec 32

/-- The bytes of a frame as they travel on a link: header, payload, CRC trailer (R199). -/
abbrev FrameBytes := List Byte

/-- A slot: slot number n, 1–12, is index n − 1. -/
abbrev SlotIx := Fin 12

/-- A pool, 0–3. -/
abbrev PoolIx := Fin 4

/-- A steering bin, 0–63. -/
abbrev BinIx := Fin 64

/-- A move engine, 0–3. -/
abbrev EngineIx := Fin 4

/-- A lamp pattern index, 0–7. -/
abbrev PatternIx := Fin 8

/-- `n` numbered records of one kind. -/
structure Table (α : Type) (n : Nat) where
  /-- The records, in ascending number. -/
  cells : List α
  /-- There are exactly `n` of them. -/
  size : cells.length = n
  deriving DecidableEq, Repr

variable {α : Type} {n : Nat}

/-- The record with number `i`. -/
def Table.get (t : Table α n) (i : Fin n) : α :=
  t.cells[i.val]'(t.size.symm ▸ i.isLt)

/-- The table with record `i` replaced. -/
def Table.set (t : Table α n) (i : Fin n) (a : α) : Table α n :=
  ⟨t.cells.set i.val a, by rw [List.length_set, t.size]⟩

/-- The table with record `i` changed by `f`. -/
def Table.modify (t : Table α n) (i : Fin n) (f : α → α) : Table α n :=
  t.set i (f (t.get i))

/-- The table whose every record is `a`. -/
def Table.fill (n : Nat) (a : α) : Table α n :=
  ⟨List.replicate n a, List.length_replicate⟩

/-- The table whose record `i` is `f i`. -/
def Table.tab (f : Fin n → α) : Table α n :=
  ⟨(List.finRange n).map f, by rw [List.length_map, List.length_finRange]⟩

end Sys2Proof
end

