-- ==== Sys2Proof/Syntax.lean ====
section
/-! DEFINITION. The commands of the part: one constructor for each row of spec/opcode_table.json. -/

namespace Sys2Proof

/-- How a reception ended on its link (R87, R126). -/
inductive FrameEnd where
  /-- With the last byte of its CRC. -/
  | normal
  /-- With an abort marker. -/
  | aborted
  deriving DecidableEq, Repr

/-- An entry of the Management Agent's request queue (R180): the request's tag, its code (absent for a
payload shorter than two bytes), its parameters, and the mark of a payload longer than 240 bytes. -/
structure RequestEntry where
  /-- Payload byte 0, or 0 when the payload has none. -/
  tag : Byte
  /-- Payload byte 1. -/
  code : Option Byte
  /-- The payload from byte 2 on, within the first 240 bytes. -/
  params : List Byte
  /-- The payload was longer than 240 bytes. -/
  overlength : Bool
  deriving DecidableEq, Repr

/-- The commands. A slot, pool or engine operand of an event is its index; the operands of a management
request are its tag and the fields of R201, an optional field being absent where its presence bit is 0. -/
inductive Instr where
  /-- POWER_ON: power is applied. -/
  | powerOn
  /-- PIN_RESET: RESET_N is asserted. -/
  | pinReset
  /-- CORE_RX_START: a frame starts on the core link. -/
  | coreRxStart
  /-- CORE_RX_END: the frame on the core link ends; `bytes` are all that were received. -/
  | coreRxEnd (how : FrameEnd) (bytes : FrameBytes)
  /-- SLOT_RX_START: a frame starts on a slot link. -/
  | slotRxStart (slot : SlotIx)
  /-- SLOT_RX_END: the frame on a slot link ends; `bytes` are all that were received. -/
  | slotRxEnd (slot : SlotIx) (how : FrameEnd) (bytes : FrameBytes)
  /-- LOCK_GAINED: the slot receiver locks onto the blade's signal. -/
  | lockGained (slot : SlotIx)
  /-- LOCK_LOST: the slot receiver loses lock. -/
  | lockLost (slot : SlotIx)
  /-- ATTEMPT_SUCCESS: lock is held and the blade's sequence shows that the blade has locked. -/
  | attemptSuccess (slot : SlotIx)
  /-- ATTEMPT_TIMER_EXPIRY. -/
  | attemptTimerExpiry (slot : SlotIx)
  /-- TRAINING_LOCK_LOSS: lock gained in the attempt has been lost for 1,000 µs. -/
  | trainingLockLoss (slot : SlotIx)
  /-- LOCK_LOSS_EXPIRY: an UP link has been without lock for 1 ms. -/
  | lockLossExpiry (slot : SlotIx)
  /-- REMOTE_PAUSE_EXPIRY. -/
  | remotePauseExpiry (slot : SlotIx)
  /-- SLOT_TX_START: the link begins its next frame. -/
  | slotTxStart (slot : SlotIx)
  /-- CONTROL_TX_END: a link control frame's transmission ends. -/
  | controlTxEnd (slot : SlotIx)
  /-- EGRESS_TX_END: a data frame's transmission on a slot link ends. -/
  | egressTxEnd (slot : SlotIx)
  /-- CORE_ARBITER_CHOICE: the Core Transmit Arbiter chooses. -/
  | coreArbiterChoice
  /-- UPSTREAM_TX_END: an upstream frame's transmission on the core link ends. -/
  | upstreamTxEnd
  /-- MGMT_TX_END: a response's or notice's transmission on the core link ends. -/
  | mgmtTxEnd
  /-- REFRESH_TIMER_EXPIRY. -/
  | refreshTimerExpiry (slot : SlotIx)
  /-- PROBE_WINDOW_EXPIRY. -/
  | probeWindowExpiry (slot : SlotIx)
  /-- QUALIFY_TIMER_EXPIRY. -/
  | qualifyTimerExpiry (slot : SlotIx)
  /-- DEADLINE_EXPIRY. -/
  | deadlineExpiry (slot : SlotIx)
  /-- ACKNOWLEDGMENT_EXPIRY. -/
  | acknowledgmentExpiry (slot : SlotIx)
  /-- DRAIN_TIMER_EXPIRY. -/
  | drainTimerExpiry (engine : EngineIx)
  /-- SETTLE_TIMER_EXPIRY. -/
  | settleTimerExpiry (engine : EngineIx)
  /-- RAMP_TIMER_EXPIRY. -/
  | rampTimerExpiry (pool : PoolIx)
  /-- ENGINE_GRANT: the engine arbiter makes a grant. -/
  | engineGrant
  /-- ADOPTION_TIMER_EXPIRY. -/
  | adoptionTimerExpiry (pool : PoolIx)
  /-- READ_CYCLE_END: the bus read ends; whether the port acknowledged, its status byte and check byte. -/
  | readCycleEnd (ack : Bool) (word : Byte) (check : Byte)
  /-- SCAN_READ_RESPONSE: a waiting single-read result takes room in the transmit queue. -/
  | scanReadResponse
  /-- SATURATION_LATCH: a running count reaches 255 in POLL mode. -/
  | saturationLatch (slot : SlotIx)
  /-- BEACON_ALARM: a running count reaches the alarm limit in ALARM mode. -/
  | beaconAlarm (slot : SlotIx)
  /-- LAMP_BASE_STEP: the 25 ms tick. -/
  | lampBaseStep
  /-- IDENTIFY, code 01. -/
  | identify (tag : Byte)
  /-- READ_SLOT, code 02. -/
  | readSlot (tag slot : Byte)
  /-- SET_POLICY, code 03. -/
  | setPolicy (tag slot clear set toggle : Byte) (pool expectedClass deadline rateMode quota : Option Byte)
  /-- SET_WEIGHT, code 04. -/
  | setWeight (tag slot weight : Byte)
  /-- ADMIT, code 05. -/
  | admitSlot (tag slot pool weight : Byte)
  /-- RETIRE, code 06. -/
  | retire (tag slot force : Byte)
  /-- FENCE, code 07. -/
  | fence (tag slot : Byte)
  /-- UNFENCE, code 08. -/
  | unfence (tag slot : Byte)
  /-- REQUALIFY, code 09. -/
  | requalify (tag slot : Byte)
  /-- SLOT_RESET, code 0A. -/
  | slotReset (tag slot force : Byte)
  /-- CLEAR_ALARM, code 0B. -/
  | clearAlarm (tag slot : Byte)
  /-- SET_BEACON, code 0C. -/
  | setBeacon (tag slot : Byte) (mode divisor low high alarm : Option Byte)
  /-- POOL_SET, code 0D. -/
  | poolSet (tag pool : Byte) (salt : Option Byte) (ramp : Option (BitVec 16)) (settle drain width adoption : Option Byte)
  /-- POOL_ENABLE, code 0E. -/
  | poolEnable (tag pool : Byte)
  /-- POOL_DISABLE, code 0F. -/
  | poolDisable (tag pool : Byte)
  /-- READ_POOL, code 10. -/
  | readPool (tag pool : Byte)
  /-- READ_BINS, code 11. -/
  | readBins (tag pool : Byte)
  /-- READ_MOVES, code 12. -/
  | readMoves (tag pool : Byte)
  /-- SET_SCAN, code 13. -/
  | setScan (tag : Byte) (mode divisor preamble first last debounce : Option Byte)
  /-- SCAN_READ, code 14. -/
  | scanRead (tag slot : Byte)
  /-- SCAN_RESTART, code 15. -/
  | scanRestart (tag : Byte)
  /-- SET_LAMP_PATTERN, code 16: levels are a count and a mask. -/
  | setLampPattern (tag index : Byte) (length width : Option Byte) (levels : Option (Byte × BitVec 16))
  /-- SET_LAMP_MAP, code 17: entries of state code and pattern index. -/
  | setLampMap (tag : Byte) (entries : List (Byte × Byte))
  /-- LAMP_OVERRIDE, code 18. -/
  | lampOverride (tag slot pattern : Byte)
  /-- READ_ATTENTION, code 19. -/
  | readAttention (tag : Byte)
  /-- CLEAR_ATTENTION, code 1A. -/
  | clearAttention (tag slot : Byte) (mask : BitVec 16)
  /-- READ_COUNTERS, code 1B. -/
  | readCounters (tag : Byte)
  /-- CLEAR_COUNTERS, code 1C. -/
  | clearCounters (tag : Byte)
  /-- SET_DEVICE, code 1D. -/
  | setDevice (tag : Byte) (pause ackTimeout qualifyLimit : Option (BitVec 16)) (attempts notices : Option Byte)
  /-- READ_CAUSE, code 1E. -/
  | readCause (tag : Byte)
  /-- RESTART, code 1F. -/
  | restart (tag : Byte)
  /-- UNKNOWN_REQUEST: an entry that is no well-formed request of R201. -/
  | unknownRequest (entry : RequestEntry)
  deriving DecidableEq, Repr

end Sys2Proof
end

