-- ==== Sys2Proof/Decode.lean ====
section
/-! DEFINITION. Reading a management request from its queue entry, and writing one (R180, R201); and the
command that a word of the opcode table spells. -/

namespace Sys2Proof

/-- A two-byte field, most significant byte first (00, Byte order). -/
def word16 (hi lo : Byte) : BitVec 16 := hi ++ lo

/-- The two bytes of a field, most significant first. -/
def bytes16 (w : BitVec 16) : List Byte := [w.extractLsb' 8 8, w.extractLsb' 0 8]

/-- An optional one-byte field and what follows it; `none` when it is marked present and missing (R201). -/
def takeByte (present : Bool) (ps : List Byte) : Option (Option Byte × List Byte) :=
  match present, ps with
  | false, ps => some (none, ps)
  | true, b :: rest => some (some b, rest)
  | true, [] => none

/-- An optional two-byte field and what follows it. -/
def takeWord (present : Bool) (ps : List Byte) : Option (Option (BitVec 16) × List Byte) :=
  match present, ps with
  | false, ps => some (none, ps)
  | true, hi :: lo :: rest => some (some (word16 hi lo), rest)
  | true, _ => none

/-- The optional levels field of SET_LAMP_PATTERN, a count and a two-byte mask, and what follows it. -/
def takeLevels (present : Bool) (ps : List Byte) : Option (Option (Byte × BitVec 16) × List Byte) :=
  match present, ps with
  | false, ps => some (none, ps)
  | true, c :: hi :: lo :: rest => some (some (c, word16 hi lo), rest)
  | true, _ => none

/-- `r` when no byte is left over: a longer request is malformed (R201). -/
def whenDone (rest : List Byte) (r : Instr) : Option Instr :=
  match rest with
  | [] => some r
  | _ :: _ => none

/-- The presence byte sets no bit from `fields` upward (R201). -/
def presenceFits (presence : Byte) (fields : Nat) : Bool := presence.toNat < 2 ^ fields

/-- Pairs of bytes: the entries of SET_LAMP_MAP; `none` when a byte is left over. -/
def takePairs : List Byte → Option (List (Byte × Byte))
  | [] => some []
  | [_] => none
  | a :: b :: rest => (takePairs rest).map ((a, b) :: ·)

/-- SET_POLICY's fields after its code (R201). -/
def decodeSetPolicy (tag : Byte) : List Byte → Option Instr
  | slot :: clear :: set :: toggle :: pr :: ps =>
    if presenceFits pr 5 then do
      let (pool, ps) ← takeByte (pr.getLsbD 0) ps
      let (cls, ps) ← takeByte (pr.getLsbD 1) ps
      let (deadline, ps) ← takeByte (pr.getLsbD 2) ps
      let (mode, ps) ← takeByte (pr.getLsbD 3) ps
      let (quota, ps) ← takeByte (pr.getLsbD 4) ps
      whenDone ps (.setPolicy tag slot clear set toggle pool cls deadline mode quota)
    else none
  | _ => none

/-- SET_BEACON's fields after its code. -/
def decodeSetBeacon (tag : Byte) : List Byte → Option Instr
  | slot :: pr :: ps =>
    if presenceFits pr 5 then do
      let (mode, ps) ← takeByte (pr.getLsbD 0) ps
      let (divisor, ps) ← takeByte (pr.getLsbD 1) ps
      let (low, ps) ← takeByte (pr.getLsbD 2) ps
      let (high, ps) ← takeByte (pr.getLsbD 3) ps
      let (alarm, ps) ← takeByte (pr.getLsbD 4) ps
      whenDone ps (.setBeacon tag slot mode divisor low high alarm)
    else none
  | _ => none

/-- POOL_SET's fields after its code. -/
def decodePoolSet (tag : Byte) : List Byte → Option Instr
  | pool :: pr :: ps =>
    if presenceFits pr 6 then do
      let (salt, ps) ← takeByte (pr.getLsbD 0) ps
      let (ramp, ps) ← takeWord (pr.getLsbD 1) ps
      let (settle, ps) ← takeByte (pr.getLsbD 2) ps
      let (drain, ps) ← takeByte (pr.getLsbD 3) ps
      let (width, ps) ← takeByte (pr.getLsbD 4) ps
      let (adoption, ps) ← takeByte (pr.getLsbD 5) ps
      whenDone ps (.poolSet tag pool salt ramp settle drain width adoption)
    else none
  | _ => none

/-- SET_SCAN's fields after its code. -/
def decodeSetScan (tag : Byte) : List Byte → Option Instr
  | pr :: ps =>
    if presenceFits pr 6 then do
      let (mode, ps) ← takeByte (pr.getLsbD 0) ps
      let (divisor, ps) ← takeByte (pr.getLsbD 1) ps
      let (preamble, ps) ← takeByte (pr.getLsbD 2) ps
      let (first, ps) ← takeByte (pr.getLsbD 3) ps
      let (last, ps) ← takeByte (pr.getLsbD 4) ps
      let (deb, ps) ← takeByte (pr.getLsbD 5) ps
      whenDone ps (.setScan tag mode divisor preamble first last deb)
    else none
  | _ => none

/-- SET_LAMP_PATTERN's fields after its code. -/
def decodeSetLampPattern (tag : Byte) : List Byte → Option Instr
  | index :: pr :: ps =>
    if presenceFits pr 3 then do
      let (length, ps) ← takeByte (pr.getLsbD 0) ps
      let (width, ps) ← takeByte (pr.getLsbD 1) ps
      let (levels, ps) ← takeLevels (pr.getLsbD 2) ps
      whenDone ps (.setLampPattern tag index length width levels)
    else none
  | _ => none

/-- SET_LAMP_MAP's fields after its code: a count of at most 10 and that many entries. -/
def decodeSetLampMap (tag : Byte) : List Byte → Option Instr
  | count :: ps =>
    match takePairs ps with
    | some entries =>
      if entries.length = count.toNat ∧ count.toNat ≤ 10 then some (.setLampMap tag entries) else none
    | none => none
  | [] => none

/-- SET_DEVICE's fields after its code. -/
def decodeSetDevice (tag : Byte) : List Byte → Option Instr
  | pr :: ps =>
    if presenceFits pr 5 then do
      let (pause, ps) ← takeWord (pr.getLsbD 0) ps
      let (ack, ps) ← takeWord (pr.getLsbD 1) ps
      let (qualify, ps) ← takeWord (pr.getLsbD 2) ps
      let (attempts, ps) ← takeByte (pr.getLsbD 3) ps
      let (notices, ps) ← takeByte (pr.getLsbD 4) ps
      whenDone ps (.setDevice tag pause ack qualify attempts notices)
    else none
  | _ => none

/-- A request that carries no parameter. -/
def decodeBare (r : Instr) : List Byte → Option Instr
  | [] => some r
  | _ :: _ => none

/-- A request of one one-byte field. -/
def decodeOne (r : Byte → Instr) : List Byte → Option Instr
  | [a] => some (r a)
  | _ => none

/-- A request of two one-byte fields. -/
def decodeTwo (r : Byte → Byte → Instr) : List Byte → Option Instr
  | [a, b] => some (r a b)
  | _ => none

/-- A request of three one-byte fields. -/
def decodeThree (r : Byte → Byte → Byte → Instr) : List Byte → Option Instr
  | [a, b, c] => some (r a b c)
  | _ => none

/-- The request with code `code` and parameters `ps`, by the table of R201; `none` for an unknown code or
parameters of another length than the code calls for (R184). -/
def decodeBody (tag code : Byte) (ps : List Byte) : Option Instr :=
  match code.toNat with
  | 0x01 => decodeBare (.identify tag) ps
  | 0x02 => decodeOne (.readSlot tag) ps
  | 0x03 => decodeSetPolicy tag ps
  | 0x04 => decodeTwo (.setWeight tag) ps
  | 0x05 => decodeThree (.admitSlot tag) ps
  | 0x06 => decodeTwo (.retire tag) ps
  | 0x07 => decodeOne (.fence tag) ps
  | 0x08 => decodeOne (.unfence tag) ps
  | 0x09 => decodeOne (.requalify tag) ps
  | 0x0A => decodeTwo (.slotReset tag) ps
  | 0x0B => decodeOne (.clearAlarm tag) ps
  | 0x0C => decodeSetBeacon tag ps
  | 0x0D => decodePoolSet tag ps
  | 0x0E => decodeOne (.poolEnable tag) ps
  | 0x0F => decodeOne (.poolDisable tag) ps
  | 0x10 => decodeOne (.readPool tag) ps
  | 0x11 => decodeOne (.readBins tag) ps
  | 0x12 => decodeOne (.readMoves tag) ps
  | 0x13 => decodeSetScan tag ps
  | 0x14 => decodeOne (.scanRead tag) ps
  | 0x15 => decodeBare (.scanRestart tag) ps
  | 0x16 => decodeSetLampPattern tag ps
  | 0x17 => decodeSetLampMap tag ps
  | 0x18 => decodeTwo (.lampOverride tag) ps
  | 0x19 => decodeBare (.readAttention tag) ps
  | 0x1A => decodeThree (fun slot hi lo => .clearAttention tag slot (word16 hi lo)) ps
  | 0x1B => decodeBare (.readCounters tag) ps
  | 0x1C => decodeBare (.clearCounters tag) ps
  | 0x1D => decodeSetDevice tag ps
  | 0x1E => decodeBare (.readCause tag) ps
  | 0x1F => decodeBare (.restart tag) ps
  | _ => none

/-- The command by which the agent processes a request queue entry (R184, step 2): the request it spells,
or UNKNOWN_REQUEST for an overlength entry, an unknown code or a wrong length. -/
def decodeRequest (e : RequestEntry) : Instr :=
  match e.overlength, e.code with
  | false, some code => (decodeBody e.tag code e.params).getD (.unknownRequest e)
  | _, _ => .unknownRequest e

/-- The presence byte of a request whose optional fields are present as `bits` say, the first at bit 0. -/
def presenceByte : List Bool → Byte
  | [] => 0
  | b :: rest => (presenceByte rest <<< 1) ||| (if b then 1 else 0)

/-- An optional one-byte field as it is sent. -/
def putByte : Option Byte → List Byte
  | none => []
  | some b => [b]

/-- An optional two-byte field as it is sent. -/
def putWord : Option (BitVec 16) → List Byte
  | none => []
  | some w => bytes16 w

/-- SET_LAMP_PATTERN's optional levels field as it is sent. -/
def putLevels : Option (Byte × BitVec 16) → List Byte
  | none => []
  | some (c, w) => c :: bytes16 w

/-- The queue entry of a request that fits its entry. -/
def plainEntry (tag code : Byte) (ps : List Byte) : RequestEntry := ⟨tag, some code, ps, false⟩

/-- The request queue entry that a request command stands for, written from the layouts of R201; `none`
for a command that is no request. -/
def encodeRequest : Instr → Option RequestEntry
  | .identify t => some (plainEntry t 0x01 [])
  | .readSlot t a => some (plainEntry t 0x02 [a])
  | .setPolicy t slot c s g pool cls dl mode q =>
    some (plainEntry t 0x03 ([slot, c, s, g,
      presenceByte [pool.isSome, cls.isSome, dl.isSome, mode.isSome, q.isSome]]
      ++ putByte pool ++ putByte cls ++ putByte dl ++ putByte mode ++ putByte q))
  | .setWeight t a b => some (plainEntry t 0x04 [a, b])
  | .admitSlot t a b c => some (plainEntry t 0x05 [a, b, c])
  | .retire t a b => some (plainEntry t 0x06 [a, b])
  | .fence t a => some (plainEntry t 0x07 [a])
  | .unfence t a => some (plainEntry t 0x08 [a])
  | .requalify t a => some (plainEntry t 0x09 [a])
  | .slotReset t a b => some (plainEntry t 0x0A [a, b])
  | .clearAlarm t a => some (plainEntry t 0x0B [a])
  | .setBeacon t slot mode d low high alarm =>
    some (plainEntry t 0x0C ([slot,
      presenceByte [mode.isSome, d.isSome, low.isSome, high.isSome, alarm.isSome]]
      ++ putByte mode ++ putByte d ++ putByte low ++ putByte high ++ putByte alarm))
  | .poolSet t pool salt ramp settle drain width adoption =>
    some (plainEntry t 0x0D ([pool,
      presenceByte [salt.isSome, ramp.isSome, settle.isSome, drain.isSome, width.isSome, adoption.isSome]]
      ++ putByte salt ++ putWord ramp ++ putByte settle ++ putByte drain ++ putByte width ++ putByte adoption))
  | .poolEnable t a => some (plainEntry t 0x0E [a])
  | .poolDisable t a => some (plainEntry t 0x0F [a])
  | .readPool t a => some (plainEntry t 0x10 [a])
  | .readBins t a => some (plainEntry t 0x11 [a])
  | .readMoves t a => some (plainEntry t 0x12 [a])
  | .setScan t mode d pre first last deb =>
    some (plainEntry t 0x13 ([
      presenceByte [mode.isSome, d.isSome, pre.isSome, first.isSome, last.isSome, deb.isSome]]
      ++ putByte mode ++ putByte d ++ putByte pre ++ putByte first ++ putByte last ++ putByte deb))
  | .scanRead t a => some (plainEntry t 0x14 [a])
  | .scanRestart t => some (plainEntry t 0x15 [])
  | .setLampPattern t index len width levels =>
    some (plainEntry t 0x16 ([index, presenceByte [len.isSome, width.isSome, levels.isSome]]
      ++ putByte len ++ putByte width ++ putLevels levels))
  | .setLampMap t entries =>
    some (plainEntry t 0x17 (BitVec.ofNat 8 entries.length :: entries.flatMap (fun p => [p.1, p.2])))
  | .lampOverride t a b => some (plainEntry t 0x18 [a, b])
  | .readAttention t => some (plainEntry t 0x19 [])
  | .clearAttention t slot mask => some (plainEntry t 0x1A (slot :: bytes16 mask))
  | .readCounters t => some (plainEntry t 0x1B [])
  | .clearCounters t => some (plainEntry t 0x1C [])
  | .setDevice t pause ack qualify attempts notices =>
    some (plainEntry t 0x1D ([
      presenceByte [pause.isSome, ack.isSome, qualify.isSome, attempts.isSome, notices.isSome]]
      ++ putWord pause ++ putWord ack ++ putWord qualify ++ putByte attempts ++ putByte notices))
  | .readCause t => some (plainEntry t 0x1E [])
  | .restart t => some (plainEntry t 0x1F [])
  | .unknownRequest e => some e
  | .powerOn | .pinReset | .coreRxStart | .coreRxEnd _ _ | .slotRxStart _ | .slotRxEnd _ _ _
  | .lockGained _ | .lockLost _ | .attemptSuccess _ | .attemptTimerExpiry _ | .trainingLockLoss _
  | .lockLossExpiry _ | .remotePauseExpiry _ | .slotTxStart _ | .controlTxEnd _ | .egressTxEnd _
  | .coreArbiterChoice | .upstreamTxEnd | .mgmtTxEnd | .refreshTimerExpiry _ | .probeWindowExpiry _
  | .qualifyTimerExpiry _ | .deadlineExpiry _ | .acknowledgmentExpiry _ | .drainTimerExpiry _
  | .settleTimerExpiry _ | .rampTimerExpiry _ | .engineGrant | .adoptionTimerExpiry _
  | .readCycleEnd _ _ _ | .scanReadResponse | .saturationLatch _ | .beaconAlarm _ | .lampBaseStep => none

/-- The command that a word of spec/opcode_table.json spells. The table gives no row any bits: its rows are
events and requests, not encoded instructions. -/
def decodeTableWord (_nbits _w : Nat) : Option Instr := none

end Sys2Proof
end

