-- ==== Sys2Proof/Config.lean ====
section
/-! DEFINITION. What one SX-1208 fixes: the capacities the spec states, and the free value it leaves open. -/

namespace Sys2Proof.Config

/-- Frame Buffer cells (R85). -/
def frameCells : Nat := 2048

/-- The most bytes of a frame that is not oversize (R87, R88). -/
def largestFrame : Nat := 2048

/-- Frames an egress queue holds (R93). -/
def egressCapacity : Nat := 256

/-- Frames an upstream queue holds (R103). -/
def upstreamCapacity : Nat := 128

/-- Frames a hold list holds (R63). -/
def holdCapacity : Nat := 32

/-- Entries the request queue holds (R183). -/
def requestCapacity : Nat := 8

/-- Frames the transmit queue holds (R185). -/
def transmitCapacity : Nat := 16

/-- Bytes of payload that a request queue entry keeps (R180). -/
def requestPayloadLimit : Nat := 240

/-- FREE VALUE (log entry 7). The effective quota that READ_COUNTERS reports for a slot outside the
accepting states: R106 states none, so nothing constrains it. Applied to the count of free values drawn. -/
opaque quotaOutsideAccepting : Nat → Byte

end Sys2Proof.Config
end

