-- ==== Sys2Proof/Machine/State.lean ====
section
/-! DEFINITION. The state of the part, as plain data: the records each chapter of the spec gives its block,
and their values after power-on. -/

namespace Sys2Proof.Machine

/-- The retirement phase (R4). -/
inductive Phase where
  | moving
  | confirming
  deriving DecidableEq, Repr

/-- The lifecycle states of a slot; the retirement phase is present exactly in RETIRING (R4). -/
inductive SlotState where
  | empty
  | seated
  | probing
  | standby
  | admitting
  | inService
  | retiring (phase : Phase)
  | drained
  | faulted
  | fenced
  deriving DecidableEq, Repr

/-- The rate rule of link training (R4, R122). -/
inductive RateMode where
  | auto
  | full
  | half
  deriving DecidableEq, Repr

/-- The fault causes (R4). -/
inductive FaultCause where
  | trainTimeout
  | classMismatch
  | probeMismatch
  | probeTimeout
  | beaconUnqualified
  | linkLost
  | beaconAlarm
  | powerLost
  deriving DecidableEq, Repr

/-- A timer: stopped, or running with the ticks that remain; it is due when none remain (R1). -/
abbrev Timer := Option Nat

/-- The slot record (R4, R5). Bins held and target are read from the Pool Controller. -/
structure SlotRecord where
  state : SlotState
  pool : Option PoolIx
  weight : Nat
  expectedClass : Nat
  /-- AUTO_ADMIT, AUTO_RETIRE, FORCE_ON_DEADLINE, ALARM_RETIRE, ALARM_EVACUATE, from bit 0 (R201). -/
  policy : BitVec 5
  /-- Seconds; 0 for no deadline. -/
  retireDeadline : Nat
  rateMode : RateMode
  /-- The upstream quota Q. -/
  quota : Nat
  /-- The fault cause, kept as the last fault. -/
  lastFault : Option FaultCause
  /-- The eleven attention flags, at the mask bits of R201. -/
  attention : BitVec 11
  /-- The echoes received: bit n for sequence number n. -/
  echoes : BitVec 8
  beaconsQualified : Bool
  probeTimer : Timer
  qualifyTimer : Timer
  deadlineTimer : Timer
  ackTimer : Timer
  deriving DecidableEq, Repr

/-- A bin's owner state (R39). -/
inductive Owner where
  | unowned
  | owned (slot : SlotIx)
  | stale (slot : SlotIx)
  deriving DecidableEq, Repr

/-- The bin record (R39). -/
structure BinRecord where
  owner : Owner
  inflight : Nat
  engine : Option EngineIx
  deriving DecidableEq, Repr

/-- An entry of a Move Plan (R46). -/
structure PlanEntry where
  bin : BinIx
  source : SlotIx
  destination : SlotIx
  deriving DecidableEq, Repr

/-- The pool record (R37) with the pool's 64 bin records (R39). E, W, dark and the number of active moves
are derived. -/
structure PoolRecord where
  enabled : Bool
  salt : Byte
  /-- Milliseconds. -/
  rampInterval : Nat
  /-- Monitor ticks. -/
  settleTime : Nat
  /-- Milliseconds. -/
  drainLimit : Nat
  width : Nat
  /-- Seconds. -/
  adoptionWindow : Nat
  /-- The targets of R42; they stand between recomputations. -/
  targets : Table Nat 12
  rampTimer : Timer
  /-- The adoption window is open while this runs. -/
  adoptionTimer : Timer
  /-- The Move Plan, head first (R47). -/
  plan : List PlanEntry
  bins : Table BinRecord 64
  /-- The seven pool counters, in the order of R193. -/
  counters : Table Counter 7
  deriving DecidableEq, Repr

/-- The state of an engine that has a move (R62). -/
inductive MovePhase where
  | draining
  | settling
  deriving DecidableEq, Repr

/-- The record of an engine that is not IDLE (R61). -/
structure MoveRecord where
  pool : PoolIx
  bin : BinIx
  source : SlotIx
  destination : SlotIx
  drainLimit : Nat
  settleTime : Nat
  phase : MovePhase
  /-- What remains of the drain timer (ms) or the settle timer (monitor ticks), whichever the phase runs. -/
  timer : Nat
  /-- The hold list, head first (R63). -/
  hold : List FrameBytes
  deriving DecidableEq, Repr

/-- An entry of an egress queue (R93): the frame and, for a pool frame, the pool and bin it was steered
through. -/
structure EgressEntry where
  bytes : FrameBytes
  steered : Option (PoolIx × BinIx)
  deriving DecidableEq, Repr

/-- A slot's upstream queue, head first, and its local pause state: PAUSED with the refresh timer's remaining
µs, or CLEAR (R103, R108). -/
structure UpstreamRecord where
  queue : List FrameBytes
  pause : Timer
  deriving DecidableEq, Repr

/-- The link states (R120). -/
inductive LinkState where
  | dark
  | training
  | up
  | parked
  deriving DecidableEq, Repr

/-- The two rates (R122). -/
inductive Rate where
  | full
  | half
  deriving DecidableEq, Repr

/-- The optional fields of a link record: absent in DARK (R120). -/
structure TrainRecord where
  rate : Rate
  attempt : Nat
  limit : Nat
  mode : RateMode
  deriving DecidableEq, Repr

/-- A link control frame waiting in a control list (R132); its payload is built as it is sent (R134), a PAUSE with the
time it was asked for with (R132, R200; log entry 40). -/
inductive ControlFrame where
  | probe (seq : Fin 8)
  | admitNotice
  | retireNotice
  | pause (time : Nat)
  deriving DecidableEq, Repr

/-- The frame in transmission on a slot link (R133): a control frame as built, or the head of the egress
queue. -/
inductive LinkTx where
  | control (bytes : FrameBytes)
  | data
  deriving DecidableEq, Repr

/-- The link record (R120), with the reception and the transmission in progress. -/
structure LinkRecord where
  state : LinkState
  train : Option TrainRecord
  lock : Bool
  lost : Bool
  /-- Lock has been gained in the attempt in progress (R123; log entry 10). -/
  lockedInAttempt : Bool
  attemptTimer : Timer
  lockLossTimer : Timer
  /-- HALTED with the remote-pause timer's remaining µs, or CLEAR (R130). -/
  remotePause : Timer
  control : List ControlFrame
  /-- A reception in progress: `some true` when it took a cell, `some false` when unstored (R86). -/
  rx : Option Bool
  tx : Option LinkTx
  deriving DecidableEq, Repr

/-- The modes of a Beacon Monitor (R139). -/
inductive MonitorMode where
  | poll
  | alarm
  deriving DecidableEq, Repr

/-- The phases of a Beacon Monitor (R139). The alarm is raised exactly while FROZEN. -/
inductive MonitorPhase where
  | idle
  | counting
  | frozen
  deriving DecidableEq, Repr

/-- The monitor record (R139). -/
structure MonitorRecord where
  mode : MonitorMode
  divisor : Nat
  lowLimit : Nat
  highLimit : Nat
  alarmLimit : Nat
  linkRunning : Bool
  phase : MonitorPhase
  runningCount : Nat
  tickRemainder : Nat
  latchedCount : Nat
  latchedSaturated : Bool
  run : Nat
  deriving DecidableEq, Repr

/-- A filtered signal of a status port: its accepted value and its candidate with its count (R154). -/
structure Signal (α : Type) where
  accepted : α
  candidate : Option (α × Nat)
  deriving DecidableEq, Repr

/-- The scanner's record of one slot (R154); `true` is present, good, closed. -/
structure PortRecord where
  presence : Signal Bool
  power : Signal Bool
  handle : Signal Bool
  bladeClass : Signal (BitVec 4)
  noResponse : Nat
  deriving DecidableEq, Repr

/-- The scanner's modes (R154). -/
inductive ScanMode where
  | scan
  | single
  | off
  deriving DecidableEq, Repr

/-- A read cycle in progress, with what it took at its start (R154, R155). -/
structure BusCycle where
  address : SlotIx
  /-- The cycle of the pending single read; otherwise a rotation cycle. -/
  isSingle : Bool
  /-- The mode the cycle began in (R155). No rule reads it: at its end the next choice goes by the mode that stands (R161). -/
  mode : ScanMode
  divisor : Nat
  preamble : Bool
  deriving DecidableEq, Repr

/-- The recorded result of a single read (R163): the word read (absent for a no-response read), and the
slot's accepted values, candidates and no-response count after the sample. -/
structure ReadResult where
  word : Option Byte
  port : PortRecord
  deriving DecidableEq, Repr

/-- The pending single read (R154). -/
structure PendingRead where
  slot : SlotIx
  tag : Byte
  result : Option ReadResult
  deriving DecidableEq, Repr

/-- The scanner's bus settings and bus state (R154). -/
structure ScannerRecord where
  mode : ScanMode
  divisor : Nat
  preamble : Bool
  firstAddress : SlotIx
  lastAddress : SlotIx
  debounce : Nat
  cycle : Option BusCycle
  pointer : Option SlotIx
  forcedPreamble : Bool
  pendingRead : Option PendingRead
  deriving DecidableEq, Repr

/-- A lamp pattern: its levels in order, lit or dark, and the base steps each lasts (R170). -/
structure Pattern where
  levels : List Bool
  width : Nat
  deriving DecidableEq, Repr

/-- The Lamp Driver's state (R169). The State Map is in the order of the state codes of R201. -/
structure LampRecord where
  patterns : Table Pattern 8
  stateMap : Table PatternIx 10
  override : Table (Option PatternIx) 12
  /-- The step counter S. -/
  counter : BitVec 32
  /-- Lit, per lamp. -/
  level : Table Bool 12
  deriving DecidableEq, Repr

/-- The causes of the Reset Cause record (R195). -/
inductive ResetCause where
  | power
  | pin
  | restart
  deriving DecidableEq, Repr

/-- A request that waits in the request queue: the agent's own copy of its frame's ten header bytes (R90, R199), and the
entry its payload gives (R180). Nothing examines the header again. -/
structure QueuedRequest where
  header : List Byte
  entry : RequestEntry
  deriving DecidableEq, Repr

/-- The Management Agent's state (R90, R180, R183, R185, R187, R191, R195). A transmit queue entry is a payload;
its frame is built as it is transmitted (R85). -/
structure AgentRecord where
  requests : List QueuedRequest
  transmit : List (List Byte)
  /-- The device pause time T, µs. -/
  pauseTime : Nat
  /-- Milliseconds. -/
  ackTimeout : Nat
  /-- Milliseconds. -/
  qualifyLimit : Nat
  trainingAttempts : Nat
  noticesEnabled : Bool
  /-- RESTARTED at bit 0, PIN_RESET at bit 1 (R201). -/
  deviceFlags : BitVec 2
  lastCause : ResetCause
  pinResets : Nat
  restarts : Nat
  /-- The agent's five counters, in the order of R193. -/
  counters : Table Counter 5
  deriving DecidableEq, Repr

/-- What the core link's transmitter is sending (R112): a management frame, or the head of a slot's upstream
queue with its source replaced (R113). -/
inductive CoreTx where
  | idle
  | mgmt (bytes : FrameBytes)
  | upstream (slot : SlotIx) (bytes : FrameBytes)
  deriving DecidableEq, Repr

/-- The Core Port and the Core Transmit Arbiter (R87, R97, R112). -/
structure CorePort where
  /-- RECEIVING: `some true` when the frame took a cell, `some false` when unstored; IDLE otherwise. -/
  rx : Option Bool
  tx : CoreTx
  /-- The last slot served. -/
  pointer : SlotIx
  /-- The core port's seven counters, in the order of R193. -/
  counters : Table Counter 7
  deriving DecidableEq, Repr

/-- The whole state of the part. -/
structure State where
  /-- The Slot Table (R4). -/
  slots : Table SlotRecord 12
  /-- The Pool and Bin Tables (R37, R39). -/
  pools : Table PoolRecord 4
  /-- The move engines; an absent record is IDLE (R61). -/
  engines : Table (Option MoveRecord) 4
  /-- The engine arbiter's pointer: the last pool granted (R56). -/
  arbiter : PoolIx
  /-- The egress queues, head first (R93). -/
  egress : Table (List EgressEntry) 12
  /-- The upstream queues and local pause states (R103, R108). -/
  upstream : Table UpstreamRecord 12
  /-- The link records (R120). -/
  links : Table LinkRecord 12
  /-- The monitor records (R139). -/
  monitors : Table MonitorRecord 12
  /-- The scanner's per-slot records (R154). -/
  ports : Table PortRecord 12
  /-- The scanner's bus (R154). -/
  scanner : ScannerRecord
  /-- The Lamp Driver (R169). -/
  lamps : LampRecord
  /-- The Management Agent (R180). -/
  agent : AgentRecord
  /-- The Core Port and its transmit arbiter (R87, R112). -/
  core : CorePort
  /-- Each slot's twenty-four counters, in the order of R193. -/
  slotCounters : Table (Table Counter 24) 12
  /-- The Timebase's dividers: µs since the last 25 ms tick (R1; log entry 22). -/
  micros : Nat
  /-- The model's own: how many free values have been drawn (log entry 7). -/
  freeDraws : Nat
  /-- The model's own: the commands that are waiting, first in, first out (log entry 1). -/
  pending : List Instr
  deriving DecidableEq, Repr

/-- Nothing stops the part: what goes wrong is an effect on its state (a counter, a status, a flag, a
FAULTED slot), so no command raises a fault. -/
inductive Fault where
  deriving DecidableEq, Repr

/-- Why a command has no outcome. -/
inductive Refusal where
  /-- Raised by an arm of exec whose command has no meaning yet; safe. No arm raises it. -/
  | notModelled (mnemonic : String)
  deriving DecidableEq, Repr

/-- A slot record after power-on (R35). -/
def SlotRecord.powerOn : SlotRecord where
  state := .empty
  pool := none
  weight := 1
  expectedClass := 0
  policy := 0
  retireDeadline := 0
  rateMode := .auto
  quota := 64
  lastFault := none
  attention := 0
  echoes := 0
  beaconsQualified := false
  probeTimer := none
  qualifyTimer := none
  deadlineTimer := none
  ackTimer := none

/-- A pool record after power-on (R37, R59). -/
def PoolRecord.powerOn : PoolRecord where
  enabled := false
  salt := 0
  rampInterval := 20
  settleTime := 10
  drainLimit := 20
  width := 1
  adoptionWindow := 5
  targets := Table.fill 12 0
  rampTimer := none
  adoptionTimer := none
  plan := []
  bins := Table.fill 64 ⟨.unowned, 0, none⟩
  counters := Table.fill 7 0

/-- A link record after power-on (R137). -/
def LinkRecord.powerOn : LinkRecord where
  state := .dark
  train := none
  lock := false
  lost := false
  lockedInAttempt := false
  attemptTimer := none
  lockLossTimer := none
  remotePause := none
  control := []
  rx := none
  tx := none

/-- A monitor record after power-on (R152). -/
def MonitorRecord.powerOn : MonitorRecord where
  mode := .poll
  divisor := 1
  lowLimit := 50
  highLimit := 150
  alarmLimit := 200
  linkRunning := false
  phase := .idle
  runningCount := 0
  tickRemainder := 0
  latchedCount := 0
  latchedSaturated := false
  run := 0

/-- A port record after power-on: absent, not good, closed, class 0 (R167). -/
def PortRecord.powerOn : PortRecord where
  presence := ⟨false, none⟩
  power := ⟨false, none⟩
  handle := ⟨true, none⟩
  bladeClass := ⟨0, none⟩
  noResponse := 0

/-- The scanner after power-on, its first cycle not yet begun (R154, R167; log entry 12). -/
def ScannerRecord.powerOn : ScannerRecord where
  mode := .scan
  divisor := 50
  preamble := true
  firstAddress := 0
  lastAddress := 11
  debounce := 3
  cycle := none
  pointer := none
  forcedPreamble := true
  pendingRead := none

/-- Two dark levels of 25 ms: OFF, and the spare patterns (R178). -/
def patternOff : Pattern := ⟨[false, false], 1⟩

/-- The default Pattern Table (R178). -/
def defaultPatterns : Table Pattern 8 where
  cells := [
    patternOff,
    ⟨[true, true], 1⟩,
    ⟨List.replicate 8 true ++ List.replicate 8 false, 4⟩,
    ⟨[true, true, false, false], 4⟩,
    ⟨[true, false, true, false] ++ List.replicate 12 false, 2⟩,
    patternOff, patternOff, patternOff]
  size := rfl

/-- The default State Map, in state-code order (R178). -/
def defaultStateMap : Table PatternIx 10 where
  cells := [0, 2, 2, 0, 3, 0, 3, 1, 4, 1]
  size := rfl

/-- The Lamp Driver after power-on (R178). -/
def LampRecord.powerOn : LampRecord where
  patterns := defaultPatterns
  stateMap := defaultStateMap
  override := Table.fill 12 none
  counter := 0
  level := Table.fill 12 false

/-- The Management Agent after power-on (R191, R197). -/
def AgentRecord.powerOn : AgentRecord where
  requests := []
  transmit := []
  pauseTime := 500
  ackTimeout := 100
  qualifyLimit := 500
  trainingAttempts := 3
  noticesEnabled := false
  deviceFlags := 0
  lastCause := .power
  pinResets := 0
  restarts := 0
  counters := Table.fill 5 0

/-- The Core Port after power-on (R98, R117). -/
def CorePort.powerOn : CorePort where
  rx := none
  tx := .idle
  pointer := 11
  counters := Table.fill 7 0

/-- The part right after power-on: every block at the values its chapter states, no command waiting. -/
def State.reset : State where
  slots := Table.fill 12 SlotRecord.powerOn
  pools := Table.fill 4 PoolRecord.powerOn
  engines := Table.fill 4 none
  arbiter := 3
  egress := Table.fill 12 []
  upstream := Table.fill 12 ⟨[], none⟩
  links := Table.fill 12 LinkRecord.powerOn
  monitors := Table.fill 12 MonitorRecord.powerOn
  ports := Table.fill 12 PortRecord.powerOn
  scanner := ScannerRecord.powerOn
  lamps := LampRecord.powerOn
  agent := AgentRecord.powerOn
  core := CorePort.powerOn
  slotCounters := Table.fill 12 (Table.fill 24 0)
  micros := 0
  freeDraws := 0
  pending := []

end Sys2Proof.Machine
end

