-- ==== Sys2Proof/Machine/Operands.lean ====
section
/-! DEFINITION. The operand forms of requests and responses: numbers and their codes (R201–R204), clamps
(R2), and the bytes that fields are reported in. -/

namespace Sys2Proof.Machine

/-- The slot that a byte names: 1–12 (00, Numbering). -/
def slotOf (b : Byte) : Option SlotIx :=
  if h : 1 ≤ b.toNat ∧ b.toNat ≤ 12 then some ⟨b.toNat - 1, by omega⟩ else none

/-- The pool that a byte names: 0–3. -/
def poolOf (b : Byte) : Option PoolIx :=
  if h : b.toNat < 4 then some ⟨b.toNat, h⟩ else none

/-- The pattern index that a byte names: 0–7. -/
def patternOf (b : Byte) : Option PatternIx :=
  if h : b.toNat < 8 then some ⟨b.toNat, h⟩ else none

/-- A force byte: 0 is clear, any other value set (R201). -/
def forceOf (b : Byte) : Bool := b ≠ 0

/-- The value taken for `n` when it is clamped to `lo`–`hi` (R2). -/
def clampTo (lo hi n : Nat) : Nat := max lo (min n hi)

/-- The settings as they stand, with those a request carries put in their place. -/
def carried {α : Type} (old : α) (new : Option α) : α := new.getD old

/-- A number in a one-byte field. -/
def byteOf (n : Nat) : Byte := BitVec.ofNat 8 n

/-- A number in a two-byte field, most significant byte first. -/
def word16Of (n : Nat) : List Byte := bytes16 (BitVec.ofNat 16 n)

/-- A 32-bit value in a four-byte field, most significant byte first. -/
def bytes32 (w : BitVec 32) : List Byte :=
  [w.extractLsb' 24 8, w.extractLsb' 16 8, w.extractLsb' 8 8, w.extractLsb' 0 8]

/-- The number of a slot, 1–12. -/
def slotByte (i : SlotIx) : Byte := byteOf (i.val + 1)

/-- A yes or no field: 1 or 0 (R204). -/
def flagByte (b : Bool) : Byte := if b then 1 else 0

/-- A single-byte field whose value may be absent: FF hex (R204). -/
def absentByte (o : Option Byte) : Byte := o.getD 0xFF

/-- A two-byte timer field: the remaining time, or FFFF hex when stopped (R204). -/
def timerBytes (t : Timer) : List Byte := word16Of (t.getD 0xFFFF)

/-- The code of a slot state (R201). -/
def stateCode : SlotState → Fin 10
  | .empty => 0
  | .seated => 1
  | .probing => 2
  | .standby => 3
  | .admitting => 4
  | .inService => 5
  | .retiring _ => 6
  | .drained => 7
  | .faulted => 8
  | .fenced => 9

/-- The code of the phase that follows a reported state (R201). -/
def phaseCode : SlotState → Nat
  | .retiring .moving => 1
  | .retiring .confirming => 2
  | .empty | .seated | .probing | .standby | .admitting | .inService | .drained | .faulted | .fenced => 0

/-- A reported state: its code and its phase byte. -/
def stateBytes (st : SlotState) : List Byte := [byteOf (stateCode st).val, byteOf (phaseCode st)]

/-- The code of a fault cause (R201). -/
def causeCode : FaultCause → Nat
  | .trainTimeout => 1
  | .classMismatch => 2
  | .probeMismatch => 3
  | .probeTimeout => 4
  | .beaconUnqualified => 5
  | .linkLost => 6
  | .beaconAlarm => 7
  | .powerLost => 8

/-- The code of a rate mode (R201). -/
def rateModeCode : RateMode → Nat
  | .auto => 0
  | .full => 1
  | .half => 2

/-- The rate mode that a byte names. -/
def rateModeOf (b : Byte) : Option RateMode :=
  match b.toNat with
  | 0 => some .auto
  | 1 => some .full
  | 2 => some .half
  | _ => none

/-- The code of a link state (R204). -/
def linkStateCode : LinkState → Nat
  | .dark => 0
  | .training => 1
  | .up => 2
  | .parked => 3

/-- The code of a rate (R204). -/
def rateCode : Rate → Nat
  | .full => 1
  | .half => 2

/-- The code of a monitor mode (R201). -/
def monitorModeCode : MonitorMode → Nat
  | .poll => 0
  | .alarm => 1

/-- The monitor mode that a byte names. -/
def monitorModeOf (b : Byte) : Option MonitorMode :=
  match b.toNat with
  | 0 => some .poll
  | 1 => some .alarm
  | _ => none

/-- The code of a monitor phase (R202). -/
def monitorPhaseCode : MonitorPhase → Nat
  | .idle => 0
  | .counting => 1
  | .frozen => 2

/-- The code of a scanner mode (R201). -/
def scanModeCode : ScanMode → Nat
  | .scan => 0
  | .single => 1
  | .off => 2

/-- The scanner mode that a byte names. -/
def scanModeOf (b : Byte) : Option ScanMode :=
  match b.toNat with
  | 0 => some .scan
  | 1 => some .single
  | 2 => some .off
  | _ => none

/-- The code of a reset cause (R202). -/
def causeByte : ResetCause → Byte
  | .power => 1
  | .pin => 2
  | .restart => 3

/-- The base steps of a step width in ms, for the four widths there are (R170). -/
def widthOf (b : Byte) : Option Nat :=
  match b.toNat with
  | 25 => some 1
  | 50 => some 2
  | 100 => some 4
  | 200 => some 8
  | _ => none

/-- ADMITTING or IN_SERVICE: the states of an eligible member (00, Terms). -/
def SlotState.eligible : SlotState → Bool
  | .admitting | .inService => true
  | .empty | .seated | .probing | .standby | .retiring _ | .drained | .faulted | .fenced => false

/-- The states of a holding member: ADMITTING, IN_SERVICE, RETIRING (R37). -/
def SlotState.holding : SlotState → Bool
  | .admitting | .inService | .retiring _ => true
  | .empty | .seated | .probing | .standby | .drained | .faulted | .fenced => false

/-- The accepting states of upstream admission (R105). -/
def SlotState.accepting : SlotState → Bool
  | .probing | .standby | .admitting | .inService | .retiring _ => true
  | .empty | .seated | .drained | .faulted | .fenced => false

/-- The states in which a slot frame is offered to the slot's egress queue (R92). -/
def SlotState.delivers : SlotState → Bool
  | .probing | .standby | .admitting | .inService | .retiring .moving => true
  | .empty | .seated | .retiring .confirming | .drained | .faulted | .fenced => false

/-- The policy flags, at their mask bits (R201). -/
def SlotRecord.autoAdmit (r : SlotRecord) : Bool := r.policy.getLsbD 0

/-- AUTO_RETIRE. -/
def SlotRecord.autoRetire (r : SlotRecord) : Bool := r.policy.getLsbD 1

/-- FORCE_ON_DEADLINE. -/
def SlotRecord.forceOnDeadline (r : SlotRecord) : Bool := r.policy.getLsbD 2

/-- ALARM_RETIRE. -/
def SlotRecord.alarmRetire (r : SlotRecord) : Bool := r.policy.getLsbD 3

/-- ALARM_EVACUATE. -/
def SlotRecord.alarmEvacuate (r : SlotRecord) : Bool := r.policy.getLsbD 4

end Sys2Proof.Machine
end

