-- ==== Sys2Proof/Machine/Ops.lean ====
section
/-! DEFINITION. The named operations over the part's records, counters and Frame Buffer, on which every
meaning is built. -/

namespace Sys2Proof.Machine

/-- The state with slot record `i` changed. -/
def State.updSlot (s : State) (i : SlotIx) (f : SlotRecord → SlotRecord) : State :=
  { s with slots := s.slots.modify i f }

/-- The state with pool record `p` changed. -/
def State.updPool (s : State) (p : PoolIx) (f : PoolRecord → PoolRecord) : State :=
  { s with pools := s.pools.modify p f }

/-- The state with bin record `b` of pool `p` changed. -/
def State.updBin (s : State) (p : PoolIx) (b : BinIx) (f : BinRecord → BinRecord) : State :=
  s.updPool p fun r => { r with bins := r.bins.modify b f }

/-- The state with the record of engine `e` replaced; `none` is IDLE. -/
def State.setEngine (s : State) (e : EngineIx) (m : Option MoveRecord) : State :=
  { s with engines := s.engines.set e m }

/-- The state with egress queue `i` replaced. -/
def State.setEgress (s : State) (i : SlotIx) (q : List EgressEntry) : State :=
  { s with egress := s.egress.set i q }

/-- The state with upstream record `i` changed. -/
def State.updUpstream (s : State) (i : SlotIx) (f : UpstreamRecord → UpstreamRecord) : State :=
  { s with upstream := s.upstream.modify i f }

/-- The state with link record `i` changed. -/
def State.updLink (s : State) (i : SlotIx) (f : LinkRecord → LinkRecord) : State :=
  { s with links := s.links.modify i f }

/-- The state with monitor record `i` changed. -/
def State.updMonitor (s : State) (i : SlotIx) (f : MonitorRecord → MonitorRecord) : State :=
  { s with monitors := s.monitors.modify i f }

/-- The state with the scanner's record of slot `i` changed. -/
def State.updPort (s : State) (i : SlotIx) (f : PortRecord → PortRecord) : State :=
  { s with ports := s.ports.modify i f }

/-- The state with the scanner's bus changed. -/
def State.updScanner (s : State) (f : ScannerRecord → ScannerRecord) : State :=
  { s with scanner := f s.scanner }

/-- The state with the Lamp Driver changed. -/
def State.updLamps (s : State) (f : LampRecord → LampRecord) : State :=
  { s with lamps := f s.lamps }

/-- The state with the Management Agent changed. -/
def State.updAgent (s : State) (f : AgentRecord → AgentRecord) : State :=
  { s with agent := f s.agent }

/-- The state with the Core Port changed. -/
def State.updCore (s : State) (f : CorePort → CorePort) : State :=
  { s with core := f s.core }

/-- `f` on each of a list of numbers, in order. -/
def forEach {ι σ : Type} (f : ι → σ → σ) (is : List ι) (s : σ) : σ :=
  is.foldl (fun s i => f i s) s

/-- A counter raised by `n`: it stays at its largest value once it reaches it (R3). -/
def counterAdd (c : Counter) (n : Nat) : Counter :=
  BitVec.ofNat 32 (min (c.toNat + n) 0xFFFFFFFF)

/-- The core port's counters (R193). -/
inductive CoreCounter where
  | rxFrames
  | noBuffer
  | rxAborted
  | lengthErrors
  | headerErrors
  | crcErrors
  | badTarget
  deriving DecidableEq, Repr

/-- Each pool's counters (R193). -/
inductive PoolCounter where
  | poolDisabled
  | poolDark
  | immediateAssigns
  | movesDone
  | earlyCommits
  | forcedCommits
  | abortedMoves
  deriving DecidableEq, Repr

/-- Each slot's counters (R193). -/
inductive SlotCounter where
  | noBuffer
  | rxAborted
  | lengthErrors
  | headerErrors
  | crcErrors
  | egressFull
  | slotUnreachable
  | delivered
  | flushed
  | upstreamAdmitted
  | upstreamSent
  | quotaDrop
  | lateUpstream
  | mgmtFromSlot
  | pauseSent
  | linkUps
  | trainFailures
  | lockLosses
  | remotePauses
  | controlSent
  | strayControl
  | beacons
  | scanGood
  | scanFailed
  deriving DecidableEq, Repr

/-- The Management Agent's counters (R193). -/
inductive AgentCounter where
  | requestsTaken
  | requestDrops
  | responsesSent
  | noticesSent
  | noticeDrops
  deriving DecidableEq, Repr

/-- The place of a core-port counter in the order of R193. -/
def CoreCounter.ix : CoreCounter → Fin 7
  | .rxFrames => 0
  | .noBuffer => 1
  | .rxAborted => 2
  | .lengthErrors => 3
  | .headerErrors => 4
  | .crcErrors => 5
  | .badTarget => 6

/-- The place of a pool counter in the order of R193. -/
def PoolCounter.ix : PoolCounter → Fin 7
  | .poolDisabled => 0
  | .poolDark => 1
  | .immediateAssigns => 2
  | .movesDone => 3
  | .earlyCommits => 4
  | .forcedCommits => 5
  | .abortedMoves => 6

/-- The place of a slot counter in the order of R193. -/
def SlotCounter.ix : SlotCounter → Fin 24
  | .noBuffer => 0
  | .rxAborted => 1
  | .lengthErrors => 2
  | .headerErrors => 3
  | .crcErrors => 4
  | .egressFull => 5
  | .slotUnreachable => 6
  | .delivered => 7
  | .flushed => 8
  | .upstreamAdmitted => 9
  | .upstreamSent => 10
  | .quotaDrop => 11
  | .lateUpstream => 12
  | .mgmtFromSlot => 13
  | .pauseSent => 14
  | .linkUps => 15
  | .trainFailures => 16
  | .lockLosses => 17
  | .remotePauses => 18
  | .controlSent => 19
  | .strayControl => 20
  | .beacons => 21
  | .scanGood => 22
  | .scanFailed => 23

/-- The place of an agent counter in the order of R193. -/
def AgentCounter.ix : AgentCounter → Fin 5
  | .requestsTaken => 0
  | .requestDrops => 1
  | .responsesSent => 2
  | .noticesSent => 3
  | .noticeDrops => 4

/-- A core-port counter rises by one. -/
def bumpCore (c : CoreCounter) (s : State) : State :=
  s.updCore fun k => { k with counters := k.counters.modify c.ix (counterAdd · 1) }

/-- A counter of pool `p` rises by `n`. -/
def bumpPool (p : PoolIx) (c : PoolCounter) (n : Nat) (s : State) : State :=
  s.updPool p fun r => { r with counters := r.counters.modify c.ix (counterAdd · n) }

/-- A counter of slot `i` rises by `n`. -/
def bumpSlotBy (i : SlotIx) (c : SlotCounter) (n : Nat) (s : State) : State :=
  { s with slotCounters := s.slotCounters.modify i fun t => t.modify c.ix (counterAdd · n) }

/-- A counter of slot `i` rises by one. -/
def bumpSlot (i : SlotIx) (c : SlotCounter) (s : State) : State := bumpSlotBy i c 1 s

/-- A counter of the Management Agent rises by one. -/
def bumpAgent (c : AgentCounter) (s : State) : State :=
  s.updAgent fun a => { a with counters := a.counters.modify c.ix (counterAdd · 1) }

/-- A counter's value. -/
def State.coreCount (s : State) (c : CoreCounter) : Counter := s.core.counters.get c.ix

/-- A pool counter's value. -/
def State.poolCount (s : State) (p : PoolIx) (c : PoolCounter) : Counter := (s.pools.get p).counters.get c.ix

/-- A slot counter's value. -/
def State.slotCount (s : State) (i : SlotIx) (c : SlotCounter) : Counter := (s.slotCounters.get i).get c.ix

/-- An agent counter's value. -/
def State.agentCount (s : State) (c : AgentCounter) : Counter := s.agent.counters.get c.ix

/-- The sum of a quantity over the records of a table. -/
def tableSum {α : Type} {n : Nat} (f : α → Nat) (t : Table α n) : Nat := (t.cells.map f).sum

/-- The cells a reception holds: one when it took a cell, none when it is unstored or there is none. -/
def receptionCells : Option Bool → Nat
  | some true => 1
  | some false | none => 0

/-- The cells a hold list holds. -/
def holdCells : Option MoveRecord → Nat
  | some m => m.hold.length
  | none => 0

/-- Frame Buffer cells in use: "the number of frames being received plus the frames in egress queues, hold
lists and upstream queues" (R85; log entry 6). -/
def cellsInUse (s : State) : Nat :=
  receptionCells s.core.rx + tableSum (fun l => receptionCells l.rx) s.links
    + tableSum List.length s.egress + tableSum holdCells s.engines
    + tableSum (fun u => u.queue.length) s.upstream

/-- What the start of a reception finds: a free cell, which it takes, or none (R85, R86). -/
def takesCell (s : State) : Bool := cellsInUse s < Config.frameCells

/-- The bins of pool `p` that slot `i` owns (R4). -/
def binsHeld (s : State) (p : PoolIx) (i : SlotIx) : Nat :=
  ((s.pools.get p).bins.cells.filter fun b => b.owner = .owned i).length

/-- Bins held, as the slot record reports them: in the slot's own pool (R4). -/
def slotHeld (s : State) (i : SlotIx) : Nat :=
  match (s.slots.get i).pool with
  | some p => binsHeld s p i
  | none => 0

/-- The target, as the slot record reports it (R4). -/
def slotTarget (s : State) (i : SlotIx) : Nat :=
  match (s.slots.get i).pool with
  | some p => (s.pools.get p).targets.get i
  | none => 0

/-- Slot `i` is a member of pool `p` (R37). -/
def isMember (s : State) (p : PoolIx) (i : SlotIx) : Bool := (s.slots.get i).pool = some p

/-- Slot `i` is an eligible member of pool `p`. -/
def isEligible (s : State) (p : PoolIx) (i : SlotIx) : Bool :=
  isMember s p i && (s.slots.get i).state.eligible

/-- Slot `i` is a holding member of pool `p` (R37). -/
def isHolding (s : State) (p : PoolIx) (i : SlotIx) : Bool :=
  isMember s p i && (s.slots.get i).state.holding

/-- The eligible members E of pool `p`, ascending. -/
def eligibleMembers (s : State) (p : PoolIx) : List SlotIx := (List.finRange 12).filter (isEligible s p)

/-- The weight a slot brings to the apportionment of pool `p`: its weight while eligible, else none. -/
def eligibleWeight (s : State) (p : PoolIx) (i : SlotIx) : Nat :=
  if isEligible s p i then (s.slots.get i).weight else 0

/-- The total weight W of pool `p` (R37). -/
def totalWeight (w : SlotIx → Nat) : Nat := ((List.finRange 12).map w).sum

/-- A pool is dark while it is enabled and E is empty (R37). -/
def isDark (s : State) (p : PoolIx) : Bool :=
  (s.pools.get p).enabled && (eligibleMembers s p).isEmpty

/-- Engine `e` works on a move of pool `p`. -/
def engineServes (s : State) (p : PoolIx) (e : EngineIx) : Bool :=
  match s.engines.get e with
  | some m => m.pool = p
  | none => false

/-- The active moves of pool `p` (R37). -/
def activeMoves (s : State) (p : PoolIx) : Nat := ((List.finRange 4).filter (engineServes s p)).length

/-- Engine `e` moves a bin of pool `p` to slot `i`. -/
def engineMovesTo (s : State) (p : PoolIx) (i : SlotIx) (e : EngineIx) : Bool :=
  match s.engines.get e with
  | some m => m.pool = p ∧ m.destination = i
  | none => false

/-- Engine `e` moves a bin of pool `p` from slot `i`. -/
def engineMovesFrom (s : State) (p : PoolIx) (i : SlotIx) (e : EngineIx) : Bool :=
  match s.engines.get e with
  | some m => m.pool = p ∧ m.source = i
  | none => false

/-- The active moves of pool `p` that have slot `i` as destination. -/
def movesTo (s : State) (p : PoolIx) (i : SlotIx) : Nat :=
  ((List.finRange 4).filter (engineMovesTo s p i)).length

/-- Slot `i` is the source or destination of an active move. -/
def inActiveMove (s : State) (i : SlotIx) : Bool :=
  (List.finRange 4).any fun e =>
    match s.engines.get e with
    | some m => m.source = i ∨ m.destination = i
    | none => false

/-- The adoption window of pool `p` is open while its adoption timer runs (R37). -/
def windowOpen (s : State) (p : PoolIx) : Bool := (s.pools.get p).adoptionTimer.isSome

/-- Slot `i` is its pool's last member: the pool is enabled and the slot its only eligible member (R16). -/
def isLastMember (s : State) (i : SlotIx) : Bool :=
  match (s.slots.get i).pool with
  | some p => (s.pools.get p).enabled && eligibleMembers s p = [i]
  | none => false

/-- The effective quota of slot `i` (R106); `none` outside the accepting states, where R106 states none. -/
def effectiveQuota (s : State) (i : SlotIx) : Option Nat :=
  let r := s.slots.get i
  match r.state with
  | .probing | .standby => some 4
  | .admitting =>
    some (if slotTarget s i = 0 then r.quota else min r.quota (max 4 (r.quota * slotHeld s i / slotTarget s i)))
  | .inService | .retiring _ => some r.quota
  | .empty | .seated | .drained | .faulted | .fenced => none

/-- A tick of a timer's unit: a running timer has one tick less to go (R1). -/
def tickTimer (t : Timer) : Timer := t.map (· - 1)

end Sys2Proof.Machine
end

