-- ==== Sys2Proof/Machine/Flags.lean ====
section
/-! DEFINITION. Attention flags, the notices that report them, and the recording of a change of slot state
(R34, R182, R187, R188). -/

namespace Sys2Proof.Machine

/-- The eleven slot attention flags (R34), in the order of their mask bits (R201). -/
inductive SlotFlag where
  | handleOpened
  | handleClosed
  | beaconAlarm
  | deadlinePassed
  | ackMissing
  | surpriseRemoval
  | lastMember
  | scanNoResponse
  | quotaExceeded
  | fault
  | stateChanged
  deriving DecidableEq, Repr

/-- A slot flag's mask bit, which is also its notice event (R201). -/
def flagBit : SlotFlag → Nat
  | .handleOpened => 0
  | .handleClosed => 1
  | .beaconAlarm => 2
  | .deadlinePassed => 3
  | .ackMissing => 4
  | .surpriseRemoval => 5
  | .lastMember => 6
  | .scanNoResponse => 7
  | .quotaExceeded => 8
  | .fault => 9
  | .stateChanged => 10

/-- The mask that names one slot flag. -/
def flagMask (f : SlotFlag) : BitVec 11 := 1#11 <<< flagBit f

/-- A flag of a slot is set. -/
def flagSet (s : State) (i : SlotIx) (f : SlotFlag) : Bool := (s.slots.get i).attention.getLsbD (flagBit f)

/-- A notice about a slot (R182, R202): the event, and the old and the new state with their phases. -/
def slotNotice (i : SlotIx) (event : Nat) (old new : SlotState) : List Byte :=
  [0, 0x80, slotByte i, byteOf event] ++ stateBytes old ++ stateBytes new

/-- A notice about the device (R202). -/
def deviceNotice (event : Nat) : List Byte := [0, 0x80, 0, byteOf event, 0xFF, 0, 0xFF, 0]

/-- An event is offered to the agent (R188): disabled notices build nothing, and a notice that meets a full
transmit queue is dropped and counted. -/
def offerNotice (payload : List Byte) (s : State) : State :=
  if s.agent.noticesEnabled then
    if s.agent.transmit.length < Config.transmitCapacity then
      s.updAgent fun a => { a with transmit := a.transmit ++ [payload] }
    else bumpAgent .noticeDrops s
  else s

/-- A slot flag is raised (R34): one already set stays set, and one newly set is offered as a notice with the
slot's state as it stands. -/
def raiseFlag (i : SlotIx) (f : SlotFlag) (s : State) : State :=
  if flagSet s i f then s
  else
    offerNotice (slotNotice i (flagBit f) (s.slots.get i).state (s.slots.get i).state)
      (s.updSlot i fun r => { r with attention := r.attention ||| flagMask f })

/-- The slot record with every slot timer stopped. -/
def SlotRecord.stopTimers (r : SlotRecord) : SlotRecord :=
  { r with probeTimer := none, qualifyTimer := none, deadlineTimer := none, ackTimer := none }

/-- A slot enters a state or phase (R34): the state is recorded, the timers of the state left stop (R5; each
runs in one state or phase only), STATE_CHANGED is raised, and the change is offered as one notice whether or
not the flag was set (R188). Entering the state it is in is no change. -/
def changeState (i : SlotIx) (new : SlotState) (s : State) : State :=
  let old := (s.slots.get i).state
  if old = new then s
  else
    offerNotice (slotNotice i (flagBit .stateChanged) old new)
      (s.updSlot i fun r =>
        { r.stopTimers with state := new, attention := r.attention ||| flagMask .stateChanged })

/-- The device flags RESTARTED and PIN_RESET (R187), with the bits and notice events of R201. -/
inductive DeviceFlag where
  | restarted
  | pinReset
  deriving DecidableEq, Repr

/-- A device flag's mask bit. -/
def deviceBit : DeviceFlag → Nat
  | .restarted => 0
  | .pinReset => 1

/-- A device flag is raised (R187): newly set, it is offered as a notice. -/
def raiseDeviceFlag (f : DeviceFlag) (s : State) : State :=
  if s.agent.deviceFlags.getLsbD (deviceBit f) then s
  else
    offerNotice (deviceNotice (16 + deviceBit f))
      (s.updAgent fun a => { a with deviceFlags := a.deviceFlags ||| (1#2 <<< deviceBit f) })

end Sys2Proof.Machine
end

