-- ==== Sys2Proof/Machine/Frames.lean ====
section
/-! DEFINITION. The fabric frame: its header, its CRC-32, the checks made on every received frame and the
frames the part builds (R88, R113, R134, R199, R200). -/

namespace Sys2Proof.Machine

/-- `n` bit steps of the CRC register, most significant bit first, polynomial 04C11DB7 hex (R199). -/
def crcShifts : Nat → BitVec 32 → BitVec 32
  | 0, c => c
  | n + 1, c => if c.msb then crcShifts n ((c <<< 1) ^^^ 0x04C11DB7#32) else crcShifts n (c <<< 1)

/-- The CRC register after a byte. -/
def crcByte (c : BitVec 32) (b : Byte) : BitVec 32 := crcShifts 8 (c ^^^ (b.setWidth 32 <<< 24))

/-- The CRC-32 of some bytes: the register starts at all ones and the final value is complemented (R88, R199). -/
def crc32 (bs : List Byte) : BitVec 32 := ~~~(bs.foldl crcByte 0xFFFFFFFF#32)

/-- The sum of bytes modulo 256. -/
def sum8 (bs : List Byte) : Byte := bs.foldl (· + ·) 0

/-- The frame kinds (R199). -/
inductive FrameKind where
  | dataPool
  | dataSlot
  | mgmt
  | linkCtrl
  deriving DecidableEq, Repr

/-- The kind that a kind code names. -/
def kindOf (code : Nat) : Option FrameKind :=
  match code with
  | 1 => some .dataPool
  | 2 => some .dataSlot
  | 3 => some .mgmt
  | 4 => some .linkCtrl
  | _ => none

/-- The code of a kind. -/
def kindCode : FrameKind → Nat
  | .dataPool => 1
  | .dataSlot => 2
  | .mgmt => 3
  | .linkCtrl => 4

/-- What a frame that passed its checks carries (R199). -/
structure FrameInfo where
  kind : FrameKind
  target : Byte
  flowKey : BitVec 32
  payload : List Byte
  deriving DecidableEq, Repr

/-- The counter that a failed check raises (R88). -/
inductive CheckError where
  | length
  | header
  | crc
  deriving DecidableEq, Repr

/-- A byte of a frame. -/
def byteAt (bs : FrameBytes) (n : Nat) : Byte := bs.getD n 0

/-- The four flow key bytes, K3 first (R41, R199). -/
def flowKeyOf (bs : FrameBytes) : BitVec 32 := byteAt bs 4 ++ byteAt bs 5 ++ byteAt bs 6 ++ byteAt bs 7

/-- The frame checks of R88, in their order: the first that fails decides the counter. -/
def checkFrame (bs : FrameBytes) : Except CheckError FrameInfo :=
  let n := bs.length
  if Config.largestFrame < n then .error .length
  else if n < 14 then .error .length
  else
    let head := byteAt bs 0
    match kindOf (head.toNat / 16) with
    | none => .error .header
    | some kind =>
      if sum8 (bs.take 10) ≠ 255 ∨ head.toNat % 16 ≠ 1 then .error .header
      else if bytes32 (crc32 (bs.take (n - 4))) ≠ bs.drop (n - 4) then .error .crc
      else if (byteAt bs 8).toNat * 256 + (byteAt bs 9).toNat ≠ n - 14 then .error .length
      else .ok ⟨kind, byteAt bs 1, flowKeyOf bs, (bs.drop 10).take (n - 14)⟩

/-- The slot counter of a failed check. -/
def slotCheckCounter : CheckError → SlotCounter
  | .length => .lengthErrors
  | .header => .headerErrors
  | .crc => .crcErrors

/-- The core-port counter of a failed check. -/
def coreCheckCounter : CheckError → CoreCounter
  | .length => .lengthErrors
  | .header => .headerErrors
  | .crc => .crcErrors

/-- Bytes followed by their CRC trailer, most significant byte first (R199). -/
def withCrc (bs : List Byte) : FrameBytes := bs ++ bytes32 (crc32 bs)

/-- The ten header bytes, the header check making their sum 255 modulo 256 (R199). -/
def header (kind : FrameKind) (target source : Byte) (flowKey : BitVec 32) (length : Nat) : List Byte :=
  let b0 := byteOf (16 * kindCode kind + 1)
  let rest := bytes32 flowKey ++ word16Of length
  [b0, target, source, 255 - sum8 ([b0, target, source] ++ rest)] ++ rest

/-- A frame the part builds: source FF hex, flow key 0 (R134, R181). -/
def builtFrame (kind : FrameKind) (target : Byte) (payload : List Byte) : FrameBytes :=
  withCrc (header kind target 0xFF 0 payload.length ++ payload)

/-- A stored upstream frame as it is transmitted on the core link: the source field is the slot number, and
the header check and the CRC are computed anew (R113). -/
def resourced (i : SlotIx) (bs : FrameBytes) : FrameBytes :=
  let rest := (bs.drop 4).take 6
  let b0 := byteAt bs 0
  let b1 := byteAt bs 1
  withCrc ([b0, b1, slotByte i, 255 - sum8 ([b0, b1, slotByte i] ++ rest)] ++ rest
    ++ (bs.drop 10).take (bs.length - 14))

/-- The pattern byte at position `p`, 1–63, of probe `n` for slot number `i` (R134). -/
def probePattern (i : SlotIx) (n : Nat) (p : Nat) : Byte := byteOf (37 * p + 16 * n + (i.val + 1))

/-- The payload of probe `n` for a slot (R134). -/
def probePayload (i : SlotIx) (n : Nat) : List Byte :=
  byteOf n :: (List.range 63).map fun k => probePattern i n (k + 1)

/-- The verdict on a PROBE_ECHO (R127): intact with its sequence number, or mismatched. -/
def echoVerdict (i : SlotIx) (payload : List Byte) : Option (Fin 8) :=
  match payload with
  | [] => none
  | n :: _ =>
    if h : n.toNat < 8 then if payload = probePayload i n.toNat then some ⟨n.toNat, h⟩ else none
    else none

/-- A link control frame as the link builds it, its payload read from the state (R134, R200). -/
def controlBytes (s : State) (i : SlotIx) : ControlFrame → FrameBytes
  | .probe n => builtFrame .linkCtrl 2 (probePayload i n.val)
  | .admitNotice =>
    let r := s.slots.get i
    builtFrame .linkCtrl 4 [absentByte (r.pool.map fun p => byteOf p.val), byteOf r.weight]
  | .retireNotice => builtFrame .linkCtrl 5 []
  | .pause t => builtFrame .linkCtrl 7 (word16Of t)

end Sys2Proof.Machine
end

