-- ==== Sys2Proof/Machine/Monitor.lean ====
section
/-! DEFINITION. What a Beacon Monitor does by itself: link reports, clears, latches and counting (R140–R147). -/

namespace Sys2Proof.Machine

/-- The alarm is raised exactly while the phase is FROZEN (R139). -/
def MonitorRecord.alarmRaised (m : MonitorRecord) : Bool := m.phase = .frozen

/-- The link has entered UP (R140). -/
def monitorLinkUp (i : SlotIx) (s : State) : State :=
  s.updMonitor i fun m => { m with linkRunning := true }

/-- The monitor record after its link has left UP or a loss of lock has been reported (R140, R145, R146). -/
def MonitorRecord.linkDown (m : MonitorRecord) : MonitorRecord :=
  match m.phase with
  | .counting => { m with linkRunning := false, phase := .idle, runningCount := 0, tickRemainder := 0, run := 0 }
  | .idle => { m with linkRunning := false, run := 0 }
  | .frozen => { m with linkRunning := false }

/-- The link has left UP, or a loss of lock has been reported in UP (R140). -/
def monitorLinkDown (i : SlotIx) (s : State) : State := s.updMonitor i MonitorRecord.linkDown

/-- A clear returns the measurement state to the start; settings and link running are kept (R147). -/
def MonitorRecord.clear (m : MonitorRecord) : MonitorRecord :=
  { m with
    phase := .idle, runningCount := 0, tickRemainder := 0, latchedCount := 0, latchedSaturated := false
    run := 0 }

/-- The monitor of slot `i` is cleared (R147). -/
def monitorClear (i : SlotIx) (s : State) : State := s.updMonitor i MonitorRecord.clear

/-- A latch is within limits (R146). -/
def MonitorRecord.withinLimits (m : MonitorRecord) (count : Nat) (saturated : Bool) : Bool :=
  !saturated && decide (m.lowLimit ≤ count ∧ count ≤ m.highLimit)

/-- The run after a latch is judged (R146). -/
def MonitorRecord.judgedRun (m : MonitorRecord) (count : Nat) (saturated : Bool) : Nat :=
  if m.withinLimits count saturated then min 4 (m.run + 1) else 0

/-- The monitor record after a beacon (R141, R143). -/
def MonitorRecord.beacon (m : MonitorRecord) : MonitorRecord :=
  match m.phase with
  | .idle => { m with phase := .counting, runningCount := 0, tickRemainder := 0 }
  | .counting =>
    let count := max 1 m.runningCount
    let saturated := m.runningCount = 255
    { m with
      latchedCount := count, latchedSaturated := saturated, run := m.judgedRun count saturated
      runningCount := 0, tickRemainder := 0 }
  | .frozen => m

/-- A beacon completes the run: it passes from 3 to 4 (R146). -/
def MonitorRecord.beaconQualifies (m : MonitorRecord) : Bool :=
  m.phase = .counting ∧ m.run = 3 ∧ m.beacon.run = 4

/-- The record with its running count at `limit`, as the tick at which it reaches `limit` leaves it; a count that
stands there keeps its tick remainder (R142, R144; log entry 24). -/
def MonitorRecord.atLimit (m : MonitorRecord) (limit : Nat) : MonitorRecord :=
  if m.runningCount = limit then m else { m with runningCount := limit, tickRemainder := 0 }

/-- The saturation latch of POLL mode (R142): the running count stands at 255. -/
def MonitorRecord.saturate (m : MonitorRecord) : MonitorRecord :=
  { m.atLimit 255 with latchedCount := 255, latchedSaturated := true, run := 0 }

/-- The alarm of ALARM mode (R144), steps 1 to 3: the running count stands at the alarm limit. -/
def MonitorRecord.freeze (m : MonitorRecord) : MonitorRecord :=
  { m.atLimit m.alarmLimit with
    latchedCount := m.alarmLimit, latchedSaturated := m.alarmLimit = 255, phase := .frozen, run := 0 }

/-- A monitor tick (R142): counted in COUNTING only; the running count stays at 255 once there. -/
def MonitorRecord.tick (m : MonitorRecord) : MonitorRecord :=
  match m.phase with
  | .counting =>
    if m.tickRemainder + 1 < m.divisor then { m with tickRemainder := m.tickRemainder + 1 }
    else { m with tickRemainder := 0, runningCount := min 255 (m.runningCount + 1) }
  | .idle | .frozen => m

end Sys2Proof.Machine
end

