-- ==== Sys2Proof/Machine/Links.lean ====
section
/-! DEFINITION. The Slot Link Controller's shared operations: the control list, the four link requests and
training attempts (R120–R126, R132), and the local pause state that leaving UP clears (R111). -/

namespace Sys2Proof.Machine

/-- An UP link that has not lost lock carries frames (R124). -/
def LinkRecord.carries (l : LinkRecord) : Bool := decide (l.state = .up) && !l.lost

/-- The link receives frames: UP with lost no, or PARKED, and lock yes (R126). -/
def LinkRecord.receives (l : LinkRecord) : Bool := (l.carries || decide (l.state = .parked)) && l.lock

/-- Whether a control frame is a PAUSE. -/
def ControlFrame.isPause : ControlFrame → Bool
  | .pause _ => true
  | .probe _ | .admitNotice | .retireNotice => false

/-- A control frame joins the list (R132): a PAUSE takes the place of an unsent PAUSE, a notice already
waiting is not added, and anything else joins at the tail. -/
def joinControl (f : ControlFrame) (list : List ControlFrame) : List ControlFrame :=
  match f with
  | .pause t =>
    if list.any ControlFrame.isPause then list.map fun g => if g.isPause then .pause t else g
    else list ++ [f]
  | .admitNotice | .retireNotice => if f ∈ list then list else list ++ [f]
  | .probe _ => list ++ [f]

/-- The link of slot `i` is asked to send a control frame (R132): discarded unless the link carries frames. -/
def askControl (i : SlotIx) (f : ControlFrame) (s : State) : State :=
  if (s.links.get i).carries then s.updLink i fun l => { l with control := joinControl f l.control } else s

/-- A reception in progress on a slot link is cut off (R126): its cell is freed and RX_ABORTED rises, or
NO_BUFFER for an unstored one. -/
def cutReception (i : SlotIx) (s : State) : State :=
  match (s.links.get i).rx with
  | none => s
  | some stored =>
    bumpSlot i (if stored then .rxAborted else .noBuffer) (s.updLink i fun l => { l with rx := none })

/-- The link has left UP: the local pause state becomes CLEAR and no frame is sent (R111). -/
def clearLocalPause (i : SlotIx) (s : State) : State := s.updUpstream i fun u => { u with pause := none }

/-- The reports of a link that leaves UP: to its monitor, then to the Upstream Queue Manager (R121, R124). -/
def reportLeftUp (i : SlotIx) (s : State) : State := clearLocalPause i (monitorLinkDown i s)

/-- The link record as it leaves UP for `new` (R121): the lock-loss timer stops, the remote pause is cleared,
the control list is discarded, and a transmission is cut off. -/
def LinkRecord.leaveUp (l : LinkRecord) (new : LinkState) : LinkRecord :=
  { l with state := new, lockLossTimer := none, remotePause := none, control := [], tx := none }

/-- The link record as it enters DARK (R120, R121): the optional fields are absent, the receiver is off, and
no timer runs. -/
def LinkRecord.enterDark (l : LinkRecord) : LinkRecord :=
  { l with
    state := .dark, train := none, lock := false, lockedInAttempt := false
    attemptTimer := none, lockLossTimer := none }

/-- The rate of an attempt under a rate mode (R122). -/
def attemptRate (mode : RateMode) (attempt : Nat) : Rate :=
  match mode with
  | .auto => if attempt % 2 = 1 then .full else .half
  | .full => .full
  | .half => .half

/-- The link record as attempt `n` of a training starts (R123). -/
def LinkRecord.startAttempt (l : LinkRecord) (mode : RateMode) (limit n : Nat) : LinkRecord :=
  { l with
    state := .training, train := some ⟨attemptRate mode n, n, limit, mode⟩
    attemptTimer := some 50, lockLossTimer := none, lockedInAttempt := false }

/-- What a link in UP or PARKED does before it enters DARK or TRAINING (R121, R126): the reception in progress
is cut off, and a link leaving UP takes the effects of leaving UP and reports. -/
def dropLink (i : SlotIx) (s : State) : State :=
  match (s.links.get i).state with
  | .up => reportLeftUp i ((cutReception i s).updLink i fun l => l.leaveUp l.state)
  | .parked => cutReception i s
  | .dark | .training => s

/-- The link request "train" (R121): attempt 1, with the rate mode and the number of attempts as they stand. -/
def linkTrain (i : SlotIx) (s : State) : State :=
  (dropLink i s).updLink i fun l => l.startAttempt (s.slots.get i).rateMode s.agent.trainingAttempts 1

/-- The link request "go dark" (R121). -/
def linkGoDark (i : SlotIx) (s : State) : State :=
  match (s.links.get i).state with
  | .dark => s
  | .training | .up | .parked => (dropLink i s).updLink i LinkRecord.enterDark

/-- The link request "park" (R121): from UP to PARKED, a reception in progress going on (R126); taken as go dark
from TRAINING. -/
def linkPark (i : SlotIx) (s : State) : State :=
  match (s.links.get i).state with
  | .dark | .parked => s
  | .training => linkGoDark i s
  | .up => reportLeftUp i (s.updLink i fun l => l.leaveUp .parked)

/-- The link request "resume" (R121, R125): from PARKED to UP at the rate it had, lost cleared, the lock-loss
timer started if lock is no, and the monitor told. -/
def linkResume (i : SlotIx) (s : State) : State :=
  match (s.links.get i).state with
  | .dark => linkTrain i s
  | .training | .up => s
  | .parked =>
    monitorLinkUp i (s.updLink i fun l =>
      { l with state := .up, lost := false, lockLossTimer := if l.lock then none else some 1000 })

end Sys2Proof.Machine
end

