-- ==== Sys2Proof/Machine/Pools.lean ====
section
/-! DEFINITION. The Pool Controller's arithmetic: bin selection, targets, holdings, immediate assignment, the
Move Plan and recomputation (R41–R48), with the lifecycle conditions its reports evaluate (R14, R18). -/

namespace Sys2Proof.Machine

/-- The byte v that a flow key and a salt fold to (R41, step 1). -/
def foldKey (key : BitVec 32) (salt : Byte) : Byte :=
  key.extractLsb' 24 8 ^^^ key.extractLsb' 16 8 ^^^ key.extractLsb' 8 8 ^^^ key.extractLsb' 0 8 ^^^ salt

/-- The steering bin of a flow key under a salt (R41): (v mod 64) xor floor(v / 64). -/
def binOf (key : BitVec 32) (salt : Byte) : BinIx :=
  let v := (foldKey key salt).toNat
  ⟨(v % 64) ^^^ (v / 64), Nat.xor_lt_two_pow (n := 6) (by omega) (by have := (foldKey key salt).isLt; omega)⟩

/-- Exact share's whole part, q_i (R42). -/
def shareOf (w : SlotIx → Nat) (i : SlotIx) : Nat := 64 * w i / totalWeight w

/-- Exact share's remainder, r_i (R42). -/
def remainderOf (w : SlotIx → Nat) (i : SlotIx) : Nat := 64 * w i % totalWeight w

/-- How many members come before `i` in the order of remainders: a larger remainder first, and among equal
ones the lower slot (R42). -/
def remainderRank (w : SlotIx → Nat) (i : SlotIx) : Nat :=
  ((List.finRange 12).filter fun j =>
    remainderOf w i < remainderOf w j ∨ (remainderOf w j = remainderOf w i ∧ j < i)).length

/-- R, the bins left after the whole parts (R42). -/
def binsLeft (w : SlotIx → Nat) : Nat := 64 - totalWeight (shareOf w)

/-- The target of slot `i` where `w` gives each eligible member its weight and every other slot 0 (R42):
largest remainder; all 0 when W = 0. -/
def targetOf (w : SlotIx → Nat) (i : SlotIx) : Nat :=
  if totalWeight w = 0 then 0
  else shareOf w i + (if w i ≠ 0 ∧ remainderRank w i < binsLeft w then 1 else 0)

/-- The holdings c_i of slot `i` in pool `p` (R44): the bins it owns outside active moves, and one for each
active move that has it as destination. -/
def holdings (s : State) (p : PoolIx) (i : SlotIx) : Nat :=
  ((s.pools.get p).bins.cells.filter fun b => b.owner = .owned i ∧ b.engine = none).length + movesTo s p i

/-- The deficit members of pool `p`, ascending, each as often as it has room (R45, R46): taking them in order
fills each member to its target before the next. -/
def receivers (s : State) (p : PoolIx) : List SlotIx :=
  (eligibleMembers s p).flatMap fun i => List.replicate ((s.pools.get p).targets.get i - holdings s p i) i

/-- The bins of pool `p` with some property, ascending. -/
def binsWhere (s : State) (p : PoolIx) (q : BinRecord → Bool) : List BinIx :=
  (List.finRange 64).filter fun b => q ((s.pools.get p).bins.get b)

/-- Bins are given without a move (R45, R50): each becomes OWNED by its receiver, its in-flight count unchanged,
and IMMEDIATE_ASSIGNS rises by one for each. -/
def giveBins (p : PoolIx) (gifts : List (BinIx × SlotIx)) (s : State) : State :=
  bumpPool p .immediateAssigns gifts.length
    (forEach (fun g s => s.updBin p g.1 fun b => { b with owner := .owned g.2 }) gifts s)

/-- Immediate assignment: the UNOWNED bins, ascending, to the deficit members (R45). -/
def assignUnowned (p : PoolIx) (s : State) : State :=
  giveBins p ((binsWhere s p fun b => b.owner = .unowned).zip (receivers s p)) s

/-- The bins a donor releases (R46): its highest-numbered bins outside active moves, descending, as many as its
excess. -/
def releasedBy (s : State) (p : PoolIx) (i : SlotIx) : List (BinIx × SlotIx) :=
  ((binsWhere s p fun b => b.owner = .owned i ∧ b.engine = none).reverse.take
    (holdings s p i - (s.pools.get p).targets.get i)).map fun b => (b, i)

/-- The Move Plan that holdings and targets give (R46): every released bin paired with the lowest-numbered
deficit member that still has room; a bin for which none has room is not planned. -/
def plannedMoves (s : State) (p : PoolIx) : List PlanEntry :=
  let released := ((List.finRange 12).filter (isHolding s p)).flatMap (releasedBy s p)
  (released.zip (receivers s p)).map fun g => ⟨g.1.1, g.1.2, g.2⟩

/-- The Move Plan is rebuilt, or stays empty while the adoption window is open (R44, R50). -/
def rebuildPlan (p : PoolIx) (s : State) : State :=
  s.updPool p fun r => { r with plan := if windowOpen s p then [] else plannedMoves s p }

/-- The targets are computed from the eligible members' weights, and the plan is discarded (R44, steps 1, 2). -/
def retarget (p : PoolIx) (s : State) : State :=
  s.updPool p fun r => { r with targets := Table.tab (targetOf (eligibleWeight s p)), plan := [] }

/-- The admission condition (R14): bins held at least the target, and no planned or active move of the slot's
pool toward it. -/
def admissionHolds (s : State) (i : SlotIx) : Bool :=
  decide (slotTarget s i ≤ slotHeld s i) &&
    match (s.slots.get i).pool with
    | some p => ((s.pools.get p).plan.all fun e => e.destination ≠ i) && decide (movesTo s p i = 0)
    | none => true

/-- The confirmation condition (R18): no bins held, no active move with the slot, and an empty egress queue. -/
def confirmationHolds (s : State) (i : SlotIx) : Bool :=
  decide (slotHeld s i = 0) && !inActiveMove s i && (s.egress.get i).isEmpty

/-- Entry to phase CONFIRMING (R18): the deadline timer stops, RETIRE_NOTICE is asked for, the acknowledgment
timer starts. -/
def enterConfirming (i : SlotIx) (s : State) : State :=
  (askControl i .retireNotice (changeState i (.retiring .confirming) s)).updSlot i fun r =>
    { r with deadlineTimer := none, ackTimer := some s.agent.ackTimeout }

/-- The confirmation condition is evaluated for slot `i` (R18). -/
def evaluateConfirmation (i : SlotIx) (s : State) : State :=
  if (s.slots.get i).state = .retiring .moving ∧ confirmationHolds s i then enterConfirming i s else s

/-- The admission condition is evaluated for slot `i` (R14). -/
def evaluateAdmission (i : SlotIx) (s : State) : State :=
  if (s.slots.get i).state = .admitting ∧ admissionHolds s i then changeState i .inService s else s

/-- A report of changed holdings reaches lifecycle for slot `i` (R7): both conditions are evaluated. -/
def reportHoldings (i : SlotIx) (s : State) : State := evaluateConfirmation i (evaluateAdmission i s)

/-- The tables of an enabled pool after a recomputation (R44, steps 1 to 5). -/
def recomputeTables (p : PoolIx) (s : State) : State := rebuildPlan p (assignUnowned p (retarget p s))

/-- A recomputation (R43, R44): an enabled pool's tables are recomputed, and it is reported to lifecycle for
every member in ascending slot number. A disabled pool is not recomputed. -/
def recompute (p : PoolIx) (s : State) : State :=
  if (s.pools.get p).enabled then
    let s' := recomputeTables p s
    forEach reportHoldings ((List.finRange 12).filter (isMember s' p)) s'
  else s

/-- Stale bins return to slot `i` (R48, step 1); with no STALE bin left the window closes. -/
def adoptBins (p : PoolIx) (i : SlotIx) (s : State) : State :=
  let s' := s.updPool p fun r =>
    { r with bins := Table.tab fun b =>
        let br := r.bins.get b
        if br.owner = .stale i then { br with owner := .owned i } else br }
  let remaining := binsWhere s' p fun b =>
    match b.owner with
    | .stale _ => true
    | .unowned | .owned _ => false
  if remaining.isEmpty then s'.updPool p fun r => { r with adoptionTimer := none } else s'

/-- Every STALE bin of a pool becomes UNOWNED (R52, R54). -/
def dropStale (p : PoolIx) (s : State) : State :=
  s.updPool p fun r =>
    { r with bins := Table.tab fun b =>
        let br := r.bins.get b
        match br.owner with
        | .stale _ => { br with owner := .unowned }
        | .unowned | .owned _ => br }

/-- A member gains eligibility (R48): it adopts its stale bins while the window is open, and its enabled pool is
recomputed. -/
def gainEligibility (i : SlotIx) (s : State) : State :=
  match (s.slots.get i).pool with
  | some p =>
    if (s.pools.get p).enabled then
      recompute p (if windowOpen s p then adoptBins p i s else s)
    else s
  | none => s

/-- A pool wants an engine (R55). -/
def wantsEngine (s : State) (p : PoolIx) : Bool :=
  let r := s.pools.get p
  r.enabled && !r.plan.isEmpty && r.rampTimer.isNone && decide (activeMoves s p < r.width)

end Sys2Proof.Machine
end

