-- ==== Sys2Proof/Machine/Moves.lean ====
section
/-! DEFINITION. The move engines' shared operations: hold-list release, commit, abort, the in-flight count and
the drain (R40, R67, R71–R78), with the loss of eligibility, evacuation and release that end moves or give bins
away (R49–R51). -/

namespace Sys2Proof.Machine

/-- A frame is offered to an egress queue (R93): it joins at the tail and, if steered, raises its bin's in-flight
count (R40); at a full queue it is dropped and counted EGRESS_FULL. -/
def offerEgress (i : SlotIx) (entry : EgressEntry) (s : State) : State :=
  if (s.egress.get i).length < Config.egressCapacity then
    let s' := s.setEgress i (s.egress.get i ++ [entry])
    match entry.steered with
    | some (p, b) => s'.updBin p b fun r => { r with inflight := r.inflight + 1 }
    | none => s'
  else bumpSlot i .egressFull s

/-- A hold list is released into an egress queue, head first (R72). -/
def releaseHold (i : SlotIx) (p : PoolIx) (b : BinIx) (hold : List FrameBytes) (s : State) : State :=
  forEach (fun bytes s => offerEgress i ⟨bytes, some (p, b)⟩ s) hold s

/-- The end of a move at its engine (R71, step 4; R74, step 4): the bin's engine field is removed and the engine
is IDLE. -/
def freeEngine (e : EngineIx) (m : MoveRecord) (s : State) : State :=
  (s.updBin m.pool m.bin fun r => { r with engine := none }).setEngine e none

/-- A commit, steps 1 to 5 of R71: the destination owns the bin, the hold list goes to its egress queue, the
engine is IDLE, MOVES_DONE rises. -/
def commitMove (e : EngineIx) (m : MoveRecord) (s : State) : State :=
  bumpPool m.pool .movesDone 1 (freeEngine e m
    (releaseHold m.destination m.pool m.bin m.hold
      (s.updBin m.pool m.bin fun r => { r with owner := .owned m.destination })))

/-- A holding member of pool `p` is off its target (R43). -/
def someOffTarget (s : State) (p : PoolIx) : Bool :=
  (List.finRange 12).any fun i =>
    isHolding s p i && decide (binsHeld s p i ≠ (s.pools.get p).targets.get i)

/-- A commit calls for the settling recomputation (R43, R73). -/
def settlingDue (s : State) (p : PoolIx) : Bool :=
  (s.pools.get p).enabled && (s.pools.get p).plan.isEmpty && decide (activeMoves s p = 0)
    && !windowOpen s p && someOffTarget s p

/-- After a commit made by the engine itself (R73): the settling recomputation, or the reports for the source
and the destination (log entry 14). -/
def afterCommit (m : MoveRecord) (s : State) : State :=
  if settlingDue s m.pool then recompute m.pool s
  else reportHoldings m.destination (reportHoldings m.source s)

/-- A commit made by the engine itself, with its report (R71, R73). -/
def engineCommit (e : EngineIx) (m : MoveRecord) (s : State) : State := afterCommit m (commitMove e m s)

/-- An abort (R74): the bin stays with the source, the hold list goes to the source's egress queue, the engine is
IDLE, ABORTED_MOVES rises. -/
def abortMove (e : EngineIx) (m : MoveRecord) (s : State) : State :=
  bumpPool m.pool .abortedMoves 1 (freeEngine e m (releaseHold m.source m.pool m.bin m.hold s))

/-- An abort at RESTART (R78): the held frames are discarded, counted FLUSHED against the source. -/
def abortDiscard (e : EngineIx) (m : MoveRecord) (s : State) : State :=
  bumpPool m.pool .abortedMoves 1 (freeEngine e m (bumpSlotBy m.source .flushed m.hold.length s))

/-- A step on each active move that `q` selects, in ascending engine number. -/
def onMoves (q : MoveRecord → Bool) (f : EngineIx → MoveRecord → State → State) (s : State) : State :=
  forEach (fun e s =>
    match s.engines.get e with
    | some m => if q m then f e m s else s
    | none => s) (List.finRange 4) s

/-- The bin's count has fallen to 0 in DRAINING (R67): SETTLING with its timer, or a commit at settle time 0. -/
def drainEnd (e : EngineIx) (m : MoveRecord) (s : State) : State :=
  if m.settleTime = 0 then engineCommit e m s
  else s.setEngine e (some { m with phase := .settling, timer := m.settleTime })

/-- A steered frame has left an egress queue (R40, R67): its bin's count falls by one, and an engine draining that
bin reads it, whatever slot its move serves. So R96 has it of every flush, that of SLOT_RESET too, where R84 has every engine
stand at a SLOT_RESET of a slot in no move (log entry 39). -/
def lowerInflight (p : PoolIx) (b : BinIx) (s : State) : State :=
  let s' := s.updBin p b fun r => { r with inflight := r.inflight - 1 }
  let br := (s'.pools.get p).bins.get b
  match br.engine with
  | none => s'
  | some e =>
    match s'.engines.get e with
    | none => s'
    | some m => if m.phase = .draining ∧ br.inflight = 0 then drainEnd e m s' else s'

/-- A member loses eligibility in an enabled pool (R49): the moves toward it abort, then one recomputation. -/
def loseEligibility (i : SlotIx) (s : State) : State :=
  match (s.slots.get i).pool with
  | some p =>
    if (s.pools.get p).enabled then
      recompute p (onMoves (fun m => m.pool = p ∧ m.destination = i) abortMove s)
    else s
  | none => s

/-- The bins of pool `p` that slot `i` owns, ascending. -/
def ownedBins (s : State) (p : PoolIx) (i : SlotIx) : List BinIx :=
  binsWhere s p fun b => b.owner = .owned i

/-- Every bin OWNED by slot `i` in pool `p` becomes UNOWNED (R50, step 4; R51). -/
def disownBins (p : PoolIx) (i : SlotIx) (s : State) : State :=
  s.updPool p fun r =>
    { r with bins := Table.tab fun b =>
        let br := r.bins.get b
        if br.owner = .owned i then { br with owner := .unowned } else br }

/-- The bins of an evacuated slot are given away, or made UNOWNED where the pool has no eligible member (R50,
steps 3 and 4). -/
def giveAway (p : PoolIx) (i : SlotIx) (s : State) : State :=
  if (eligibleMembers s p).isEmpty then disownBins p i s
  else giveBins p ((ownedBins s p i).zip (receivers s p)) s

/-- The moves of pool `p` from slot `i`, by their destinations. -/
def moveDestinations (s : State) (p : PoolIx) (i : SlotIx) : List SlotIx :=
  (List.finRange 4).filterMap fun e =>
    match s.engines.get e with
    | some m => if m.pool = p ∧ m.source = i then some m.destination else none
    | none => none

/-- An evacuation of slot `i` (R50, R75): moves from it commit, moves toward it abort, its bins go, the plan is
rebuilt, and it is reported for the slot and for every slot that received a bin, ascending. -/
def evacuate (i : SlotIx) (s : State) : State :=
  match (s.slots.get i).pool with
  | none => s
  | some p =>
    let s1 := onMoves (fun m => m.pool = p ∧ m.source = i) commitMove s
    let s2 := onMoves (fun m => m.pool = p ∧ m.destination = i) abortMove s1
    let receiving := moveDestinations s p i
      ++ (if (eligibleMembers s2 p).isEmpty then [] else ((ownedBins s2 p i).zip (receivers s2 p)).map Prod.snd)
    let s3 := giveAway p i s2
    let s4 := rebuildPlan p s3
    forEach reportHoldings ((List.finRange 12).filter fun j => j = i ∨ j ∈ receiving) s4

/-- The release of a forced last member's bins (R51), reported for the slot. -/
def releaseBins (i : SlotIx) (s : State) : State :=
  match (s.slots.get i).pool with
  | none => s
  | some p => reportHoldings i (disownBins p i s)

end Sys2Proof.Machine
end

