-- ==== Sys2Proof/Machine/Queues.lean ====
section
/-! DEFINITION. The flushes of the egress and upstream queues (R96, R114), and the local pause state (R108–R111). -/

namespace Sys2Proof.Machine

/-- An egress queue loses its head (R94, R96). -/
def popEgress (i : SlotIx) (s : State) : State := s.setEgress i (s.egress.get i).tail

/-- A frame that has left an egress queue is reported to the Pool Controller if it was steered (R94, R96). -/
def reportLeft (entry : EgressEntry) (s : State) : State :=
  match entry.steered with
  | some (p, b) => lowerInflight p b s
  | none => s

/-- One frame is flushed from the head of an egress queue (R96, step 2). -/
def flushOne (i : SlotIx) (entry : EgressEntry) (s : State) : State :=
  reportLeft entry (bumpSlot i .flushed (popEgress i s))

/-- A data frame in transmission on a slot link is ended with an abort marker (R96, step 1; log entry 19). -/
def abortData (i : SlotIx) (s : State) : State :=
  if (s.links.get i).tx = some .data then s.updLink i fun l => { l with tx := none } else s

/-- A flush of an egress queue (R96), reported to lifecycle for the slot. -/
def flushEgress (i : SlotIx) (s : State) : State :=
  evaluateConfirmation i (forEach (flushOne i) (s.egress.get i) (abortData i s))

/-- The slot's blade is asked to pause (R109, R110): PAUSE(T) with T as it stands, the refresh timer started with
floor(T / 2) µs, at least 1 (R108). The PAUSE keeps the T of this moment until it is sent (R132, R200), where R191 applies a new
pause time at the next PAUSE(T) built (log entry 40). -/
def sendPause (i : SlotIx) (s : State) : State :=
  bumpSlot i .pauseSent
    ((askControl i (.pause s.agent.pauseTime) s).updUpstream i fun u =>
      { u with pause := some (max 1 (s.agent.pauseTime / 2)) })

/-- The slot's blade is asked to resume (R110): PAUSE(0), and the state becomes CLEAR. -/
def sendResume (i : SlotIx) (s : State) : State :=
  bumpSlot i .pauseSent ((askControl i (.pause 0) s).updUpstream i fun u => { u with pause := none })

/-- The pause state is evaluated at a join or a quota drop (R108, R109). -/
def pauseAtArrival (i : SlotIx) (s : State) : State :=
  match (s.upstream.get i).pause, effectiveQuota s i with
  | none, some q => if q ≤ (s.upstream.get i).queue.length then sendPause i s else s
  | some _, _ | none, none => s

/-- The pause state is evaluated at a transmission end (R109, R110). Outside the accepting states there is no quota
to evaluate against (log entry 8). -/
def pauseAtTxEnd (i : SlotIx) (s : State) : State :=
  match (s.upstream.get i).pause, effectiveQuota s i with
  | none, some q => if q ≤ (s.upstream.get i).queue.length then sendPause i s else s
  | some _, some q => if (s.upstream.get i).queue.length ≤ q / 2 then sendResume i s else s
  | _, none => s

/-- The pause state is evaluated at the expiry of a running refresh timer (R110). -/
def pauseAtRefresh (i : SlotIx) (s : State) : State :=
  match (s.upstream.get i).pause, effectiveQuota s i with
  | some _, some q => if (s.upstream.get i).queue.length ≤ q / 2 then sendResume i s else sendPause i s
  | none, _ | some _, none => s

/-- A flush acts on the pause state (R111): PAUSED becomes CLEAR, with PAUSE(0) sent in an accepting state. -/
def pauseAtFlush (i : SlotIx) (s : State) : State :=
  match (s.upstream.get i).pause with
  | none => s
  | some _ => if (s.slots.get i).state.accepting then sendResume i s else clearLocalPause i s

/-- The core link is sending a frame of slot `i`'s upstream queue. -/
def CoreTx.sends (i : SlotIx) : CoreTx → Bool
  | .upstream j _ => j = i
  | .idle | .mgmt _ => false

/-- An upstream frame of slot `i` in transmission on the core link is ended with an abort marker (R114, step 1;
log entry 19). -/
def abortUpstream (i : SlotIx) (s : State) : State :=
  if s.core.tx.sends i then s.updCore fun k => { k with tx := .idle } else s

/-- A flush of an upstream queue (R114). -/
def flushUpstream (i : SlotIx) (s : State) : State :=
  pauseAtFlush i
    (bumpSlotBy i .flushed (s.upstream.get i).queue.length
      ((abortUpstream i s).updUpstream i fun u => { u with queue := [] }))

/-- Both queues of a slot are flushed, the egress queue first (R7, step 3). -/
def flushQueues (i : SlotIx) (s : State) : State := flushUpstream i (flushEgress i s)

end Sys2Proof.Machine
end

