-- ==== Sys2Proof/Machine/Lifecycle.lean ====
section
/-! DEFINITION. The Slot Lifecycle Controller's transitions (chapter 1): departures, entries to states, probing,
admission, retirement, and the events of the scanner, the link and the monitor. -/

namespace Sys2Proof.Machine

/-- The slot owns a bin, or is the source or destination of an active move (R7, R30). -/
def slotHolds (s : State) (i : SlotIx) : Bool := decide (0 < slotHeld s i) || inActiveMove s i

/-- Departure with evacuation and flush from the state `old`, the new state being recorded (R7): the loss of
eligibility, the evacuation, the flushes. A slot leaving a state that holds no bins has its queues flushed. -/
def depart (i : SlotIx) (old : SlotState) (s : State) : State :=
  let s1 := if old.eligible then loseEligibility i s else s
  let s2 := if old.holding ∧ slotHolds s1 i then evacuate i s1 else s1
  flushQueues i s2

/-- Entry to FAULTED with a cause (R8–R11, R24–R26): timers stop, the change and FAULT are raised, the link goes
dark, the slot departs. A slot already FAULTED keeps its state (R24). -/
def enterFaulted (i : SlotIx) (cause : FaultCause) (s : State) : State :=
  let old := (s.slots.get i).state
  let s1 := (changeState i .faulted s).updSlot i fun r => { r.stopTimers with lastFault := some cause }
  depart i old (linkGoDark i (raiseFlag i .fault s1))

/-- Entry to SEATED from EMPTY (R8): HANDLE_OPENED where the accepted handle is open, and the link trains. -/
def seat (i : SlotIx) (s : State) : State :=
  let s1 := changeState i .seated s
  let s2 := if (s.ports.get i).handle.accepted then s1 else raiseFlag i .handleOpened s1
  linkTrain i s2

/-- An EMPTY slot is seated when the accepted values show a blade present with good power (R8). -/
def seatIfReady (i : SlotIx) (s : State) : State :=
  if (s.slots.get i).state = .empty ∧ (s.ports.get i).presence.accepted ∧ (s.ports.get i).power.accepted then
    seat i s
  else s

/-- The class check (R9): an expected class of 0 accepts any class. -/
def classPasses (s : State) (i : SlotIx) : Bool :=
  (s.slots.get i).expectedClass = 0
    ∨ (s.slots.get i).expectedClass = (s.ports.get i).bladeClass.accepted.toNat

/-- Qualification progress is cleared, at each entry to PROBING (R4). -/
def clearProgress (i : SlotIx) (s : State) : State :=
  s.updSlot i fun r => { r with echoes := 0, beaconsQualified := false }

/-- The probe exchange begins (R9): the monitor cleared, both timers started, eight PROBEs asked for. -/
def beginProbing (i : SlotIx) (s : State) : State :=
  let s1 := s.updSlot i fun r => { r with probeTimer := some 50, qualifyTimer := some s.agent.qualifyLimit }
  forEach (fun n => askControl i (.probe n)) (List.finRange 8) (monitorClear i s1)

/-- What an entry to PROBING does once the change is recorded (R4, R9): the progress is cleared, and the class is
checked (a slot that fails the check has entered PROBING first: log entry 16). -/
def checkClass (i : SlotIx) (s : State) : State :=
  let s1 := clearProgress i s
  if classPasses s i then beginProbing i s1 else enterFaulted i .classMismatch s1

/-- Entry to PROBING from SEATED, the link being UP (R6, R8). -/
def enterProbingFromSeated (i : SlotIx) (s : State) : State := checkClass i (changeState i .probing s)

/-- Entry to PROBING from DRAINED, the link asked to resume (R6, R27, R29); `flag` raises what the event raises
beside the change (R188). -/
def enterProbingFromDrained (i : SlotIx) (flag : State → State) (s : State) : State :=
  checkClass i (linkResume i (flag (changeState i .probing s)))

/-- Admission (R13): ADMITTING, ADMIT_NOTICE, the gain of eligibility, the admission condition. -/
def admitToPool (i : SlotIx) (s : State) : State :=
  evaluateAdmission i (gainEligibility i (askControl i .admitNotice (changeState i .admitting s)))

/-- AUTO_ADMIT is set, the record names a pool, and that pool is enabled (R11). -/
def autoAdmits (s : State) (i : SlotIx) : Bool :=
  (s.slots.get i).autoAdmit &&
    match (s.slots.get i).pool with
    | some p => (s.pools.get p).enabled
    | none => false

/-- Qualification is complete (R11): admission under AUTO_ADMIT to an enabled pool, otherwise STANDBY. -/
def completeQualification (i : SlotIx) (s : State) : State :=
  if autoAdmits s i then admitToPool i s else changeState i .standby s

/-- Qualification is complete when the echo set holds eight and the beacons are qualified (R11). -/
def evaluateQualification (i : SlotIx) (s : State) : State :=
  if (s.slots.get i).echoes = 0xFF#8 ∧ (s.slots.get i).beaconsQualified then completeQualification i s else s

/-- A probe echo reaches lifecycle with its verdict (R10): stray outside PROBING. -/
def echoArrives (i : SlotIx) (verdict : Option (Fin 8)) (s : State) : State :=
  if (s.slots.get i).state = .probing then
    match verdict with
    | none => enterFaulted i .probeMismatch s
    | some n =>
      evaluateQualification i (s.updSlot i fun r =>
        let set := r.echoes ||| (1#8 <<< n.val)
        { r with echoes := set, probeTimer := if set = 0xFF#8 then none else r.probeTimer })
  else bumpSlot i .strayControl s

/-- The monitor reports qualification (R10, R146): acted on in PROBING, once. -/
def qualificationReported (i : SlotIx) (s : State) : State :=
  if (s.slots.get i).state = .probing ∧ (s.slots.get i).beaconsQualified = false then
    evaluateQualification i (s.updSlot i fun r => { r with beaconsQualified := true, qualifyTimer := none })
  else s

/-- A beacon on an UP link (R128, R141, R146). -/
def beaconArrives (i : SlotIx) (s : State) : State :=
  let m := s.monitors.get i
  let s1 := (bumpSlot i .beacons s).updMonitor i MonitorRecord.beacon
  if m.beaconQualifies then qualificationReported i s1 else s1

/-- Entry to RETIRING, phase MOVING (R15), the deadline timer started; `flags` raises what the cause raises beside
the change (R188; log entry 15), and `release` is done after the loss of eligibility and before the confirmation
condition is evaluated (R16). -/
def enterRetiring (i : SlotIx) (flags release : State → State) (s : State) : State :=
  let s1 := flags (changeState i (.retiring .moving) s)
  let s2 := s1.updSlot i fun r =>
    { r with deadlineTimer := if r.retireDeadline = 0 then none else some (1000 * r.retireDeadline) }
  evaluateConfirmation i (release (loseEligibility i s2))

/-- An automatic retirement (R15, R17): LAST_MEMBER is raised for a last member. -/
def retireAutomatically (i : SlotIx) (flags : State → State) (s : State) : State :=
  let last := isLastMember s i
  enterRetiring i (fun s => let s := flags s; if last then raiseFlag i .lastMember s else s) id s

/-- Entry to DRAINED (R19): the acknowledgment timer stops and the link is asked to park. -/
def enterDrained (i : SlotIx) (flags : State → State) (s : State) : State :=
  linkPark i (flags (changeState i .drained s))

/-- A RETIRE_ACK reaches lifecycle (R19, R129): stray outside phase CONFIRMING. -/
def retireAckArrives (i : SlotIx) (s : State) : State :=
  if (s.slots.get i).state = .retiring .confirming then enterDrained i id s else bumpSlot i .strayControl s

/-- Presence is lost (R23): EMPTY, with SURPRISE_REMOVAL from ADMITTING, IN_SERVICE or phase MOVING; the link goes
dark and the slot departs. -/
def presenceLost (i : SlotIx) (s : State) : State :=
  let old := (s.slots.get i).state
  if old = .empty then s
  else
    let s1 := changeState i .empty s
    let s2 := if old.eligible ∨ old = .retiring .moving then raiseFlag i .surpriseRemoval s1 else s1
    depart i old (linkGoDark i s2)

/-- Power good is lost (R24): FAULTED with POWER_LOST from every state but EMPTY. -/
def powerLost (i : SlotIx) (s : State) : State :=
  if (s.slots.get i).state = .empty then s else enterFaulted i .powerLost s

/-- The handle has opened (R27): HANDLE_OPENED, and a retirement under AUTO_RETIRE. -/
def handleOpened (i : SlotIx) (s : State) : State :=
  let r := s.slots.get i
  if r.state = .empty then s
  else if r.state.eligible ∧ r.autoRetire then retireAutomatically i (raiseFlag i .handleOpened) s
  else raiseFlag i .handleOpened s

/-- The handle has closed (R27): HANDLE_CLOSED, and a DRAINED slot is probed again. -/
def handleClosed (i : SlotIx) (s : State) : State :=
  match (s.slots.get i).state with
  | .empty => s
  | .drained => enterProbingFromDrained i (raiseFlag i .handleClosed) s
  | .seated | .probing | .standby | .admitting | .inService | .retiring _ | .faulted | .fenced =>
    raiseFlag i .handleClosed s

/-- The accepted changes of one sample (R159); a change of class changes no slot state (R22). -/
structure Delivery where
  presence : Option Bool
  power : Option Bool
  handle : Option Bool
  deriving DecidableEq, Repr

/-- A delivery reaches lifecycle (R22): presence, then power good, then the handle, each in the state left by the
one before. -/
def deliver (i : SlotIx) (d : Delivery) (s : State) : State :=
  let s1 := match d.presence with
    | none => s
    | some true => seatIfReady i s
    | some false => presenceLost i s
  let s2 := match d.power with
    | none => s1
    | some true => seatIfReady i s1
    | some false => powerLost i s1
  match d.handle with
  | none => s2
  | some true => handleClosed i s2
  | some false => handleOpened i s2

/-- A loss of lock reaches lifecycle (R25). -/
def lockLossReported (i : SlotIx) (s : State) : State :=
  match (s.slots.get i).state with
  | .admitting | .inService | .retiring .moving | .probing | .standby => enterFaulted i .linkLost s
  | .retiring .confirming => enterDrained i id s
  | .seated | .empty | .drained | .faulted | .fenced => s

/-- An alarm reaches lifecycle (R26): the slot's alarm policy as it stands. -/
def alarmReported (i : SlotIx) (s : State) : State :=
  let r := s.slots.get i
  if r.state.holding ∧ r.alarmEvacuate then enterFaulted i .beaconAlarm s
  else if r.state.eligible ∧ r.alarmRetire then retireAutomatically i id s
  else s

/-- The link reports that it has come UP (R8): a SEATED slot enters PROBING. -/
def linkUpReported (i : SlotIx) (s : State) : State :=
  if (s.slots.get i).state = .seated then enterProbingFromSeated i s else s

/-- The link reports that its training has failed (R8, R123). -/
def trainingFailed (i : SlotIx) (s : State) : State :=
  if (s.slots.get i).state = .seated then enterFaulted i .trainTimeout s else s

/-- A training attempt has failed (R123): the next starts at once, or the training has failed. -/
def attemptFailed (i : SlotIx) (s : State) : State :=
  match (s.links.get i).train with
  | none => s
  | some t =>
    if t.attempt < t.limit then s.updLink i fun l => l.startAttempt t.mode t.limit (t.attempt + 1)
    else
      trainingFailed i (bumpSlot i .trainFailures
        (s.updLink i fun l => { l with attemptTimer := none, lockLossTimer := none }))

end Sys2Proof.Machine
end

