-- ==== Sys2Proof/Machine/Scanner.lean ====
section
/-! DEFINITION. The Slot Status Scanner: debounce, samples, and the choice of the next read cycle (R155–R160,
R203). -/

namespace Sys2Proof.Machine

/-- A signal after a good read of value `v` under debounce `d` (R158): the candidate it leaves, with its count. -/
def Signal.nextCandidate {α : Type} [DecidableEq α] (g : Signal α) (v : α) : Option (α × Nat) :=
  if v = g.accepted then none
  else
    match g.candidate with
    | none => some (v, 1)
    | some (c, n) => if c = v then some (v, n + 1) else some (v, 1)

/-- The signal after a good read (R158): a candidate whose count reaches `d` is accepted and removed. -/
def Signal.judge {α : Type} [DecidableEq α] (d : Nat) (v : α) (g : Signal α) : Signal α :=
  match g.nextCandidate v with
  | none => ⟨g.accepted, none⟩
  | some (c, n) => if d ≤ n then ⟨c, none⟩ else ⟨g.accepted, some (c, n)⟩

/-- The change a sample accepted, if it accepted one (R158, R159). -/
def Signal.changeTo {α : Type} [DecidableEq α] (before after : Signal α) : Option α :=
  if after.accepted = before.accepted then none else some after.accepted

/-- The port record after a good read of a status word (R156, R158, R203). -/
def PortRecord.goodRead (d : Nat) (word : Byte) (r : PortRecord) : PortRecord where
  presence := r.presence.judge d (word.getLsbD 7)
  power := r.power.judge d (word.getLsbD 6)
  handle := r.handle.judge d (word.getLsbD 5)
  bladeClass := r.bladeClass.judge d (word.extractLsb' 0 4)
  noResponse := 0

/-- The delivery a good read makes (R159). -/
def deliveryOf (before after : PortRecord) : Delivery where
  presence := before.presence.changeTo after.presence
  power := before.power.changeTo after.power
  handle := before.handle.changeTo after.handle

/-- A read is good when the port acknowledged and the check byte is the complement of the status byte (R156). -/
def readIsGood (ack : Bool) (word check : Byte) : Bool := ack && decide (check = ~~~word)

/-- The word of a status, with bit 4 as 0 (R203). -/
def statusWord (presence power handle : Bool) (cls : BitVec 4) : Byte :=
  (flagByte presence <<< 7) ||| (flagByte power <<< 6) ||| (flagByte handle <<< 5) ||| cls.setWidth 8

/-- A read cycle of `address` begins (R155): it keeps the mode, divisor and preamble of its start, and a preamble clears
forced preamble. -/
def ScannerRecord.beginCycle (c : ScannerRecord) (address : SlotIx) (single : Bool) : ScannerRecord :=
  let pre := c.preamble || c.forcedPreamble
  { c with
    cycle := some ⟨address, single, c.mode, c.divisor, pre⟩
    forcedPreamble := if pre then false else c.forcedPreamble }

/-- The address of the next rotation cycle (R157): the lowest of the range above the rotation pointer, or the
first. -/
def ScannerRecord.nextAddress (c : ScannerRecord) : SlotIx :=
  match c.pointer with
  | none => c.firstAddress
  | some p =>
    match (List.finRange 12).find? fun a => decide (c.firstAddress ≤ a ∧ a ≤ c.lastAddress ∧ p < a) with
    | some a => a
    | none => c.firstAddress

/-- The slot of a pending single read that has not been performed (R157, R163). -/
def ScannerRecord.waitingRead (c : ScannerRecord) : Option SlotIx :=
  match c.pendingRead with
  | some ⟨slot, _, none⟩ => some slot
  | some ⟨_, _, some _⟩ | none => none

/-- The next cycle is chosen (R157): the single read, a rotation cycle in SCAN mode, or an IDLE bus. -/
def ScannerRecord.chooseCycle (c : ScannerRecord) : ScannerRecord :=
  match c.waitingRead with
  | some slot => c.beginCycle slot true
  | none =>
    match c.mode with
    | .scan => c.beginCycle c.nextAddress false
    | .single | .off => { c with cycle := none }

/-- The next cycle is chosen for the part's bus (R157). -/
def chooseCycle (s : State) : State := s.updScanner ScannerRecord.chooseCycle

/-- An IDLE bus with work to do chooses a cycle (R157). -/
def chooseIfIdle (s : State) : State := if s.scanner.cycle.isNone then chooseCycle s else s

/-- A no-response read of slot `i` (R156, R160): SCAN_FAILED, the count up to 8, and SCAN_NO_RESPONSE while it
stands at 8. -/
def noResponseRead (i : SlotIx) (s : State) : State :=
  let s1 := (bumpSlot i .scanFailed s).updPort i fun r => { r with noResponse := min 8 (r.noResponse + 1) }
  if (s1.ports.get i).noResponse = 8 then raiseFlag i .scanNoResponse s1 else s1

/-- A good read of slot `i` (R156, R158, R159): SCAN_GOOD, the count 0, debounce, and the delivery of what was
accepted. -/
def goodRead (i : SlotIx) (word : Byte) (s : State) : State :=
  let before := s.ports.get i
  let s1 := (bumpSlot i .scanGood s).updPort i (PortRecord.goodRead s.scanner.debounce word)
  deliver i (deliveryOf before (s1.ports.get i)) s1

end Sys2Proof.Machine
end

