-- ==== Sys2Proof/Machine/Records.lean ====
section
/-! DEFINITION. The results of responses and the records returned by reads, byte by byte (R202–R204). -/

namespace Sys2Proof.Machine

/-- The results of ADMIT, RETIRE, FENCE, UNFENCE, REQUALIFY, SLOT_RESET and SET_WEIGHT (R202). -/
def slotResult (s : State) (i : SlotIx) : List Byte :=
  let r := s.slots.get i
  slotByte i :: stateBytes r.state ++ [byteOf r.weight]

/-- The results of SET_POLICY (R202). -/
def policyResult (s : State) (i : SlotIx) : List Byte :=
  let r := s.slots.get i
  [slotByte i, r.policy.setWidth 8, 0, 0, 0x1F, absentByte (r.pool.map fun p => byteOf p.val),
    byteOf r.expectedClass, byteOf r.retireDeadline, byteOf (rateModeCode r.rateMode), byteOf r.quota]

/-- The results of SET_BEACON (R202). -/
def beaconResult (s : State) (i : SlotIx) : List Byte :=
  let m := s.monitors.get i
  [slotByte i, 0x1F, byteOf (monitorModeCode m.mode), byteOf m.divisor, byteOf m.lowLimit,
    byteOf m.highLimit, byteOf m.alarmLimit]

/-- The results of CLEAR_ALARM (R202). -/
def alarmResult (s : State) (i : SlotIx) : List Byte :=
  let m := s.monitors.get i
  [slotByte i, byteOf (monitorPhaseCode m.phase), flagByte m.alarmRaised, byteOf m.latchedCount]

/-- The results of POOL_SET (R202). -/
def poolSetResult (s : State) (p : PoolIx) : List Byte :=
  let r := s.pools.get p
  [byteOf p.val, 0x3F, r.salt] ++ word16Of r.rampInterval
    ++ [byteOf r.settleTime, byteOf r.drainLimit, byteOf r.width, byteOf r.adoptionWindow]

/-- The results of POOL_ENABLE and POOL_DISABLE (R202). -/
def poolResult (s : State) (p : PoolIx) : List Byte :=
  [byteOf p.val, flagByte (s.pools.get p).enabled, flagByte (isDark s p)]
    ++ timerBytes (s.pools.get p).adoptionTimer

/-- The results of SET_SCAN (R202). A preamble that is on is reported as 1, whatever nonzero byte turned it on (log entry 37). -/
def scanResult (s : State) : List Byte :=
  let c := s.scanner
  [0x3F, byteOf (scanModeCode c.mode), byteOf c.divisor, flagByte c.preamble, slotByte c.firstAddress,
    slotByte c.lastAddress, byteOf c.debounce]

/-- The results of SET_DEVICE (R202). -/
def deviceResult (s : State) : List Byte :=
  let a := s.agent
  [0x1F] ++ word16Of a.pauseTime ++ word16Of a.ackTimeout ++ word16Of a.qualifyLimit
    ++ [byteOf a.trainingAttempts, flagByte a.noticesEnabled]

/-- A candidate's three bytes: present, value, count (R202). The value and the count of an absent candidate hold FF hex,
as R204 has it in READ_SLOT; R202 does not state them, and SCAN_READ reports the same bytes (log entry 35). -/
def candidateBytes {α : Type} (f : α → Byte) (c : Option (α × Nat)) : List Byte :=
  match c with
  | none => [0, 0xFF, 0xFF]
  | some (v, n) => [1, f v, byteOf n]

/-- The accepted word of a port (R203). -/
def acceptedWord (r : PortRecord) : Byte :=
  statusWord r.presence.accepted r.power.accepted r.handle.accepted r.bladeClass.accepted

/-- The candidates of presence, power, handle and class (R202). -/
def candidatesBytes (r : PortRecord) : List Byte :=
  candidateBytes flagByte r.presence.candidate ++ candidateBytes flagByte r.power.candidate
    ++ candidateBytes flagByte r.handle.candidate ++ candidateBytes (BitVec.setWidth 8) r.bladeClass.candidate

/-- The results of SCAN_READ (R163, R202); the word read is reported with bit 4 as 0 (R203). -/
def readResultBytes (slot : SlotIx) (res : ReadResult) : List Byte :=
  [slotByte slot, flagByte res.word.isSome, (res.word.getD 0) &&& 0xEF#8, acceptedWord res.port]
    ++ candidatesBytes res.port ++ [byteOf res.port.noResponse]

/-- The response payload of a performed single read: tag, code 14 hex, OK, results (R163, R202). -/
def readResponse (slot : SlotIx) (tag : Byte) (res : ReadResult) : List Byte :=
  [tag, 0x14, 0] ++ readResultBytes slot res

/-- A pattern's step width in ms (R170). -/
def widthMs (p : Pattern) : Nat := 25 * p.width

/-- A pattern's level mask: bit k is level k (R201). The bits at or above its length, which R202 does not state, are 0
(log entry 36). -/
def levelMask : List Bool → Nat
  | [] => 0
  | b :: rest => (if b then 1 else 0) + 2 * levelMask rest

/-- The results of SET_LAMP_PATTERN (R202). -/
def patternResult (s : State) (k : PatternIx) : List Byte :=
  let p := s.lamps.patterns.get k
  [byteOf k.val, byteOf p.levels.length, byteOf (widthMs p), byteOf p.levels.length]
    ++ word16Of (levelMask p.levels) ++ bytes32 s.lamps.counter

/-- The results of SET_LAMP_MAP (R202). -/
def mapResult (s : State) : List Byte := s.lamps.stateMap.cells.map fun k => byteOf k.val

/-- A slot's selected pattern: its override, or the State Map entry of its state (R169). -/
def selectedPattern (s : State) (i : SlotIx) : PatternIx :=
  (s.lamps.override.get i).getD (s.lamps.stateMap.get (stateCode (s.slots.get i).state))

/-- The results of LAMP_OVERRIDE (R202). -/
def overrideResult (s : State) (i : SlotIx) : List Byte :=
  [slotByte i, absentByte ((s.lamps.override.get i).map fun k => byteOf k.val), byteOf (selectedPattern s i).val]

/-- The results of READ_ATTENTION (R189, R202). -/
def attentionResult (s : State) : List Byte :=
  s.agent.deviceFlags.setWidth 8 :: (List.finRange 12).flatMap fun i =>
    bytes16 ((s.slots.get i).attention.setWidth 16) ++ stateBytes (s.slots.get i).state

/-- The results of READ_CAUSE and RESTART (R195, R202). -/
def causeResult (s : State) : List Byte :=
  [causeByte s.agent.lastCause, byteOf s.agent.pinResets, byteOf s.agent.restarts]

/-- IDENTIFY's three texts of eight bytes: "Bondrac ", "Stegran ", "SX-1208 " (R192, R202). -/
def identityText : List Byte :=
  [0x42, 0x6F, 0x6E, 0x64, 0x72, 0x61, 0x63, 0x20,
   0x53, 0x74, 0x65, 0x67, 0x72, 0x61, 0x6E, 0x20,
   0x53, 0x58, 0x2D, 0x31, 0x32, 0x30, 0x38, 0x20]

/-- The results of IDENTIFY (R192, R202). -/
def identityResult : List Byte :=
  identityText ++ [12, 8, 1, 1, 4, 64, 4] ++ word16Of Config.frameCells ++ word16Of Config.largestFrame
    ++ word16Of Config.egressCapacity
    ++ [byteOf Config.upstreamCapacity, byteOf Config.holdCapacity, byteOf Config.requestCapacity,
        byteOf Config.transmitCapacity, byteOf Config.requestPayloadLimit]

/-- The READ_SLOT record, 64 bytes (R33, R136, R151, R166, R177, R204). -/
def slotRecordBytes (s : State) (i : SlotIx) : List Byte :=
  let r := s.slots.get i
  let l := s.links.get i
  let m := s.monitors.get i
  let q := s.ports.get i
  [slotByte i] ++ stateBytes r.state
    ++ [absentByte (r.pool.map fun p => byteOf p.val), byteOf r.weight, byteOf r.expectedClass,
        r.policy.setWidth 8, byteOf r.retireDeadline, byteOf (rateModeCode r.rateMode), byteOf r.quota,
        byteOf ((r.lastFault.map causeCode).getD 0)]
    ++ bytes16 (r.attention.setWidth 16)
    ++ [r.echoes, flagByte r.beaconsQualified]
    ++ timerBytes r.probeTimer ++ timerBytes r.qualifyTimer ++ timerBytes r.deadlineTimer
    ++ timerBytes r.ackTimer
    ++ [byteOf (slotHeld s i), byteOf (slotTarget s i),
        byteOf (linkStateCode l.state), byteOf ((l.train.map fun t => rateCode t.rate).getD 0),
        byteOf ((l.train.map fun t => t.attempt).getD 0), byteOf ((l.train.map fun t => t.limit).getD 0),
        flagByte l.lock, flagByte l.lost, flagByte l.remotePause.isSome]
    ++ timerBytes l.remotePause
    ++ [byteOf l.control.length,
        byteOf (monitorModeCode m.mode), byteOf m.divisor, byteOf m.lowLimit, byteOf m.highLimit,
        byteOf m.alarmLimit, flagByte m.linkRunning, byteOf (monitorPhaseCode m.phase), byteOf m.runningCount,
        byteOf m.latchedCount, flagByte m.latchedSaturated, flagByte m.alarmRaised, byteOf m.run,
        acceptedWord q]
    ++ candidatesBytes q
    ++ [byteOf q.noResponse, absentByte ((s.lamps.override.get i).map fun k => byteOf k.val),
        byteOf (selectedPattern s i).val, flagByte (s.lamps.level.get i)]

/-- E as a mask in which bit k is slot number k + 1 (R204). -/
def memberMask (es : List SlotIx) : Nat := (es.map fun i => 2 ^ i.val).sum

/-- The READ_POOL record (R58, R204). -/
def poolRecordBytes (s : State) (p : PoolIx) : List Byte :=
  let r := s.pools.get p
  let hs := (List.finRange 12).filter (isHolding s p)
  [byteOf p.val, flagByte r.enabled, r.salt] ++ word16Of r.rampInterval
    ++ [byteOf r.settleTime, byteOf r.drainLimit, byteOf r.width, byteOf r.adoptionWindow, flagByte (isDark s p)]
    ++ word16Of (memberMask (eligibleMembers s p))
    ++ [byteOf (totalWeight (eligibleWeight s p))]
    ++ timerBytes r.rampTimer ++ timerBytes r.adoptionTimer
    ++ [byteOf r.plan.length, byteOf (activeMoves s p)]
    ++ bytes32 (s.poolCount p .immediateAssigns)
    ++ [byteOf hs.length]
    ++ hs.flatMap fun i =>
        [slotByte i] ++ stateBytes (s.slots.get i).state ++ [byteOf (r.targets.get i), byteOf (binsHeld s p i)]

/-- The owner state and slot bytes of a bin (R204). -/
def ownerBytes : Owner → List Byte
  | .unowned => [0, 0]
  | .owned i => [1, slotByte i]
  | .stale i => [2, slotByte i]

/-- The READ_BINS record, 321 bytes (R58, R204). -/
def binsRecordBytes (s : State) (p : PoolIx) : List Byte :=
  byteOf p.val :: (s.pools.get p).bins.cells.flatMap fun b =>
    ownerBytes b.owner ++ word16Of b.inflight ++ [absentByte (b.engine.map fun e => byteOf e.val)]

/-- An engine's ten bytes (R82, R204). -/
def engineBytes (s : State) (e : EngineIx) : List Byte :=
  match s.engines.get e with
  | none => [0, 0xFF, 0xFF, 0xFF, 0xFF, 0, 0, 0] ++ timerBytes none
  | some m =>
    [match m.phase with
      | .draining => 1
      | .settling => 2,
      byteOf m.pool.val, byteOf m.bin.val, slotByte m.source, slotByte m.destination, byteOf m.hold.length]
      ++ word16Of ((s.pools.get m.pool).bins.get m.bin).inflight ++ timerBytes (some m.timer)

/-- The READ_MOVES record (R82, R204). -/
def movesRecordBytes (s : State) (p : PoolIx) : List Byte :=
  let plan := (s.pools.get p).plan
  [byteOf p.val, byteOf plan.length]
    ++ plan.flatMap (fun e => [byteOf e.bin.val, slotByte e.source, slotByte e.destination])
    ++ (List.finRange 4).flatMap (engineBytes s)
    ++ bytes32 (s.poolCount p .movesDone) ++ bytes32 (s.poolCount p .earlyCommits)
    ++ bytes32 (s.poolCount p .forcedCommits) ++ bytes32 (s.poolCount p .abortedMoves)

/-- The counters of a table, four bytes each (R204). -/
def counterBytes {n : Nat} (t : Table Counter n) : List Byte := t.cells.flatMap bytes32

/-- The effective quota as READ_COUNTERS reports it: that of R106, or a free value outside the accepting states
(log entry 7). -/
def reportedQuota (s : State) (i : SlotIx) : Byte :=
  match effectiveQuota s i with
  | some q => byteOf q
  | none => Config.quotaOutsideAccepting (s.freeDraws + i.val)

/-- The READ_COUNTERS record, 1,401 bytes (R193, R204). -/
def countersRecordBytes (s : State) : List Byte :=
  counterBytes s.core.counters
    ++ s.pools.cells.flatMap (fun r => counterBytes r.counters)
    ++ s.slotCounters.cells.flatMap counterBytes
    ++ counterBytes s.agent.counters
    ++ word16Of (cellsInUse s)
    ++ s.egress.cells.flatMap (fun q => word16Of q.length)
    ++ (List.finRange 12).flatMap (fun i =>
        let u := s.upstream.get i
        [byteOf u.queue.length, reportedQuota s i, flagByte u.pause.isSome] ++ timerBytes u.pause)
    ++ [slotByte s.core.pointer, byteOf s.agent.requests.length, byteOf s.agent.transmit.length]

end Sys2Proof.Machine
end

