-- ==== Sys2Proof/Machine/Agent.lean ====
section
/-! DEFINITION. The Management Agent's queues: the hand-off of a request, and its processing as one event
(R180–R184, R202). -/

namespace Sys2Proof.Machine

/-- What a command answers. -/
abbrev Result := Host.Outcome State Fault Refusal

/-- The ten statuses of R186. -/
inductive Status where
  | ok
  | badRequest
  | badSlot
  | badPool
  | badState
  | range
  | busy
  | lastMember
  | holdsBins
  | poolDisabled
  deriving DecidableEq, Repr

/-- The status codes of R202. -/
def statusByte : Status → Byte
  | .ok => 0
  | .badRequest => 1
  | .badSlot => 2
  | .badPool => 3
  | .badState => 4
  | .range => 5
  | .busy => 6
  | .lastMember => 7
  | .holdsBins => 8
  | .poolDisabled => 9

/-- How a request's owner answers (R181, R184, step 3). -/
inductive Answer where
  /-- Refused with a status: no state changes. -/
  | refuse (status : Status)
  /-- Accepted: the effect, and the results, read in the state the effect leaves. -/
  | accept (effect : State → State) (results : State → List Byte)
  /-- Accepted without a response now: SCAN_READ alone (R162). -/
  | later (effect : State → State)

/-- A request that names a slot, 1–12: any other number is BAD_SLOT (R186). -/
def withSlot (b : Byte) (f : SlotIx → Answer) : Answer :=
  match slotOf b with
  | some i => f i
  | none => .refuse .badSlot

/-- A request that names a pool: a number above 3 is BAD_POOL (R186). -/
def withPool (b : Byte) (f : PoolIx → Answer) : Answer :=
  match poolOf b with
  | some p => f p
  | none => .refuse .badPool

/-- An answer that only reports (R181). -/
def report (results : State → List Byte) : Answer := .accept id results

/-- A payload joins the tail of the transmit queue (R185). -/
def joinTransmit (payload : List Byte) (s : State) : State :=
  s.updAgent fun a => { a with transmit := a.transmit ++ [payload] }

/-- The transmit queue has room (R184, R185). -/
def hasRoom (s : State) : Bool := s.agent.transmit.length < Config.transmitCapacity

/-- The queue entry of a request with some payload (R180): its first 240 bytes, and the overlength mark. -/
def entryOf (payload : List Byte) : RequestEntry :=
  let kept := payload.take Config.requestPayloadLimit
  ⟨kept.getD 0 0, kept[1]?, kept.drop 2, Config.requestPayloadLimit < payload.length⟩

/-- What the request queue keeps of a request frame (R90, R180): its header and its entry. -/
def queuedRequest (bytes : FrameBytes) (payload : List Byte) : QueuedRequest where
  header := bytes.take 10
  entry := entryOf payload

/-- The hand-off of a request (R90, R183): taken at the tail of the request queue, or dropped at a full one. -/
def handOff (bytes : FrameBytes) (payload : List Byte) (s : State) : State :=
  if s.agent.requests.length < Config.requestCapacity then
    bumpAgent .requestsTaken (s.updAgent fun a =>
      { a with requests := a.requests ++ [queuedRequest bytes payload] })
  else bumpAgent .requestDrops s

/-- The head entry leaves the request queue (R184, step 1). -/
def dropRequest (s : State) : State := s.updAgent fun a => { a with requests := a.requests.tail }

/-- A response payload: tag, code (0 for an entry without one), status, results (R202). -/
def responseOf (e : RequestEntry) (status : Status) (results : List Byte) : List Byte :=
  [e.tag, e.code.getD 0, statusByte status] ++ results

/-- An accepted request (R184, steps 3 to 5): its response holds a place at the tail of the transmit queue while
the effect is taken, so that the notices of the effect come behind it, and is filled in when the effect is
complete. -/
def acceptRequest (e : RequestEntry) (effect : State → State) (results : State → List Byte) (s : State) : State :=
  let s' := effect (joinTransmit [] s)
  s'.updAgent fun a =>
    { a with transmit := a.transmit.set s.agent.transmit.length (responseOf e .ok (results s')) }

/-- The head request is processed (R184, steps 2 to 5), the entry having left the queue. -/
def answerRequest (e : RequestEntry) (answer : Answer) (s : State) : State :=
  match answer with
  | .refuse status => joinTransmit (responseOf e status []) s
  | .accept effect results => acceptRequest e effect results s
  | .later effect => effect s

/-- The agent processes the request `c` (R184): when it is what the head entry of the request queue spells and
the transmit queue has room, the entry leaves and `owner` answers in the state that leaves; otherwise nothing
happens (log entry 2). -/
def processRequest (c : Instr) (owner : State → Answer) (s : State) : State :=
  match s.agent.requests with
  | [] => s
  | r :: _ =>
    if hasRoom s ∧ decodeRequest r.entry = c then answerRequest r.entry (owner (dropRequest s)) (dropRequest s)
    else s

end Sys2Proof.Machine
end

