-- ==== Sys2Proof/Machine/ScanCommands.lean ====
section
/-! DEFINITION. The Slot Status Scanner's events and requests (R156, R161–R164). -/

namespace Sys2Proof.Machine

/-- A single-read result takes room in the transmit queue, if there is any, and the pending read is removed
(R163). -/
def joinReadResponse (s : State) : State :=
  match s.scanner.pendingRead with
  | some ⟨slot, tag, some res⟩ =>
    if hasRoom s then
      joinTransmit (readResponse slot tag res) (s.updScanner fun c => { c with pendingRead := none })
    else s
  | some ⟨_, _, none⟩ | none => s

/-- The single read's result is recorded and offered (R163). -/
def recordRead (i : SlotIx) (word : Option Byte) (s : State) : State :=
  joinReadResponse (s.updScanner fun c =>
    { c with pendingRead := c.pendingRead.map fun r => { r with result := some ⟨word, s.ports.get i⟩ } })

/-- The sample that ends a cycle (R156, steps 1 and 2). -/
def sample (i : SlotIx) (good : Bool) (word : Byte) (s : State) : State :=
  if good then goodRead i word s else noResponseRead i s

/-- The end of a cycle (R156): the sample, the recorded result or the rotation pointer, the next choice. -/
def cycleEnds (c : BusCycle) (good : Bool) (word : Byte) (s : State) : State :=
  let s1 := sample c.address good word s
  chooseCycle
    (if c.isSingle then recordRead c.address (if good then some word else none) s1
    else s1.updScanner fun r => { r with pointer := some c.address })

/-- READ_CYCLE_END (R156). -/
def execReadCycleEnd (ack : Bool) (word check : Byte) (s : State) : Result :=
  .next (match s.scanner.cycle with
    | none => s
    | some c => cycleEnds c (readIsGood ack word check) word s)

/-- SCAN_READ_RESPONSE (R163). -/
def execScanReadResponse (s : State) : Result := .next (joinReadResponse s)

/-- A setting that a request must carry with a known value: absent, or read, or refused. -/
def known {α : Type} (read : Byte → Option α) (field : Option Byte) : Option (Option α) :=
  match field with
  | none => some none
  | some b => (read b).map some

/-- The bus clock divisors (R154). -/
def busDivisorOf (b : Byte) : Option Nat :=
  if b.toNat = 25 ∨ b.toNat = 50 ∨ b.toNat = 125 ∨ b.toNat = 250 then some b.toNat else none

/-- The settings of SET_SCAN in force (R161): debounce is clamped to 1–7. -/
def ScannerRecord.withSettings (c : ScannerRecord) (mode : Option ScanMode) (divisor : Option Nat)
    (preamble : Option Byte) (first last : Option SlotIx) (debounce : Option Byte) : ScannerRecord :=
  { c with
    mode := carried c.mode mode
    divisor := carried c.divisor divisor
    preamble := carried c.preamble (preamble.map (· ≠ 0))
    firstAddress := carried c.firstAddress first
    lastAddress := carried c.lastAddress last
    debounce := carried c.debounce (debounce.map fun b => clampTo 1 7 b.toNat) }

/-- New settings are written (R161): a change to SCAN on an IDLE bus begins a rotation cycle at once. -/
def writeScan (new : ScannerRecord) (s : State) : State :=
  let s1 := s.updScanner fun _ => new
  if s.scanner.mode ≠ .scan ∧ new.mode = .scan then chooseIfIdle s1 else s1

/-- The owner's answer to SET_SCAN (R161). -/
def answerSetScan (mode divisor preamble first last debounce : Option Byte) (s : State) : Answer :=
  match known scanModeOf mode with
  | none => .refuse .range
  | some mode =>
    match known busDivisorOf divisor with
    | none => .refuse .range
    | some divisor =>
      match known slotOf first, known slotOf last with
      | some first, some last =>
        let new := s.scanner.withSettings mode divisor preamble first last debounce
        if new.lastAddress < new.firstAddress then .refuse .range else .accept (writeScan new) scanResult
      | _, _ => .refuse .range

/-- SET_SCAN (R161). -/
def execSetScan (tag : Byte) (mode divisor preamble first last debounce : Option Byte) (s : State) : Result :=
  .next (processRequest (.setScan tag mode divisor preamble first last debounce)
    (answerSetScan mode divisor preamble first last debounce) s)

/-- An accepted SCAN_READ becomes the pending single read; on an IDLE bus it begins at once (R162). -/
def beginRead (tag : Byte) (i : SlotIx) (s : State) : State :=
  chooseIfIdle (s.updScanner fun c => { c with pendingRead := some ⟨i, tag, none⟩ })

/-- The owner's answer to SCAN_READ (R162). -/
def answerScanRead (tag slot : Byte) (s : State) : Answer :=
  withSlot slot fun i =>
    if s.scanner.mode = .off then .refuse .badState
    else if s.scanner.pendingRead.isSome then .refuse .busy
    else .later (beginRead tag i)

/-- SCAN_READ (R162). -/
def execScanRead (tag slot : Byte) (s : State) : Result :=
  .next (processRequest (.scanRead tag slot) (answerScanRead tag slot) s)

/-- The cycle in progress is aborted and reading begins afresh (R164). -/
def restartScan (s : State) : State :=
  chooseCycle (s.updScanner fun c => { c with cycle := none, forcedPreamble := true, pointer := none })

/-- SCAN_RESTART (R164). -/
def execScanRestart (tag : Byte) (s : State) : Result :=
  .next (processRequest (.scanRestart tag) (fun _ => .accept restartScan fun _ => []) s)

end Sys2Proof.Machine
end

