-- ==== Sys2Proof/Machine/AgentRequests.lean ====
section
/-! DEFINITION. The requests of the Management Agent itself (R184, R189–R196). -/

namespace Sys2Proof.Machine

/-- IDENTIFY (R192). -/
def execIdentify (tag : Byte) (s : State) : Result :=
  .next (processRequest (.identify tag) (fun _ => report fun _ => identityResult) s)

/-- READ_ATTENTION (R189). -/
def execReadAttention (tag : Byte) (s : State) : Result :=
  .next (processRequest (.readAttention tag) (fun _ => report attentionResult) s)

/-- The flags of slot 0, the device, as CLEAR_ATTENTION reports them (R190, R202). -/
def deviceFlagsResult (s : State) : List Byte := 0 :: bytes16 (s.agent.deviceFlags.setWidth 16)

/-- The flags of a slot as CLEAR_ATTENTION reports them (R190, R202). -/
def slotFlagsResult (i : SlotIx) (s : State) : List Byte :=
  slotByte i :: bytes16 ((s.slots.get i).attention.setWidth 16)

/-- The owner's answer to CLEAR_ATTENTION (R190): slot 0 is the device, with two flags; a slot has eleven. -/
def answerClearAttention (slot : Byte) (mask : BitVec 16) : Answer :=
  if slot = 0 then
    if mask.toNat < 2 ^ 2 then
      .accept (fun s => s.updAgent fun a => { a with deviceFlags := a.deviceFlags &&& ~~~(mask.setWidth 2) })
        deviceFlagsResult
    else .refuse .range
  else
    withSlot slot fun i =>
      if mask.toNat < 2 ^ 11 then
        .accept (fun s => s.updSlot i fun r => { r with attention := r.attention &&& ~~~(mask.setWidth 11) })
          (slotFlagsResult i)
      else .refuse .range

/-- CLEAR_ATTENTION (R190). -/
def execClearAttention (tag slot : Byte) (mask : BitVec 16) (s : State) : Result :=
  .next (processRequest (.clearAttention tag slot mask) (fun _ => answerClearAttention slot mask) s)

/-- READ_COUNTERS (R193): the record is of the moment before the response joins; twelve free values are drawn
(log entry 7). -/
def execReadCounters (tag : Byte) (s : State) : Result :=
  .next (processRequest (.readCounters tag)
    (fun now => .accept (fun s => { s with freeDraws := s.freeDraws + 12 }) fun _ => countersRecordBytes now) s)

/-- Every one of the 328 counters becomes 0 (R194). -/
def clearAllCounters (s : State) : State :=
  { s with
    core := { s.core with counters := Table.fill 7 0 }
    pools := Table.tab fun p => { s.pools.get p with counters := Table.fill 7 0 }
    slotCounters := Table.fill 12 (Table.fill 24 0)
    agent := { s.agent with counters := Table.fill 5 0 } }

/-- CLEAR_COUNTERS (R194). -/
def execClearCounters (tag : Byte) (s : State) : Result :=
  .next (processRequest (.clearCounters tag) (fun _ => .accept clearAllCounters fun _ => []) s)

/-- The notice enable settings (R201). -/
def noticesOf (b : Byte) : Option Bool := if b = 0 then some false else if b = 1 then some true else none

/-- The agent's settings with those a SET_DEVICE carries, clamped (R191). -/
def AgentRecord.withSettings (a : AgentRecord) (pause ackTimeout qualifyLimit : Option (BitVec 16))
    (attempts : Option Byte) (notices : Option Bool) : AgentRecord :=
  { a with
    pauseTime := carried a.pauseTime (pause.map fun w => max 1 w.toNat)
    ackTimeout := carried a.ackTimeout (ackTimeout.map fun w => clampTo 10 2550 w.toNat)
    qualifyLimit := carried a.qualifyLimit (qualifyLimit.map fun w => clampTo 100 2550 w.toNat)
    trainingAttempts := carried a.trainingAttempts (attempts.map fun b => clampTo 1 7 b.toNat)
    noticesEnabled := carried a.noticesEnabled notices }

/-- The owner's answer to SET_DEVICE (R191). -/
def answerSetDevice (pause ackTimeout qualifyLimit : Option (BitVec 16)) (attempts notices : Option Byte) : Answer :=
  match known noticesOf notices with
  | none => .refuse .range
  | some notices =>
    .accept (fun s => s.updAgent fun a => a.withSettings pause ackTimeout qualifyLimit attempts notices) deviceResult

/-- SET_DEVICE (R191). -/
def execSetDevice (tag : Byte) (pause ackTimeout qualifyLimit : Option (BitVec 16)) (attempts notices : Option Byte)
    (s : State) : Result :=
  .next (processRequest (.setDevice tag pause ackTimeout qualifyLimit attempts notices)
    (fun _ => answerSetDevice pause ackTimeout qualifyLimit attempts notices) s)

/-- READ_CAUSE (R195). -/
def execReadCause (tag : Byte) (s : State) : Result :=
  .next (processRequest (.readCause tag) (fun _ => report causeResult) s)

/-- The traffic state restarts (R60, R100, R118, R196): the moves abort with discard, the egress queues are flushed,
the enabled pools recomputed, the upstream queues flushed. -/
def restartTraffic (s : State) : State :=
  forEach flushUpstream (List.finRange 12)
    (forEach recompute (List.finRange 4)
      (forEach flushEgress (List.finRange 12)
        (onMoves (fun _ => true) abortDiscard s)))

/-- RESTART's effect (R195, R196): the traffic state, then the Reset Cause record and RESTARTED. -/
def restartPart (s : State) : State :=
  raiseDeviceFlag .restarted
    ((restartTraffic s).updAgent fun a => { a with lastCause := .restart, restarts := min 255 (a.restarts + 1) })

/-- RESTART (R196). -/
def execRestart (tag : Byte) (s : State) : Result :=
  .next (processRequest (.restart tag) (fun _ => .accept restartPart causeResult) s)

/-- UNKNOWN_REQUEST (R184, step 2): BAD_REQUEST. -/
def execUnknownRequest (entry : RequestEntry) (s : State) : Result :=
  .next (processRequest (.unknownRequest entry) (fun _ => .refuse .badRequest) s)

end Sys2Proof.Machine
end

