-- ==== Sys2Proof/Machine/BeaconCommands.lean ====
section
/-! DEFINITION. The Beacon Monitors' events and requests (R142, R144, R148, R149). -/

namespace Sys2Proof.Machine

/-- SATURATION_LATCH (R142): a monitor COUNTING in POLL mode. -/
def execSaturationLatch (i : SlotIx) (s : State) : Result :=
  .next (if (s.monitors.get i).phase = .counting ∧ (s.monitors.get i).mode = .poll then
      s.updMonitor i MonitorRecord.saturate
    else s)

/-- BEACON_ALARM (R144): a monitor COUNTING in ALARM mode freezes, the flag is raised and lifecycle is told. -/
def execBeaconAlarm (i : SlotIx) (s : State) : Result :=
  .next (if (s.monitors.get i).phase = .counting ∧ (s.monitors.get i).mode = .alarm then
      alarmReported i (raiseFlag i .beaconAlarm (s.updMonitor i MonitorRecord.freeze))
    else s)

/-- The monitor record after an accepted CLEAR_ALARM (R148): a raised alarm ends, and counting is armed again where
the link runs. -/
def MonitorRecord.endAlarm (m : MonitorRecord) : MonitorRecord :=
  if m.alarmRaised then
    { m with phase := if m.linkRunning then .counting else .idle, runningCount := 0, tickRemainder := 0 }
  else m

/-- CLEAR_ALARM (R148). -/
def execClearAlarm (tag slot : Byte) (s : State) : Result :=
  .next (processRequest (.clearAlarm tag slot)
    (fun _ => withSlot slot fun i =>
      .accept (fun s => s.updMonitor i MonitorRecord.endAlarm) fun s => alarmResult s i) s)

/-- The monitor divisors (R139). -/
def monitorDivisorOf (b : Byte) : Option Nat :=
  if b.toNat = 1 ∨ b.toNat = 2 ∨ b.toNat = 4 ∨ b.toNat = 8 then some b.toNat else none

/-- The monitor record with the settings a SET_BEACON carries (R149): an alarm limit of 0 is clamped to 1. -/
def MonitorRecord.withSettings (m : MonitorRecord) (mode : Option MonitorMode) (divisor : Option Nat)
    (low high alarm : Option Byte) : MonitorRecord :=
  { m with
    mode := carried m.mode mode
    divisor := carried m.divisor divisor
    lowLimit := carried m.lowLimit (low.map BitVec.toNat)
    highLimit := carried m.highLimit (high.map BitVec.toNat)
    alarmLimit := carried m.alarmLimit (alarm.map fun b => max 1 b.toNat) }

/-- The owner's answer to SET_BEACON (R149): the settings are written and the monitor is cleared. -/
def answerSetBeacon (slot : Byte) (mode divisor low high alarm : Option Byte) : Answer :=
  withSlot slot fun i =>
    match known monitorModeOf mode, known monitorDivisorOf divisor with
    | some mode, some divisor =>
      .accept (fun s => s.updMonitor i fun m => (m.withSettings mode divisor low high alarm).clear)
        fun s => beaconResult s i
    | _, _ => .refuse .range

/-- SET_BEACON (R149). -/
def execSetBeacon (tag slot : Byte) (mode divisor low high alarm : Option Byte) (s : State) : Result :=
  .next (processRequest (.setBeacon tag slot mode divisor low high alarm)
    (fun _ => answerSetBeacon slot mode divisor low high alarm) s)

end Sys2Proof.Machine
end

