-- ==== Sys2Proof/Machine/CorePort.lean ====
section
/-! DEFINITION. Reception on the core link: frame checks, classification, steering, slot delivery and the
hand-off of requests (R86–R92, R66, R70). -/

namespace Sys2Proof.Machine

/-- CORE_RX_START (R87): in IDLE a cell is taken, or the frame is marked unstored (R86). -/
def execCoreRxStart (s : State) : Result :=
  .next (match s.core.rx with
    | none => s.updCore fun k => { k with rx := some (takesCell s) }
    | some _ => s)

/-- A frame arrives for a moving bin (R66, R70): it joins the hold list, or an early commit is made and it goes
behind the released frames to the destination. -/
def steerToEngine (e : EngineIx) (m : MoveRecord) (bytes : FrameBytes) (s : State) : State :=
  if m.hold.length < Config.holdCapacity then s.setEngine e (some { m with hold := m.hold ++ [bytes] })
  else
    offerEgress m.destination ⟨bytes, some (m.pool, m.bin)⟩
      (bumpPool m.pool .earlyCommits 1 (engineCommit e m s))

/-- Steering of a pool frame (R91). -/
def steer (p : PoolIx) (key : BitVec 32) (bytes : FrameBytes) (s : State) : State :=
  let r := s.pools.get p
  if r.enabled then
    let b := binOf key r.salt
    let br := r.bins.get b
    match br.owner with
    | .unowned | .stale _ => bumpPool p .poolDark 1 s
    | .owned i =>
      match br.engine.bind fun e => (s.engines.get e).map fun m => (e, m) with
      | some (e, m) => steerToEngine e m bytes s
      | none => offerEgress i ⟨bytes, some (p, b)⟩ s
  else bumpPool p .poolDisabled 1 s

/-- Delivery of a slot frame by the slot's state (R92). -/
def deliverToSlot (i : SlotIx) (bytes : FrameBytes) (s : State) : State :=
  if (s.slots.get i).state.delivers then offerEgress i ⟨bytes, none⟩ s else bumpSlot i .slotUnreachable s

/-- Classification of a frame that passed its checks on the core port (R89). -/
def classify (info : FrameInfo) (bytes : FrameBytes) (s : State) : State :=
  match info.kind with
  | .dataPool =>
    match poolOf info.target with
    | some p => steer p info.flowKey bytes s
    | none => bumpCore .badTarget s
  | .dataSlot =>
    match slotOf info.target with
    | some i => deliverToSlot i bytes s
    | none => bumpCore .badTarget s
  | .mgmt => if info.target = 0 then handOff bytes info.payload s else bumpCore .badTarget s
  | .linkCtrl => bumpCore .badTarget s

/-- The end of a stored reception on the core port (R87, R88). -/
def coreFrameEnds (how : FrameEnd) (bytes : FrameBytes) (s : State) : State :=
  match how with
  | .aborted => bumpCore .rxAborted s
  | .normal =>
    match checkFrame bytes with
    | .error err => bumpCore (coreCheckCounter err) s
    | .ok info => classify info bytes (bumpCore .rxFrames s)

/-- CORE_RX_END (R87): the receiver enters IDLE; an unstored frame is counted NO_BUFFER and in no other counter. -/
def execCoreRxEnd (how : FrameEnd) (bytes : FrameBytes) (s : State) : Result :=
  .next (match s.core.rx with
    | none => s
    | some stored =>
      let s1 := s.updCore fun k => { k with rx := none }
      if stored then coreFrameEnds how bytes s1 else bumpCore .noBuffer s1)

end Sys2Proof.Machine
end

