-- ==== Sys2Proof/Machine/LampCommands.lean ====
section
/-! DEFINITION. The Lamp Driver's base step and requests (R171–R175). -/

namespace Sys2Proof.Machine

/-- The level a pattern shows at step count `c`: level number floor(S / m) mod L (R171). -/
def Pattern.levelAt (p : Pattern) (c : BitVec 32) : Bool :=
  p.levels.getD (c.toNat / p.width % p.levels.length) false

/-- The lamps after a base step (R171, R172): S has risen, and every level is that of the selected pattern. -/
def stepLamps (s : State) : State :=
  let c := s.lamps.counter + 1
  s.updLamps fun l =>
    { l with counter := c, level := Table.tab fun i => (l.patterns.get (selectedPattern s i)).levelAt c }

/-- LAMP_BASE_STEP (R171). -/
def execLampBaseStep (s : State) : Result := .next (stepLamps s)

/-- The levels of a mask: level k is bit k (R201). -/
def levelsOf (n : Nat) (mask : BitVec 16) : List Bool := (List.range n).map mask.getLsbD

/-- A definition replaces a pattern whole (R173). -/
def writePattern (k : PatternIx) (p : Pattern) (s : State) : State :=
  s.updLamps fun l => { l with patterns := l.patterns.set k p }

/-- The owner's answer to a SET_LAMP_PATTERN that carries a whole definition (R173). -/
def answerDefinition (index length width count : Byte) (mask : BitVec 16) : Answer :=
  if count ≠ length then .refuse .badRequest
  else
    match patternOf index with
    | none => .refuse .range
    | some k =>
      if length.toNat < 2 ∨ 16 < length.toNat then .refuse .range
      else
        match widthOf width with
        | none => .refuse .range
        | some w => .accept (writePattern k ⟨levelsOf length.toNat mask, w⟩) fun s => patternResult s k

/-- The owner's answer to SET_LAMP_PATTERN (R173): a part of a definition is BAD_REQUEST. -/
def answerSetLampPattern (index : Byte) (length width : Option Byte) (levels : Option (Byte × BitVec 16)) :
    Answer :=
  match length, width, levels with
  | some length, some width, some (count, mask) => answerDefinition index length width count mask
  | none, none, none =>
    match patternOf index with
    | none => .refuse .range
    | some k => report fun s => patternResult s k
  | _, _, _ => .refuse .badRequest

/-- SET_LAMP_PATTERN (R173). -/
def execSetLampPattern (tag index : Byte) (length width : Option Byte) (levels : Option (Byte × BitVec 16))
    (s : State) : Result :=
  .next (processRequest (.setLampPattern tag index length width levels)
    (fun _ => answerSetLampPattern index length width levels) s)

/-- The State Map entry that a state code names (R201). -/
def stateOfCode (b : Byte) : Option (Fin 10) := if h : b.toNat < 10 then some ⟨b.toNat, h⟩ else none

/-- The entries of a SET_LAMP_MAP, when every state and index is known (R174). -/
def mapEntries : List (Byte × Byte) → Option (List (Fin 10 × PatternIx))
  | [] => some []
  | (code, index) :: rest =>
    match stateOfCode code, patternOf index, mapEntries rest with
    | some c, some k, some more => some ((c, k) :: more)
    | _, _, _ => none

/-- The entries are written into the State Map (R174). -/
def writeMap (entries : List (Fin 10 × PatternIx)) (s : State) : State :=
  s.updLamps fun l => { l with stateMap := entries.foldl (fun t e => t.set e.1 e.2) l.stateMap }

/-- The owner's answer to SET_LAMP_MAP (R174). -/
def answerSetLampMap (entries : List (Byte × Byte)) : Answer :=
  if (entries.map Prod.fst).Nodup then
    match mapEntries entries with
    | some es => .accept (writeMap es) mapResult
    | none => .refuse .range
  else .refuse .badRequest

/-- SET_LAMP_MAP (R174). -/
def execSetLampMap (tag : Byte) (entries : List (Byte × Byte)) (s : State) : Result :=
  .next (processRequest (.setLampMap tag entries) (fun _ => answerSetLampMap entries) s)

/-- The override a byte asks for (R175, R201): FF hex is none, an index above 7 is refused. -/
def overrideOf (b : Byte) : Option (Option PatternIx) :=
  if b = 0xFF then some none else (patternOf b).map some

/-- The owner's answer to LAMP_OVERRIDE (R175). -/
def answerLampOverride (slot pattern : Byte) : Answer :=
  withSlot slot fun i =>
    match overrideOf pattern with
    | some o =>
      .accept (fun s => s.updLamps fun l => { l with override := l.override.set i o }) fun s => overrideResult s i
    | none => .refuse .range

/-- LAMP_OVERRIDE (R175). -/
def execLampOverride (tag slot pattern : Byte) (s : State) : Result :=
  .next (processRequest (.lampOverride tag slot pattern) (fun _ => answerLampOverride slot pattern) s)

end Sys2Proof.Machine
end

