-- ==== Sys2Proof/Machine/LinkEvents.lean ====
section
/-! DEFINITION. The events of a slot link's receiver and of its timers (R120, R123–R126, R130). -/

namespace Sys2Proof.Machine

/-- The link record as its receiver gains lock (R120, R123, R124): a running lock-loss timer stops. -/
def LinkRecord.gainLock (l : LinkRecord) : LinkRecord :=
  match l.state with
  | .dark => l
  | .training => { l with lock := true, lockedInAttempt := true, lockLossTimer := none }
  | .up | .parked => { l with lock := true, lockLossTimer := none }

/-- LOCK_GAINED. -/
def execLockGained (i : SlotIx) (s : State) : Result := .next (s.updLink i LinkRecord.gainLock)

/-- The link record as its receiver loses lock (R123–R125): in an attempt that had gained lock, and in UP with
lost no, the lock-loss timer starts. -/
def LinkRecord.loseLock (l : LinkRecord) : LinkRecord :=
  match l.state with
  | .dark => l
  | .training =>
    { l with
      lock := false
      lockLossTimer := if l.lockedInAttempt ∧ l.attemptTimer.isSome then some 1000 else l.lockLossTimer }
  | .up => { l with lock := false, lockLossTimer := if l.lost then l.lockLossTimer else some 1000 }
  | .parked => { l with lock := false }

/-- LOCK_LOST: nothing where lock is no; a reception in progress is cut off (R126). -/
def execLockLost (i : SlotIx) (s : State) : Result :=
  .next (if (s.links.get i).lock then (cutReception i s).updLink i LinkRecord.loseLock else s)

/-- An attempt is in progress on a link (R123). -/
def LinkRecord.inAttempt (l : LinkRecord) : Bool := decide (l.state = .training) && l.attemptTimer.isSome

/-- The link record as an attempt succeeds (R123). -/
def LinkRecord.enterUp (l : LinkRecord) : LinkRecord :=
  { l with
    state := .up, lock := true, lost := false, lockedInAttempt := false, attemptTimer := none
    lockLossTimer := none }

/-- ATTEMPT_SUCCESS (R123): with lock gained in this very attempt and held, the link enters UP and reports to its
monitor, then to lifecycle. -/
def execAttemptSuccess (i : SlotIx) (s : State) : Result :=
  .next (if (s.links.get i).inAttempt ∧ (s.links.get i).lockedInAttempt ∧ (s.links.get i).lock then
      linkUpReported i (monitorLinkUp i (bumpSlot i .linkUps (s.updLink i LinkRecord.enterUp)))
    else s)

/-- ATTEMPT_TIMER_EXPIRY (R123): the attempt fails. -/
def execAttemptTimerExpiry (i : SlotIx) (s : State) : Result :=
  .next (if (s.links.get i).inAttempt then attemptFailed i s else s)

/-- TRAINING_LOCK_LOSS (R123): the loss is counted and the attempt fails; lifecycle takes no action on the
loss. -/
def execTrainingLockLoss (i : SlotIx) (s : State) : Result :=
  .next (if (s.links.get i).inAttempt ∧ (s.links.get i).lockLossTimer.isSome then
      attemptFailed i (bumpSlot i .lockLosses s)
    else s)

/-- LOCK_LOSS_EXPIRY (R124): the link stops carrying frames and reports to its monitor, the Upstream Queue Manager
and lifecycle. -/
def execLockLossExpiry (i : SlotIx) (s : State) : Result :=
  .next (if (s.links.get i).carries ∧ (s.links.get i).lockLossTimer.isSome then
      lockLossReported i (reportLeftUp i (cutReception i (bumpSlot i .lockLosses
        (s.updLink i fun l => { l with lost := true, lockLossTimer := none, tx := none }))))
    else s)

/-- REMOTE_PAUSE_EXPIRY (R130). -/
def execRemotePauseExpiry (i : SlotIx) (s : State) : Result :=
  .next (s.updLink i fun l => { l with remotePause := none })

end Sys2Proof.Machine
end

