-- ==== Sys2Proof/Machine/MoveEvents.lean ====
section
/-! DEFINITION. The events of the move engines, the engine arbiter and the pools' timers (R54–R57, R65, R68,
R69). -/

namespace Sys2Proof.Machine

/-- DRAIN_TIMER_EXPIRY (R68): a forced commit. -/
def execDrainTimerExpiry (e : EngineIx) (s : State) : Result :=
  .next (match s.engines.get e with
    | none => s
    | some m =>
      match m.phase with
      | .draining => bumpPool m.pool .forcedCommits 1 (engineCommit e m s)
      | .settling => s)

/-- SETTLE_TIMER_EXPIRY (R69). -/
def execSettleTimerExpiry (e : EngineIx) (s : State) : Result :=
  .next (match s.engines.get e with
    | none => s
    | some m =>
      match m.phase with
      | .settling => engineCommit e m s
      | .draining => s)

/-- RAMP_TIMER_EXPIRY (R55): the timer stops. -/
def execRampTimerExpiry (p : PoolIx) (s : State) : Result :=
  .next (s.updPool p fun r => { r with rampTimer := none })

/-- The engine the arbiter would grant: the lowest-numbered IDLE one (R56, step 1). -/
def idleEngine (s : State) : Option EngineIx := (List.finRange 4).find? fun e => s.engines.get e = none

/-- The pool the arbiter would grant: the first that wants an engine, onward from the pool after the pointer
(R56, step 2). -/
def wantingPool (s : State) : Option PoolIx :=
  ((List.finRange 4).map fun k => s.arbiter + 1 + k).find? (wantsEngine s)

/-- The engine's side of a move start (R65): DRAINING, SETTLING, or a commit at once. -/
def startMove (e : EngineIx) (m : MoveRecord) (s : State) : State :=
  let count := ((s.pools.get m.pool).bins.get m.bin).inflight
  if 0 < count then s.setEngine e (some { m with phase := .draining, timer := m.drainLimit })
  else if 0 < m.settleTime then s.setEngine e (some { m with phase := .settling, timer := m.settleTime })
  else engineCommit e m (s.setEngine e (some m))

/-- The move record that a plan entry starts with (R57, step 2). -/
def moveOf (p : PoolIx) (r : PoolRecord) (entry : PlanEntry) : MoveRecord where
  pool := p
  bin := entry.bin
  source := entry.source
  destination := entry.destination
  drainLimit := r.drainLimit
  settleTime := r.settleTime
  phase := .settling
  timer := 0
  hold := []

/-- A grant (R56, R57): the head of the pool's plan starts, the ramp timer restarts, the pointer moves. -/
def grant (e : EngineIx) (p : PoolIx) (entry : PlanEntry) (rest : List PlanEntry) (s : State) : State :=
  let r := s.pools.get p
  let s1 := s.updPool p fun r => { r with plan := rest, rampTimer := some r.rampInterval }
  let s2 := { s1 with arbiter := p }
  startMove e (moveOf p r entry) (s2.updBin p entry.bin fun b => { b with engine := some e })

/-- ENGINE_GRANT (R56): nothing unless an engine is IDLE and a pool wants one. -/
def execEngineGrant (s : State) : Result :=
  .next (match idleEngine s, wantingPool s with
    | some e, some p =>
      match (s.pools.get p).plan with
      | entry :: rest => grant e p entry rest s
      | [] => s
    | _, _ => s)

/-- ADOPTION_TIMER_EXPIRY (R54): the window closes, every STALE bin becomes UNOWNED, the pool is recomputed. -/
def execAdoptionTimerExpiry (p : PoolIx) (s : State) : Result :=
  .next (if windowOpen s p then
      recompute p ((dropStale p s).updPool p fun r => { r with adoptionTimer := none })
    else s)

end Sys2Proof.Machine
end

