-- ==== Sys2Proof/Machine/PoolRequests.lean ====
section
/-! DEFINITION. The requests of the Pool Controller (R38, R52, R53, R58, R82). -/

namespace Sys2Proof.Machine

/-- The pool record with the settings a POOL_SET carries, clamped (R38). -/
def PoolRecord.withSettings (r : PoolRecord) (salt : Option Byte) (ramp : Option (BitVec 16))
    (settle drain width adoption : Option Byte) : PoolRecord :=
  { r with
    salt := carried r.salt salt
    rampInterval := carried r.rampInterval (ramp.map fun w => clampTo 1 1000 w.toNat)
    settleTime := carried r.settleTime (settle.map BitVec.toNat)
    drainLimit := carried r.drainLimit (drain.map fun b => max 1 b.toNat)
    width := carried r.width (width.map fun b => clampTo 1 4 b.toNat)
    adoptionWindow := carried r.adoptionWindow (adoption.map fun b => min 60 b.toNat) }

/-- A POOL_SET is refused (R38): a new salt while the pool is enabled, or a width carried below the active
moves. -/
def poolSetRefused (s : State) (p : PoolIx) (salt width : Option Byte) : Bool :=
  (decide (carried (s.pools.get p).salt salt ≠ (s.pools.get p).salt) && (s.pools.get p).enabled) ||
    match width with
    | some b => decide (clampTo 1 4 b.toNat < activeMoves s p)
    | none => false

/-- The owner's answer to POOL_SET (R38). -/
def answerPoolSet (pool : Byte) (salt : Option Byte) (ramp : Option (BitVec 16))
    (settle drain width adoption : Option Byte) (s : State) : Answer :=
  withPool pool fun p =>
    if poolSetRefused s p salt width then .refuse .badState
    else
      .accept (fun s => s.updPool p fun r => r.withSettings salt ramp settle drain width adoption)
        fun s => poolSetResult s p

/-- POOL_SET (R38). -/
def execPoolSet (tag pool : Byte) (salt : Option Byte) (ramp : Option (BitVec 16))
    (settle drain width adoption : Option Byte) (s : State) : Result :=
  .next (processRequest (.poolSet tag pool salt ramp settle drain width adoption)
    (answerPoolSet pool salt ramp settle drain width adoption) s)

/-- A bin that is STALE. -/
def BinRecord.isStale (b : BinRecord) : Bool :=
  match b.owner with
  | .stale _ => true
  | .unowned | .owned _ => false

/-- The adoption window opens for an enabled pool with STALE bins and a window setting, and otherwise the STALE bins
become UNOWNED (R52, step 2). -/
def openWindow (p : PoolIx) (s : State) : State :=
  let r := s.pools.get p
  if r.adoptionWindow ≠ 0 ∧ !(binsWhere s p BinRecord.isStale).isEmpty then
    s.updPool p fun r => { r with adoptionTimer := some (1000 * r.adoptionWindow) }
  else dropStale p s

/-- A pool is enabled (R52); one already enabled is left as it is. -/
def enablePool (p : PoolIx) (s : State) : State :=
  if (s.pools.get p).enabled then s
  else recompute p (openWindow p (s.updPool p fun r => { r with enabled := true }))

/-- POOL_ENABLE (R52). -/
def execPoolEnable (tag pool : Byte) (s : State) : Result :=
  .next (processRequest (.poolEnable tag pool)
    (fun _ => withPool pool fun p => .accept (enablePool p) fun s => poolResult s p) s)

/-- A pool is disabled (R53): the window and the ramp timer stop, the plan is empty; one already disabled is left
as it is. -/
def disablePool (p : PoolIx) (s : State) : State :=
  if (s.pools.get p).enabled then
    s.updPool p fun r => { r with enabled := false, adoptionTimer := none, rampTimer := none, plan := [] }
  else s

/-- The owner's answer to POOL_DISABLE (R53). -/
def answerPoolDisable (pool : Byte) (s : State) : Answer :=
  withPool pool fun p =>
    if (List.finRange 12).any (isHolding s p) then .refuse .badState
    else .accept (disablePool p) fun s => poolResult s p

/-- POOL_DISABLE (R53). -/
def execPoolDisable (tag pool : Byte) (s : State) : Result :=
  .next (processRequest (.poolDisable tag pool) (answerPoolDisable pool) s)

/-- READ_POOL (R58). -/
def execReadPool (tag pool : Byte) (s : State) : Result :=
  .next (processRequest (.readPool tag pool) (fun _ => withPool pool fun p => report fun s => poolRecordBytes s p) s)

/-- READ_BINS (R58). -/
def execReadBins (tag pool : Byte) (s : State) : Result :=
  .next (processRequest (.readBins tag pool) (fun _ => withPool pool fun p => report fun s => binsRecordBytes s p) s)

/-- READ_MOVES (R82). -/
def execReadMoves (tag pool : Byte) (s : State) : Result :=
  .next (processRequest (.readMoves tag pool)
    (fun _ => withPool pool fun p => report fun s => movesRecordBytes s p) s)

end Sys2Proof.Machine
end

