-- ==== Sys2Proof/Machine/Resets.lean ====
section
/-! DEFINITION. Power-on and the pin reset (00, Resets; R35, R59, R83, R98, R99, R117, R137, R152, R167, R178,
R195, R197). -/

namespace Sys2Proof.Machine

/-- POWER_ON: every block at its power-on values, the first read cycle begun (R167). The model's own fields are
kept (log entry 12). -/
def execPowerOn (s : State) : Result :=
  .next (chooseCycle { State.reset with pending := s.pending, freeDraws := s.freeDraws })

/-- A slot record after a pin reset (R35). -/
def SlotRecord.pinReset (r : SlotRecord) : SlotRecord :=
  { r.stopTimers with state := .empty, attention := 0, echoes := 0, beaconsQualified := false }

/-- A bin's owner after a pin reset (R59): OWNED becomes STALE. -/
def Owner.pinReset : Owner → Owner
  | .owned i => .stale i
  | .stale i => .stale i
  | .unowned => .unowned

/-- A pool record after a pin reset (R59, R83). -/
def PoolRecord.pinReset (r : PoolRecord) : PoolRecord :=
  { PoolRecord.powerOn with
    salt := r.salt, rampInterval := r.rampInterval, settleTime := r.settleTime, drainLimit := r.drainLimit
    width := r.width, adoptionWindow := r.adoptionWindow
    bins := Table.tab fun b => ⟨(r.bins.get b).owner.pinReset, 0, none⟩ }

/-- A monitor record after a pin reset (R152): the settings are kept. -/
def MonitorRecord.pinReset (m : MonitorRecord) : MonitorRecord :=
  { MonitorRecord.powerOn with
    mode := m.mode, divisor := m.divisor, lowLimit := m.lowLimit, highLimit := m.highLimit
    alarmLimit := m.alarmLimit }

/-- The scanner after a pin reset, its first cycle not yet begun (R167): the settings are kept. -/
def ScannerRecord.pinReset (c : ScannerRecord) : ScannerRecord :=
  { ScannerRecord.powerOn with
    mode := c.mode, divisor := c.divisor, preamble := c.preamble, firstAddress := c.firstAddress
    lastAddress := c.lastAddress, debounce := c.debounce }

/-- The Lamp Driver after a pin reset (R178): the Pattern Table and the State Map are kept. -/
def LampRecord.pinReset (l : LampRecord) : LampRecord :=
  { LampRecord.powerOn with patterns := l.patterns, stateMap := l.stateMap }

/-- The Management Agent after a pin reset (R195, R197): four settings and the Reset Cause record are kept, the
record updated, RESTARTED clear and PIN_RESET set. -/
def AgentRecord.pinReset (a : AgentRecord) : AgentRecord :=
  { AgentRecord.powerOn with
    pauseTime := a.pauseTime, ackTimeout := a.ackTimeout, qualifyLimit := a.qualifyLimit
    trainingAttempts := a.trainingAttempts
    deviceFlags := 1#2 <<< deviceBit .pinReset
    lastCause := .pin, pinResets := min 255 (a.pinResets + 1), restarts := a.restarts }

/-- Every block at its pin-reset values, the first read cycle not yet begun. -/
def pinResetState (s : State) : State :=
  { State.reset with
    slots := Table.tab fun i => (s.slots.get i).pinReset
    pools := Table.tab fun p => (s.pools.get p).pinReset
    monitors := Table.tab fun i => (s.monitors.get i).pinReset
    scanner := s.scanner.pinReset
    lamps := s.lamps.pinReset
    agent := s.agent.pinReset
    pending := s.pending
    freeDraws := s.freeDraws }

/-- PIN_RESET: every block at its pin-reset values, the first read cycle begun in the mode the settings hold
(R167). -/
def execPinReset (s : State) : Result := .next (chooseCycle (pinResetState s))

end Sys2Proof.Machine
end

