-- ==== Sys2Proof/Machine/SlotPort.lean ====
section
/-! DEFINITION. Reception on the slot links: sorting, link control frames from the blade, upstream admission
(R86, R104–R109, R126–R131). -/

namespace Sys2Proof.Machine

/-- SLOT_RX_START (R126): a receiving link takes a cell, or marks the frame unstored (R86). -/
def execSlotRxStart (i : SlotIx) (s : State) : Result :=
  .next (if (s.links.get i).receives ∧ (s.links.get i).rx = none then
      s.updLink i fun l => { l with rx := some (takesCell s) }
    else s)

/-- A PAUSE from the blade (R130): refused unless its payload is 2 bytes; discarded on a PARKED link. -/
def pauseArrives (i : SlotIx) (payload : List Byte) (s : State) : State :=
  match payload with
  | [hi, lo] =>
    if (s.links.get i).state = .up then
      let t := (word16 hi lo).toNat
      bumpSlot i .remotePauses (s.updLink i fun l => { l with remotePause := if t = 0 then none else some t })
    else s
  | _ => bumpSlot i .strayControl s

/-- A link control frame from the blade goes to the consumer of its subcode (R127–R131, R200); a BEACON on a
PARKED link is discarded. -/
def controlArrives (i : SlotIx) (info : FrameInfo) (s : State) : State :=
  match info.target.toNat with
  | 1 => if (s.links.get i).state = .up then beaconArrives i s else s
  | 3 => echoArrives i (echoVerdict i info.payload) s
  | 6 => retireAckArrives i s
  | 7 => pauseArrives i info.payload s
  | _ => bumpSlot i .strayControl s

/-- Upstream admission of a data frame (R105, R107–R109). -/
def admitUpstream (i : SlotIx) (bytes : FrameBytes) (s : State) : State :=
  match effectiveQuota s i with
  | none => bumpSlot i .lateUpstream s
  | some q =>
    if (s.upstream.get i).queue.length < q then
      pauseAtArrival i (bumpSlot i .upstreamAdmitted
        (s.updUpstream i fun u => { u with queue := u.queue ++ [bytes] }))
    else pauseAtArrival i (raiseFlag i .quotaExceeded (bumpSlot i .quotaDrop s))

/-- A frame that passed its checks on a slot link is sorted by its kind (R104). -/
def sortFrame (i : SlotIx) (info : FrameInfo) (bytes : FrameBytes) (s : State) : State :=
  match info.kind with
  | .linkCtrl => controlArrives i info s
  | .mgmt => bumpSlot i .mgmtFromSlot s
  | .dataPool | .dataSlot => admitUpstream i bytes s

/-- The end of a stored reception on a slot link (R88, R126). -/
def slotFrameEnds (i : SlotIx) (how : FrameEnd) (bytes : FrameBytes) (s : State) : State :=
  match how with
  | .aborted => bumpSlot i .rxAborted s
  | .normal =>
    match checkFrame bytes with
    | .error err => bumpSlot i (slotCheckCounter err) s
    | .ok info => sortFrame i info bytes s

/-- SLOT_RX_END (R126): an unstored reception is counted NO_BUFFER at any end. -/
def execSlotRxEnd (i : SlotIx) (how : FrameEnd) (bytes : FrameBytes) (s : State) : Result :=
  .next (match (s.links.get i).rx with
    | none => s
    | some stored =>
      let s1 := s.updLink i fun l => { l with rx := none }
      if stored then slotFrameEnds i how bytes s1 else bumpSlot i .noBuffer s1)

end Sys2Proof.Machine
end

