-- ==== Sys2Proof/Machine/SlotRequests.lean ====
section
/-! DEFINITION. The requests of the Slot Lifecycle Controller (R12, R16, R21, R28–R33). -/

namespace Sys2Proof.Machine

/-- READ_SLOT (R33). -/
def execReadSlot (tag slot : Byte) (s : State) : Result :=
  .next (processRequest (.readSlot tag slot) (fun _ => withSlot slot fun i => report fun s => slotRecordBytes s i) s)

/-- The policy flags after the three masks of SET_POLICY (R31): clear, then set, then toggle. Bits 5–7 of a mask
name no flag (R201). -/
def maskedPolicy (old : BitVec 5) (clear set toggle : Byte) : BitVec 5 :=
  ((old &&& ~~~(clear.setWidth 5)) ||| set.setWidth 5) ^^^ toggle.setWidth 5

/-- The pool a pool byte of SET_POLICY names: FF hex makes it absent (R201). -/
def policyPoolOf (b : Byte) : Option (Option PoolIx) :=
  if b = 0xFF then some none else (poolOf b).map some

/-- The blade classes (R4). -/
def classOf (b : Byte) : Option Nat := if b.toNat ≤ 15 then some b.toNat else none

/-- The slot record after an accepted SET_POLICY (R31): a deadline above 60 s is clamped, a quota to 8–128. -/
def SlotRecord.withPolicy (r : SlotRecord) (clear set toggle : Byte) (pool : Option (Option PoolIx))
    (cls : Option Nat) (deadline : Option Byte) (mode : Option RateMode) (quota : Option Byte) : SlotRecord :=
  { r with
    policy := maskedPolicy r.policy clear set toggle
    pool := carried r.pool pool
    expectedClass := carried r.expectedClass cls
    retireDeadline := carried r.retireDeadline (deadline.map fun b => min 60 b.toNat)
    rateMode := carried r.rateMode mode
    quota := carried r.quota (quota.map fun b => clampTo 8 128 b.toNat) }

/-- The owner's answer to SET_POLICY (R31). -/
def answerSetPolicy (slot clear set toggle : Byte) (pool cls deadline mode quota : Option Byte) (s : State) :
    Answer :=
  withSlot slot fun i =>
    match known policyPoolOf pool with
    | none => .refuse .badPool
    | some pool =>
      match known classOf cls, known rateModeOf mode with
      | some cls, some mode =>
        let r := s.slots.get i
        if r.state.holding ∧ carried r.pool pool ≠ r.pool then .refuse .badState
        else
          .accept (fun s => s.updSlot i fun r => r.withPolicy clear set toggle pool cls deadline mode quota)
            fun s => policyResult s i
      | _, _ => .refuse .range

/-- SET_POLICY (R31). -/
def execSetPolicy (tag slot clear set toggle : Byte) (pool cls deadline mode quota : Option Byte) (s : State) :
    Result :=
  .next (processRequest (.setPolicy tag slot clear set toggle pool cls deadline mode quota)
    (answerSetPolicy slot clear set toggle pool cls deadline mode quota) s)

/-- The pool of a slot is recomputed, if it names one (R32). -/
def recomputeOf (i : SlotIx) (s : State) : State :=
  match (s.slots.get i).pool with
  | some p => recompute p s
  | none => s

/-- A weight is written (R32): an eligible slot's pool is recomputed, and its admission condition evaluated. -/
def writeWeight (i : SlotIx) (w : Nat) (s : State) : State :=
  let s1 := s.updSlot i fun r => { r with weight := w }
  if (s.slots.get i).state.eligible then evaluateAdmission i (recomputeOf i s1) else s1

/-- The owner's answer to SET_WEIGHT (R32): a weight above 15 is clamped. -/
def answerSetWeight (slot weight : Byte) : Answer :=
  withSlot slot fun i =>
    if weight = 0 then .refuse .range
    else .accept (writeWeight i (min 15 weight.toNat)) fun s => slotResult s i

/-- SET_WEIGHT (R32). -/
def execSetWeight (tag slot weight : Byte) (s : State) : Result :=
  .next (processRequest (.setWeight tag slot weight) (fun _ => answerSetWeight slot weight) s)

/-- An accepted ADMIT (R12, R21): pool and weight are written, and the slot is admitted. -/
def admitWith (i : SlotIx) (p : PoolIx) (w : Nat) (s : State) : State :=
  admitToPool i (s.updSlot i fun r => { r with pool := some p, weight := w })

/-- The owner's answer to ADMIT (R12); in phase MOVING the pool must be the record's own (R21). -/
def answerAdmit (slot pool weight : Byte) (s : State) : Answer :=
  withSlot slot fun i =>
    withPool pool fun p =>
      if weight = 0 then .refuse .range
      else
        let r := s.slots.get i
        if r.state = .standby ∨ (r.state = .retiring .moving ∧ r.pool = some p) then
          if (s.pools.get p).enabled then
            .accept (admitWith i p (min 15 weight.toNat)) fun s => slotResult s i
          else .refuse .poolDisabled
        else .refuse .badState

/-- ADMIT (R12, R21). -/
def execAdmit (tag slot pool weight : Byte) (s : State) : Result :=
  .next (processRequest (.admitSlot tag slot pool weight) (answerAdmit slot pool weight) s)

/-- The owner's answer to RETIRE (R16). -/
def answerRetire (slot force : Byte) (s : State) : Answer :=
  withSlot slot fun i =>
    let results := fun s => slotResult s i
    match (s.slots.get i).state with
    | .retiring _ => report results
    | .admitting | .inService =>
      if isLastMember s i then
        if forceOf force then .accept (enterRetiring i id (releaseBins i)) results else .refuse .lastMember
      else .accept (enterRetiring i id id) results
    | .empty | .seated | .probing | .standby | .drained | .faulted | .fenced => .refuse .badState

/-- RETIRE (R16). -/
def execRetire (tag slot force : Byte) (s : State) : Result :=
  .next (processRequest (.retire tag slot force) (answerRetire slot force) s)

/-- A slot is fenced (R28): FENCED, the link parked or dark, the departure. -/
def fenceSlot (i : SlotIx) (s : State) : State :=
  depart i (s.slots.get i).state (linkPark i (changeState i .fenced s))

/-- The owner's answer to FENCE (R28). -/
def answerFence (slot : Byte) (s : State) : Answer :=
  withSlot slot fun i =>
    if (s.slots.get i).state = .empty ∨ (s.slots.get i).state = .fenced then .refuse .badState
    else .accept (fenceSlot i) fun s => slotResult s i

/-- FENCE (R28). -/
def execFence (tag slot : Byte) (s : State) : Result :=
  .next (processRequest (.fence tag slot) (answerFence slot) s)

/-- A slot returns to SEATED and its link trains (R28, R29). -/
def reseat (i : SlotIx) (s : State) : State := linkTrain i (changeState i .seated s)

/-- The owner's answer to UNFENCE (R28). -/
def answerUnfence (slot : Byte) (s : State) : Answer :=
  withSlot slot fun i =>
    if (s.slots.get i).state = .fenced ∧ (s.ports.get i).power.accepted then
      .accept (reseat i) fun s => slotResult s i
    else .refuse .badState

/-- UNFENCE (R28). -/
def execUnfence (tag slot : Byte) (s : State) : Result :=
  .next (processRequest (.unfence tag slot) (answerUnfence slot) s)

/-- The owner's answer to REQUALIFY (R29). -/
def answerRequalify (slot : Byte) (s : State) : Answer :=
  withSlot slot fun i =>
    let results := fun s => slotResult s i
    match (s.slots.get i).state with
    | .drained => .accept (enterProbingFromDrained i id) results
    | .faulted => if (s.ports.get i).power.accepted then .accept (reseat i) results else .refuse .badState
    | .empty | .seated | .probing | .standby | .admitting | .inService | .retiring _ | .fenced =>
      .refuse .badState

/-- REQUALIFY (R29). -/
def execRequalify (tag slot : Byte) (s : State) : Result :=
  .next (processRequest (.requalify tag slot) (answerRequalify slot) s)

/-- A slot is reset (R30): SEATED with its timers stopped and its progress cleared, the departure, the monitor
cleared, the link trained. -/
def resetSlot (i : SlotIx) (s : State) : State :=
  let s1 := (changeState i .seated s).updSlot i fun r =>
    { r.stopTimers with echoes := 0, beaconsQualified := false }
  linkTrain i (monitorClear i (depart i (s.slots.get i).state s1))

/-- The owner's answer to SLOT_RESET (R30). -/
def answerSlotReset (slot force : Byte) (s : State) : Answer :=
  withSlot slot fun i =>
    if (s.slots.get i).state = .empty ∨ (s.ports.get i).power.accepted = false then .refuse .badState
    else if slotHolds s i ∧ forceOf force = false then .refuse .holdsBins
    else .accept (resetSlot i) fun s => slotResult s i

/-- SLOT_RESET (R30). -/
def execSlotReset (tag slot force : Byte) (s : State) : Result :=
  .next (processRequest (.slotReset tag slot force) (answerSlotReset slot force) s)

end Sys2Proof.Machine
end

