-- ==== Sys2Proof/Machine/SlotTimers.lean ====
section
/-! DEFINITION. The expiries of the four slot timers (R5, R11, R19, R20). -/

namespace Sys2Proof.Machine

/-- PROBE_WINDOW_EXPIRY (R11). -/
def execProbeWindowExpiry (i : SlotIx) (s : State) : Result :=
  .next (if (s.slots.get i).state = .probing ∧ (s.slots.get i).probeTimer.isSome then
      enterFaulted i .probeTimeout s
    else s)

/-- QUALIFY_TIMER_EXPIRY (R11). -/
def execQualifyTimerExpiry (i : SlotIx) (s : State) : Result :=
  .next (if (s.slots.get i).state = .probing ∧ (s.slots.get i).qualifyTimer.isSome then
      enterFaulted i .beaconUnqualified s
    else s)

/-- The deadline of a retirement has passed (R20): under FORCE_ON_DEADLINE the slot is evacuated and its egress
queue flushed; otherwise DEADLINE_PASSED is raised. -/
def deadlinePasses (i : SlotIx) (s : State) : State :=
  let s1 := s.updSlot i fun r => { r with deadlineTimer := none }
  if (s.slots.get i).forceOnDeadline then flushEgress i (evacuate i s1) else raiseFlag i .deadlinePassed s1

/-- DEADLINE_EXPIRY (R20). -/
def execDeadlineExpiry (i : SlotIx) (s : State) : Result :=
  .next (if (s.slots.get i).state = .retiring .moving ∧ (s.slots.get i).deadlineTimer.isSome then
      deadlinePasses i s
    else s)

/-- ACKNOWLEDGMENT_EXPIRY (R19): DRAINED, with ACK_MISSING. -/
def execAcknowledgmentExpiry (i : SlotIx) (s : State) : Result :=
  .next (if (s.slots.get i).state = .retiring .confirming ∧ (s.slots.get i).ackTimer.isSome then
      enterDrained i (raiseFlag i .ackMissing) s
    else s)

end Sys2Proof.Machine
end

