-- ==== Sys2Proof/Machine/Transmit.lean ====
section
/-! DEFINITION. Transmission on the slot links and on the core link, and the refresh of a local pause (R94, R110,
R112, R113, R133, R185). -/

namespace Sys2Proof.Machine

/-- SLOT_TX_START (R133): a ready link takes the head of its control list, or, unless halted, the head of its
egress queue. -/
def execSlotTxStart (i : SlotIx) (s : State) : Result :=
  let l := s.links.get i
  .next (if l.carries ∧ l.lock ∧ l.tx = none then
      match l.control with
      | f :: rest =>
        s.updLink i fun l => { l with control := rest, tx := some (.control (controlBytes s i f)) }
      | [] =>
        if l.remotePause = none ∧ !(s.egress.get i).isEmpty then s.updLink i fun l => { l with tx := some .data }
        else s
    else s)

/-- The link is sending a control frame. -/
def LinkRecord.sendsControl (l : LinkRecord) : Bool :=
  match l.tx with
  | some (.control _) => true
  | some .data | none => false

/-- CONTROL_TX_END (R133). -/
def execControlTxEnd (i : SlotIx) (s : State) : Result :=
  .next (if (s.links.get i).sendsControl then
      bumpSlot i .controlSent (s.updLink i fun l => { l with tx := none })
    else s)

/-- EGRESS_TX_END (R94): the head leaves, counted DELIVERED; the in-flight count falls; lifecycle is told. -/
def execEgressTxEnd (i : SlotIx) (s : State) : Result :=
  .next (match s.egress.get i with
    | [] => s
    | entry :: _ =>
      if (s.links.get i).tx = some .data then
        evaluateConfirmation i (reportLeft entry (bumpSlot i .delivered
          (popEgress i (s.updLink i fun l => { l with tx := none }))))
      else s)

/-- The slots in the order in which the arbiter looks for an upstream frame: onward from the slot after the
pointer (R112). -/
def slotsAfter (pointer : SlotIx) : List SlotIx := (List.finRange 12).map fun k => pointer + 1 + k

/-- The next upstream frame by the round robin of R112, with its slot. -/
def nextUpstream (s : State) : Option SlotIx :=
  (slotsAfter s.core.pointer).find? fun i => !(s.upstream.get i).queue.isEmpty

/-- CORE_ARBITER_CHOICE (R112, R113): the transmit queue's head first, otherwise the round robin's, built as it is
transmitted. -/
def execCoreArbiterChoice (s : State) : Result :=
  .next (match s.core.tx with
    | .mgmt _ | .upstream _ _ => s
    | .idle =>
      match s.agent.transmit with
      | payload :: _ => s.updCore fun k => { k with tx := .mgmt (builtFrame .mgmt 0 payload) }
      | [] =>
        match nextUpstream s with
        | some i =>
          s.updCore fun k =>
            { k with tx := .upstream i (resourced i ((s.upstream.get i).queue.headD [])), pointer := i }
        | none => s)

/-- UPSTREAM_TX_END (R113). -/
def execUpstreamTxEnd (s : State) : Result :=
  .next (match s.core.tx with
    | .upstream i _ =>
      pauseAtTxEnd i (bumpSlot i .upstreamSent
        ((s.updCore fun k => { k with tx := .idle }).updUpstream i fun u => { u with queue := u.queue.tail }))
    | .idle | .mgmt _ => s)

/-- The counter of a transmit queue frame's end: by its code (R185), so that a BAD_REQUEST response that carries the code
80 hex of its request back counts as a notice, where R193 has a response (log entry 38). -/
def sentCounter (payload : List Byte) : AgentCounter :=
  if payload.getD 1 0 = 0x80#8 then .noticesSent else .responsesSent

/-- MGMT_TX_END (R185). -/
def execMgmtTxEnd (s : State) : Result :=
  .next (match s.core.tx, s.agent.transmit with
    | .mgmt _, payload :: rest =>
      bumpAgent (sentCounter payload)
        ((s.updCore fun k => { k with tx := .idle }).updAgent fun a => { a with transmit := rest })
    | _, _ => s)

/-- REFRESH_TIMER_EXPIRY (R110). -/
def execRefreshTimerExpiry (i : SlotIx) (s : State) : Result := .next (pauseAtRefresh i s)

end Sys2Proof.Machine
end

