-- ==== Sys2Proof/Machine/Dispatch.lean ====
section
/-! DEFINITION. The meaning of every command: one arm per constructor of Instr. -/

namespace Sys2Proof.Machine

/-- The effect of a command on everything but the queue of waiting commands. -/
def exec (i : Instr) (s : State) : Host.Outcome State Fault Refusal :=
  match i with
  | .powerOn => Sys2Proof.Machine.execPowerOn s
  | .pinReset => Sys2Proof.Machine.execPinReset s
  | .coreRxStart => Sys2Proof.Machine.execCoreRxStart s
  | .coreRxEnd how bytes => Sys2Proof.Machine.execCoreRxEnd how bytes s
  | .slotRxStart slot => Sys2Proof.Machine.execSlotRxStart slot s
  | .slotRxEnd slot how bytes => Sys2Proof.Machine.execSlotRxEnd slot how bytes s
  | .lockGained slot => Sys2Proof.Machine.execLockGained slot s
  | .lockLost slot => Sys2Proof.Machine.execLockLost slot s
  | .attemptSuccess slot => Sys2Proof.Machine.execAttemptSuccess slot s
  | .attemptTimerExpiry slot => Sys2Proof.Machine.execAttemptTimerExpiry slot s
  | .trainingLockLoss slot => Sys2Proof.Machine.execTrainingLockLoss slot s
  | .lockLossExpiry slot => Sys2Proof.Machine.execLockLossExpiry slot s
  | .remotePauseExpiry slot => Sys2Proof.Machine.execRemotePauseExpiry slot s
  | .slotTxStart slot => Sys2Proof.Machine.execSlotTxStart slot s
  | .controlTxEnd slot => Sys2Proof.Machine.execControlTxEnd slot s
  | .egressTxEnd slot => Sys2Proof.Machine.execEgressTxEnd slot s
  | .coreArbiterChoice => Sys2Proof.Machine.execCoreArbiterChoice s
  | .upstreamTxEnd => Sys2Proof.Machine.execUpstreamTxEnd s
  | .mgmtTxEnd => Sys2Proof.Machine.execMgmtTxEnd s
  | .refreshTimerExpiry slot => Sys2Proof.Machine.execRefreshTimerExpiry slot s
  | .probeWindowExpiry slot => Sys2Proof.Machine.execProbeWindowExpiry slot s
  | .qualifyTimerExpiry slot => Sys2Proof.Machine.execQualifyTimerExpiry slot s
  | .deadlineExpiry slot => Sys2Proof.Machine.execDeadlineExpiry slot s
  | .acknowledgmentExpiry slot => Sys2Proof.Machine.execAcknowledgmentExpiry slot s
  | .drainTimerExpiry engine => Sys2Proof.Machine.execDrainTimerExpiry engine s
  | .settleTimerExpiry engine => Sys2Proof.Machine.execSettleTimerExpiry engine s
  | .rampTimerExpiry pool => Sys2Proof.Machine.execRampTimerExpiry pool s
  | .engineGrant => Sys2Proof.Machine.execEngineGrant s
  | .adoptionTimerExpiry pool => Sys2Proof.Machine.execAdoptionTimerExpiry pool s
  | .readCycleEnd ack word check => Sys2Proof.Machine.execReadCycleEnd ack word check s
  | .scanReadResponse => Sys2Proof.Machine.execScanReadResponse s
  | .saturationLatch slot => Sys2Proof.Machine.execSaturationLatch slot s
  | .beaconAlarm slot => Sys2Proof.Machine.execBeaconAlarm slot s
  | .lampBaseStep => Sys2Proof.Machine.execLampBaseStep s
  | .identify tag => Sys2Proof.Machine.execIdentify tag s
  | .readSlot tag slot => Sys2Proof.Machine.execReadSlot tag slot s
  | .setPolicy tag slot clearMask setMask toggle pool expectedClass deadline rateMode quota => Sys2Proof.Machine.execSetPolicy tag slot clearMask setMask toggle pool expectedClass deadline rateMode quota s
  | .setWeight tag slot weight => Sys2Proof.Machine.execSetWeight tag slot weight s
  | .admitSlot tag slot pool weight => Sys2Proof.Machine.execAdmit tag slot pool weight s
  | .retire tag slot force => Sys2Proof.Machine.execRetire tag slot force s
  | .fence tag slot => Sys2Proof.Machine.execFence tag slot s
  | .unfence tag slot => Sys2Proof.Machine.execUnfence tag slot s
  | .requalify tag slot => Sys2Proof.Machine.execRequalify tag slot s
  | .slotReset tag slot force => Sys2Proof.Machine.execSlotReset tag slot force s
  | .clearAlarm tag slot => Sys2Proof.Machine.execClearAlarm tag slot s
  | .setBeacon tag slot mode divisor low high alarm => Sys2Proof.Machine.execSetBeacon tag slot mode divisor low high alarm s
  | .poolSet tag pool salt ramp settle drain width adoption => Sys2Proof.Machine.execPoolSet tag pool salt ramp settle drain width adoption s
  | .poolEnable tag pool => Sys2Proof.Machine.execPoolEnable tag pool s
  | .poolDisable tag pool => Sys2Proof.Machine.execPoolDisable tag pool s
  | .readPool tag pool => Sys2Proof.Machine.execReadPool tag pool s
  | .readBins tag pool => Sys2Proof.Machine.execReadBins tag pool s
  | .readMoves tag pool => Sys2Proof.Machine.execReadMoves tag pool s
  | .setScan tag mode divisor preamble first last debounce => Sys2Proof.Machine.execSetScan tag mode divisor preamble first last debounce s
  | .scanRead tag slot => Sys2Proof.Machine.execScanRead tag slot s
  | .scanRestart tag => Sys2Proof.Machine.execScanRestart tag s
  | .setLampPattern tag index length width levels => Sys2Proof.Machine.execSetLampPattern tag index length width levels s
  | .setLampMap tag entries => Sys2Proof.Machine.execSetLampMap tag entries s
  | .lampOverride tag slot pattern => Sys2Proof.Machine.execLampOverride tag slot pattern s
  | .readAttention tag => Sys2Proof.Machine.execReadAttention tag s
  | .clearAttention tag slot mask => Sys2Proof.Machine.execClearAttention tag slot mask s
  | .readCounters tag => Sys2Proof.Machine.execReadCounters tag s
  | .clearCounters tag => Sys2Proof.Machine.execClearCounters tag s
  | .setDevice tag pause ackTimeout qualifyLimit attempts notices => Sys2Proof.Machine.execSetDevice tag pause ackTimeout qualifyLimit attempts notices s
  | .readCause tag => Sys2Proof.Machine.execReadCause tag s
  | .restart tag => Sys2Proof.Machine.execRestart tag s
  | .unknownRequest entry => Sys2Proof.Machine.execUnknownRequest entry s

end Sys2Proof.Machine
end

