-- ==== Sys2Proof/Machine/Timebase.lean ====
section
/-! DEFINITION. The Timebase's four ticks and the timers that count them (R1). -/

namespace Sys2Proof.Machine

/-- Every record of a table changed by one function. -/
def mapTable {α β : Type} {n : Nat} (f : α → β) (t : Table α n) : Table β n := Table.tab fun i => f (t.get i)

/-- A slot record after a 1 ms tick (R5). -/
def SlotRecord.tick (r : SlotRecord) : SlotRecord :=
  { r with
    probeTimer := tickTimer r.probeTimer, qualifyTimer := tickTimer r.qualifyTimer
    deadlineTimer := tickTimer r.deadlineTimer, ackTimer := tickTimer r.ackTimer }

/-- A pool record after a 1 ms tick (R37, R55). -/
def PoolRecord.tick (r : PoolRecord) : PoolRecord :=
  { r with rampTimer := tickTimer r.rampTimer, adoptionTimer := tickTimer r.adoptionTimer }

/-- A move record after a tick of the unit that the timer of `phase` counts (R64). -/
def MoveRecord.tick (phase : MovePhase) (m : MoveRecord) : MoveRecord :=
  if m.phase = phase then { m with timer := m.timer - 1 } else m

/-- A link record after a 1 µs tick (R123, R124, R130). -/
def LinkRecord.tickMicro (l : LinkRecord) : LinkRecord :=
  { l with lockLossTimer := tickTimer l.lockLossTimer, remotePause := tickTimer l.remotePause }

/-- A link record after a 1 ms tick (R123). -/
def LinkRecord.tickMilli (l : LinkRecord) : LinkRecord := { l with attemptTimer := tickTimer l.attemptTimer }

/-- The 1 µs tick: the lock-loss, remote-pause and refresh timers (R108, R123, R124, R130). -/
def tickMicro (s : State) : State :=
  { s with
    links := mapTable LinkRecord.tickMicro s.links
    upstream := mapTable (fun u => { u with pause := tickTimer u.pause }) s.upstream }

/-- The monitor tick, 10 µs: the settle timers and the Beacon Monitors (R64, R142). -/
def tickMonitor (s : State) : State :=
  { s with
    engines := mapTable (Option.map (MoveRecord.tick .settling)) s.engines
    monitors := mapTable MonitorRecord.tick s.monitors }

/-- The 1 ms tick: the slot timers, the attempt timers, the drain timers and the pools' timers (R5, R37, R64,
R123). -/
def tickMilli (s : State) : State :=
  { s with
    slots := mapTable SlotRecord.tick s.slots
    links := mapTable LinkRecord.tickMilli s.links
    engines := mapTable (Option.map (MoveRecord.tick .draining)) s.engines
    pools := mapTable PoolRecord.tick s.pools }

/-- The dividers go one microsecond on, and every tick that falls there is taken (R1; log entries 3, 22). -/
def tick (s : State) : State :=
  let n := (s.micros + 1) % 25000
  let s1 := tickMicro { s with micros := n }
  let s2 := if n % 10 = 0 then tickMonitor s1 else s1
  if n % 1000 = 0 then tickMilli s2 else s2

end Sys2Proof.Machine
end

