-- ==== Sys2Proof/Machine/Idle.lean ====
section
/-! DEFINITION. What the part does by its own clock while no command waits: a microsecond passes, and the events
that fall due at it are taken in a fixed order (R1; log entry 3). -/

namespace Sys2Proof.Machine

/-- A running timer has no tick left. -/
def isDue (t : Timer) : Bool := t = some 0

/-- An event that the clock brings: when it is due, and the command it is. -/
structure TimedEvent where
  due : State → Bool
  command : Instr

/-- The running count of slot `i` has come to `limit` or above since `before` (R142, R144). -/
def countReaches (before : State) (i : SlotIx) (limit : Nat) (s : State) : Bool :=
  decide ((before.monitors.get i).runningCount < limit ∧ limit ≤ (s.monitors.get i).runningCount)

/-- The timed events of a slot, in an idle step that began at `before`. -/
def slotEvents (before : State) (i : SlotIx) : List TimedEvent := [
  ⟨fun s => (s.links.get i).inAttempt && isDue (s.links.get i).lockLossTimer, .trainingLockLoss i⟩,
  ⟨fun s => isDue (s.links.get i).attemptTimer, .attemptTimerExpiry i⟩,
  ⟨fun s => (s.links.get i).carries && isDue (s.links.get i).lockLossTimer, .lockLossExpiry i⟩,
  ⟨fun s => isDue (s.links.get i).remotePause, .remotePauseExpiry i⟩,
  ⟨fun s => isDue (s.upstream.get i).pause, .refreshTimerExpiry i⟩,
  ⟨fun s => isDue (s.slots.get i).probeTimer, .probeWindowExpiry i⟩,
  ⟨fun s => isDue (s.slots.get i).qualifyTimer, .qualifyTimerExpiry i⟩,
  ⟨fun s => isDue (s.slots.get i).deadlineTimer, .deadlineExpiry i⟩,
  ⟨fun s => isDue (s.slots.get i).ackTimer, .acknowledgmentExpiry i⟩,
  ⟨countReaches before i 255, .saturationLatch i⟩,
  ⟨countReaches before i (before.monitors.get i).alarmLimit, .beaconAlarm i⟩]

/-- The engine's timer of `phase` is due. -/
def moveDue (s : State) (e : EngineIx) (phase : MovePhase) : Bool :=
  match s.engines.get e with
  | some m => decide (m.phase = phase ∧ m.timer = 0)
  | none => false

/-- The timed events of an engine. -/
def engineEvents (e : EngineIx) : List TimedEvent := [
  ⟨fun s => moveDue s e .draining, .drainTimerExpiry e⟩,
  ⟨fun s => moveDue s e .settling, .settleTimerExpiry e⟩]

/-- The timed events of a pool. -/
def poolEvents (p : PoolIx) : List TimedEvent := [
  ⟨fun s => isDue (s.pools.get p).rampTimer, .rampTimerExpiry p⟩,
  ⟨fun s => isDue (s.pools.get p).adoptionTimer, .adoptionTimerExpiry p⟩]

/-- Every timed event, in the order in which the model takes those due at one tick (log entry 3), in an idle step that
began at `before`. -/
def timedEvents (before : State) : List TimedEvent :=
  (List.finRange 12).flatMap (slotEvents before) ++ (List.finRange 4).flatMap engineEvents
    ++ (List.finRange 4).flatMap poolEvents ++ [⟨fun s => decide (s.micros = 0), .lampBaseStep⟩]

/-- A timed event is taken if it is due. -/
def takeDue (ev : TimedEvent) (s : State) : State :=
  if ev.due s then
    match exec ev.command s with
    | .next s' => s'
    | .fault _ | .refused _ => s
  else s

/-- An idle step: an IDLE bus with work to do begins its cycle (R157), a microsecond passes, and the events due at
its ticks are taken. -/
def idle (s : State) : State := forEach takeDue (timedEvents s) (tick (chooseIfIdle s))

end Sys2Proof.Machine
end

