-- ==== Sys2Proof/Safety.lean ====
section
/-! DEFINITION. What statements about the part speak of: receptions and requests that reach their command, what a
response leaves, and the laws that every step keeps. -/

namespace Sys2Proof.Machine

/-- The request `c` is at the head of the request queue, and the transmit queue has room for its response (R184). -/
abbrev Heads (c : Instr) (s : State) : Prop :=
  s.agent.requests.head?.map (fun r => decodeRequest r.entry) = some c ∧ s.agent.transmit.length < 16

/-- The state in which nothing has changed but that the head request has left its queue and a response has joined
the transmit queue (R184). -/
def answered (s : State) (payload : List Byte) : State :=
  { s with agent := { s.agent with
    requests := s.agent.requests.tail, transmit := s.agent.transmit ++ [payload] } }

/-- The head request has left, and its response precedes whatever notices its effect offered (R184). -/
def Answers (s t : State) (payload : List Byte) : Prop :=
  t.agent.requests = s.agent.requests.tail ∧ ∃ notices, t.agent.transmit = s.agent.transmit ++ payload :: notices

/-- A stored frame on the core link that will pass its checks (R87, R88). -/
abbrev CoreFrame (s : State) (bytes : FrameBytes) (info : FrameInfo) : Prop :=
  s.core.rx = some true ∧ checkFrame bytes = .ok info

/-- The core receiver has become IDLE and RX_FRAMES has risen (R87, R88). -/
def coreReceived (s : State) : State := bumpCore .rxFrames { s with core := { s.core with rx := none } }

/-- A stored frame on a slot link that will pass its checks (R88, R126). -/
abbrev SlotFrame (s : State) (i : SlotIx) (bytes : FrameBytes) (info : FrameInfo) : Prop :=
  (s.links.get i).rx = some true ∧ checkFrame bytes = .ok info

/-- A slot link's reception is over (R126). -/
def slotReceived (s : State) (i : SlotIx) : State := s.updLink i fun l => { l with rx := none }

/-- Checks 1 and 2 of R88: oversize, or too short for a header and a CRC. -/
def badLength (bytes : FrameBytes) : Prop := 2048 < bytes.length ∨ bytes.length < 14

/-- Check 3 of R88: the header sum, the version, the kind. -/
def badHeader (bytes : FrameBytes) : Prop :=
  ((bytes.take 10).map BitVec.toNat).sum % 256 ≠ 255
    ∨ (bytes.getD 0 0).toNat % 16 ≠ 1
    ∨ ¬ (1 ≤ (bytes.getD 0 0).toNat / 16 ∧ (bytes.getD 0 0).toNat / 16 ≤ 4)

/-- Check 4 of R88: the last four bytes are not the CRC-32 of those before them. -/
def badCrc (bytes : FrameBytes) : Prop :=
  bytes.drop (bytes.length - 4) ≠ bytes32 (crc32 (bytes.take (bytes.length - 4)))

/-- Check 5 of R88: the payload length field. -/
def badPayloadLength (bytes : FrameBytes) : Prop :=
  (bytes.getD 8 0).toNat * 256 + (bytes.getD 9 0).toNat + 14 ≠ bytes.length

/-- Frames steered through bin `b` of pool `p` that are in slot egress queues (R40). -/
def steeredFrames (s : State) (p : PoolIx) (b : BinIx) : Nat :=
  ((List.finRange 12).map fun i =>
    ((s.egress.get i).filter fun entry => entry.steered = some (p, b)).length).sum

/-- No slot timer runs. -/
def SlotRecord.timersStopped (r : SlotRecord) : Prop :=
  r.probeTimer = none ∧ r.qualifyTimer = none ∧ r.deadlineTimer = none ∧ r.ackTimer = none

/-- What an event of slot `i` leaves alone elsewhere: another slot's record, unless its admission or its retirement
completes; its link but for control frames asked of it; its upstream queue and monitor; every pool's settings, enable and
ramp timer; the lamps, the core link but for the transmission of a flushed frame, the agent's settings and flags, and the
clock. Bins, moves, egress queues and counters may change with a change of membership (R36). -/
structure OthersStand (i : SlotIx) (s t : State) : Prop where
  states : ∀ j, j ≠ i → (t.slots.get j).state = (s.slots.get j).state
    ∨ (s.slots.get j).state = .admitting ∧ (t.slots.get j).state = .inService
    ∨ (s.slots.get j).state = .retiring .moving ∧ (t.slots.get j).state = .retiring .confirming
  slots : ∀ j, j ≠ i → (t.slots.get j).state = (s.slots.get j).state → t.slots.get j = s.slots.get j
  links : ∀ j, j ≠ i → t.links.get j = { s.links.get j with control := (t.links.get j).control }
  upstream : ∀ j, j ≠ i → t.upstream.get j = s.upstream.get j
  monitors : ∀ j, j ≠ i → t.monitors.get j = s.monitors.get j
  pools : ∀ p, t.pools.get p = { s.pools.get p with
    targets := (t.pools.get p).targets, adoptionTimer := (t.pools.get p).adoptionTimer
    plan := (t.pools.get p).plan, bins := (t.pools.get p).bins, counters := (t.pools.get p).counters }
  lamps : t.lamps = s.lamps
  core : t.core = { s.core with tx := t.core.tx }
  agent : t.agent = { s.agent with
    requests := t.agent.requests, transmit := t.agent.transmit, counters := t.agent.counters }
  arbiter : t.arbiter = s.arbiter
  clock : t.micros = s.micros ∧ t.freeDraws = s.freeDraws ∧ t.pending = s.pending

/-- A slot's settings stand (R4). -/
def SettingsStand (i : SlotIx) (s t : State) : Prop :=
  (t.slots.get i).pool = (s.slots.get i).pool ∧ (t.slots.get i).weight = (s.slots.get i).weight
    ∧ (t.slots.get i).expectedClass = (s.slots.get i).expectedClass
    ∧ (t.slots.get i).policy = (s.slots.get i).policy
    ∧ (t.slots.get i).retireDeadline = (s.slots.get i).retireDeadline
    ∧ (t.slots.get i).rateMode = (s.slots.get i).rateMode ∧ (t.slots.get i).quota = (s.slots.get i).quota

/-- The frame of an event that changes the state of slot `i`: the others and the slot's settings stand, and so does the
scanner. -/
def SlotEventFrame (i : SlotIx) (s t : State) : Prop :=
  OthersStand i s t ∧ SettingsStand i s t ∧ t.ports = s.ports ∧ t.scanner = s.scanner

/-- What the consequences of a commit or a change of membership leave alone in the slots and links (R14, R18): a slot's
record, unless its admission or its retirement completes, and its link but for control frames asked of it. -/
structure MembershipFollows (s t : State) : Prop where
  states : ∀ j, (t.slots.get j).state = (s.slots.get j).state
    ∨ (s.slots.get j).state = .admitting ∧ (t.slots.get j).state = .inService
    ∨ (s.slots.get j).state = .retiring .moving ∧ (t.slots.get j).state = .retiring .confirming
  slots : ∀ j, (t.slots.get j).state = (s.slots.get j).state → t.slots.get j = s.slots.get j
  links : ∀ j, t.links.get j = { s.links.get j with control := (t.links.get j).control }

/-- No slot counter changes but those of `cs` of slot `i`. -/
def SlotCountsStand (i : SlotIx) (cs : List SlotCounter) (s t : State) : Prop :=
  ∀ j c, j ≠ i ∨ c ∉ cs → t.slotCount j c = s.slotCount j c

/-- Every queue within what the spec lets it hold, and the Frame Buffer within its cells (R63, R85, R93, R103, R183,
R185). -/
structure WithinBounds (s : State) : Prop where
  cells : cellsInUse s ≤ 2048
  egress : ∀ i, (s.egress.get i).length ≤ 256
  quota : ∀ i, (s.slots.get i).quota ≤ 128
  upstream : ∀ i, (s.upstream.get i).queue.length ≤ 128
  hold : ∀ e m, s.engines.get e = some m → m.hold.length ≤ 32
  requests : s.agent.requests.length ≤ 8
  transmit : s.agent.transmit.length ≤ 16

/-- The law of in-flight counts (R40). -/
def InflightLaw (s : State) : Prop := ∀ p b, ((s.pools.get p).bins.get b).inflight = steeredFrames s p b

/-- The law of moves (R36, R47, R56, R61): an active move and its bin name each other, the bin is its source's and the
destination an eligible member of an enabled pool; a plan names each bin once, no moving bin, its owner as source and
an eligible member as destination; no pool has more moves than its width. -/
structure MoveLaw (s : State) : Prop where
  move : ∀ e m, s.engines.get e = some m →
    ((s.pools.get m.pool).bins.get m.bin).engine = some e
      ∧ ((s.pools.get m.pool).bins.get m.bin).owner = .owned m.source
      ∧ isEligible s m.pool m.destination = true ∧ (s.pools.get m.pool).enabled = true
  bin : ∀ p b e, ((s.pools.get p).bins.get b).engine = some e →
    ∃ m, s.engines.get e = some m ∧ m.pool = p ∧ m.bin = b
  plan : ∀ p entry, entry ∈ (s.pools.get p).plan →
    ((s.pools.get p).bins.get entry.bin).engine = none
      ∧ ((s.pools.get p).bins.get entry.bin).owner = .owned entry.source
      ∧ isEligible s p entry.destination = true
  once : ∀ p, ((s.pools.get p).plan.map PlanEntry.bin).Nodup
  width : ∀ p, activeMoves s p ≤ (s.pools.get p).width

/-- The laws of the Bin Table (R39), with what they rest on: a holding slot names an enabled pool, weights are 1–15,
an enabled pool's targets are those of its eligible members (R42), and a slot in phase CONFIRMING owns nothing. -/
structure BinLaws (s : State) : Prop where
  moves : MoveLaw s
  holding : ∀ i, (s.slots.get i).state.holding = true →
    ∃ p, (s.slots.get i).pool = some p ∧ (s.pools.get p).enabled = true
  weight : ∀ i, 1 ≤ (s.slots.get i).weight
  targets : ∀ p i, (s.pools.get p).enabled = true →
    (s.pools.get p).targets.get i = targetOf (eligibleWeight s p) i
  confirming : ∀ i, (s.slots.get i).state = .retiring .confirming →
    ∀ p b, ((s.pools.get p).bins.get b).owner ≠ .owned i
  owned : ∀ p b i, ((s.pools.get p).bins.get b).owner = .owned i →
    (s.pools.get p).enabled = true ∧ isHolding s p i = true
  unowned : ∀ p b, ((s.pools.get p).bins.get b).owner = .unowned → (s.pools.get p).enabled = true →
    isDark s p = true ∨ windowOpen s p = true
  stale : ∀ p b i, ((s.pools.get p).bins.get b).owner = .stale i → (s.pools.get p).enabled = true →
    windowOpen s p = true

/-- The bins of pool `p` that slot `i` owns and that are in no move (R44, R46). -/
def atRest (s : State) (p : PoolIx) (i : SlotIx) : List BinIx :=
  (List.finRange 64).filter fun b =>
    ((s.pools.get p).bins.get b).owner = .owned i ∧ ((s.pools.get p).bins.get b).engine = none

/-- The holdings of slot `i` in a recomputation (R44, step 3): its bins at rest, and one for each move toward it. -/
def countsFor (s : State) (p : PoolIx) (i : SlotIx) : Nat := (atRest s p i).length + movesTo s p i

/-- The Move Plan of pool `p` is the one that its bins, moves and targets call for (R44, step 5; R46): none in an open
window; from donors, ascending, their highest bins at rest, descending, each to the lowest deficit member with room; and
where any member is eligible, each donor's whole excess as far as it has bins at rest. -/
structure PlanBuilt (t : State) (p : PoolIx) : Prop where
  window : windowOpen t p = true → (t.pools.get p).plan = []
  donor : ∀ e, e ∈ (t.pools.get p).plan → isHolding t p e.source = true ∧ e.bin ∈ atRest t p e.source
    ∧ (t.pools.get p).targets.get e.source < countsFor t p e.source
  order : (t.pools.get p).plan.Pairwise fun e e' => e.source < e'.source ∨ e.source = e'.source ∧ e'.bin < e.bin
  highest : ∀ e b, e ∈ (t.pools.get p).plan → b ∈ atRest t p e.source → e.bin < b →
    b ∈ (t.pools.get p).plan.map PlanEntry.bin
  excess : windowOpen t p = false → (∃ j, isEligible t p j = true) → ∀ i, isHolding t p i = true →
    ((t.pools.get p).plan.filter fun e => e.source = i).length
      = min (countsFor t p i - (t.pools.get p).targets.get i) (atRest t p i).length
  receiver : ∀ e, e ∈ (t.pools.get p).plan → isEligible t p e.destination = true
  room : ∀ j, ((t.pools.get p).plan.filter fun e => e.destination = j).length
    ≤ (t.pools.get p).targets.get j - countsFor t p j
  lowest : ∀ e j, e ∈ (t.pools.get p).plan → isEligible t p j = true → j < e.destination →
    ((t.pools.get p).plan.filter fun e => e.destination = j).length
      = (t.pools.get p).targets.get j - countsFor t p j
  pairing : (t.pools.get p).plan.Pairwise fun e e' => e.destination ≤ e'.destination

/-- Immediate assignment in pool `p` from `s` to `t` (R45), `before` giving the owners that it meets: the UNOWNED bins,
ascending, to the eligible members below target, ascending, each filled before the next, as far as there is room, and
counted in IMMEDIATE_ASSIGNS; every other owner and every other field of a bin stands. -/
structure Assigned (p : PoolIx) (before : BinIx → Owner) (s t : State) : Prop where
  kept : ∀ b, before b ≠ .unowned → ((t.pools.get p).bins.get b).owner = before b
  fields : ∀ b, (t.pools.get p).bins.get b
    = { (s.pools.get p).bins.get b with owner := ((t.pools.get p).bins.get b).owner }
  given : ∀ b, before b = .unowned → ((t.pools.get p).bins.get b).owner ≠ .unowned →
    ∃ j, ((t.pools.get p).bins.get b).owner = .owned j ∧ isEligible t p j = true
      ∧ countsFor t p j ≤ (t.pools.get p).targets.get j
      ∧ ∀ j', isEligible t p j' = true → j' < j → (t.pools.get p).targets.get j' ≤ countsFor t p j'
  order : ∀ b b' j', b < b' → before b = .unowned → before b' = .unowned →
    ((t.pools.get p).bins.get b').owner = .owned j' →
    ∃ j, ((t.pools.get p).bins.get b).owner = .owned j ∧ j ≤ j'
  left : ∀ b j, ((t.pools.get p).bins.get b).owner = .unowned → isEligible t p j = true →
    (t.pools.get p).targets.get j ≤ countsFor t p j
  counted : t.poolCount p .immediateAssigns = counterAdd (s.poolCount p .immediateAssigns)
    ((List.finRange 64).filter fun b =>
      before b = .unowned ∧ ((t.pools.get p).bins.get b).owner ≠ .unowned).length
  counters : ∀ c, c ≠ .immediateAssigns → t.poolCount p c = s.poolCount p c

/-- The owner of a bin of pool `p` once slot `i` has gained eligibility, before immediate assignment (R48, step 1): inside
an open adoption window the slot's STALE bins are its own again. -/
def adoptedOwner (s : State) (p : PoolIx) (i : SlotIx) (b : BinIx) : Owner :=
  if windowOpen s p = true ∧ ((s.pools.get p).bins.get b).owner = .stale i then .owned i
  else ((s.pools.get p).bins.get b).owner

/-- The frames held by the moves toward slot `i` whose source is slot `j`, as they join the egress queue of `j`: by
ascending engine, each hold list head first (R72, R74). -/
def heldFor (s : State) (i j : SlotIx) : List EgressEntry :=
  (List.finRange 4).flatMap fun e =>
    match s.engines.get e with
    | some m => if m.destination = i ∧ m.source = j then m.hold.map fun f => ⟨f, some (m.pool, m.bin)⟩ else []
    | none => []

/-- Every move toward slot `i` in its pool `p` has aborted and no other move has changed (R49, R72, R74): engines IDLE, the
bins with their sources, the held frames at the tail of their sources' egress queues as far as there is room, the rest counted
EGRESS_FULL, and ABORTED_MOVES raised by one for each. -/
structure MovesAborted (i : SlotIx) (p : PoolIx) (s t : State) : Prop where
  engines : ∀ e, t.engines.get e = match s.engines.get e with
    | some m => if m.destination = i then none else some m
    | none => none
  bins : ∀ e m, s.engines.get e = some m → m.destination = i →
    ((t.pools.get p).bins.get m.bin).engine = none
      ∧ (m.source ≠ i → ((t.pools.get p).bins.get m.bin).owner = .owned m.source)
      ∧ ((s.egress.get m.source).length + (heldFor s i m.source).length ≤ 256 →
        ((t.pools.get p).bins.get m.bin).inflight = ((s.pools.get p).bins.get m.bin).inflight + m.hold.length)
  others : ∀ b, (∀ e m, s.engines.get e = some m → m.destination = i → m.bin ≠ b) →
    ((t.pools.get p).bins.get b).inflight = ((s.pools.get p).bins.get b).inflight
      ∧ ((t.pools.get p).bins.get b).engine = ((s.pools.get p).bins.get b).engine
  egress : ∀ j, t.egress.get j = s.egress.get j ++ (heldFor s i j).take (256 - (s.egress.get j).length)
  full : ∀ j, t.slotCount j .egressFull = counterAdd (s.slotCount j .egressFull)
    ((heldFor s i j).length - (256 - (s.egress.get j).length))
  counted : t.poolCount p .abortedMoves = counterAdd (s.poolCount p .abortedMoves) (movesTo s p i)

/-- What an admission of slot `i` to its pool `p` leaves (R13, R14, R36, R44–R46, R48): ADMITTING, or IN_SERVICE as soon as it
holds its target and nothing moves to it, the timers stopped, the change raised, the slot's STALE bins adopted in an open
window, which closes with the last STALE bin, the pool recomputed, every other pool as it was, and an ADMIT_NOTICE asked of a
link that carries frames. -/
structure Admitted (i : SlotIx) (p : PoolIx) (s t : State) : Prop where
  state : (t.slots.get i).state = .admitting ∨ (t.slots.get i).state = .inService
  service : (t.slots.get i).state = .inService ↔ slotTarget t i ≤ slotHeld t i ∧ movesTo t p i = 0
    ∧ ∀ e, e ∈ (t.pools.get p).plan → e.destination ≠ i
  timers : (t.slots.get i).timersStopped
  changed : flagSet t i .stateChanged = true
  targets : ∀ j, (t.pools.get p).targets.get j = targetOf (eligibleWeight t p) j
  bins : Assigned p (adoptedOwner s p i) s t
  stays : (∃ b j, ((t.pools.get p).bins.get b).owner = .stale j) →
    (t.pools.get p).adoptionTimer = (s.pools.get p).adoptionTimer
  closes : (∀ b j, ((t.pools.get p).bins.get b).owner ≠ .stale j) → (t.pools.get p).adoptionTimer = none
  plan : PlanBuilt t p
  pools : ∀ q, q ≠ p → t.pools.get q = s.pools.get q
  notice : (s.links.get i).carries = true → .admitNotice ∈ (t.links.get i).control

/-- An automatic retirement of slot `i` (R15, R17): RETIRING, with every bin it owned, and LAST_MEMBER raised if it was its
pool's last member, and left as it was if not. -/
structure RetiresAlone (i : SlotIx) (s t : State) : Prop where
  state : ∃ phase, (t.slots.get i).state = .retiring phase
  bins : ∀ p b, ((s.pools.get p).bins.get b).owner = .owned i → ((t.pools.get p).bins.get b).owner = .owned i
  last : isLastMember s i = true → flagSet t i .lastMember = true
  among : isLastMember s i = false → flagSet t i .lastMember = flagSet s i .lastMember

/-- `a` is the address of the next rotation cycle of a scanner (R157): the lowest of the range above the rotation pointer,
or the first of the range where there is none or no pointer. -/
def RotationNext (c : ScannerRecord) (a : SlotIx) : Prop :=
  let above : SlotIx → Prop := fun a' => c.firstAddress ≤ a' ∧ a' ≤ c.lastAddress ∧ ∃ p, c.pointer = some p ∧ p < a'
  (above a ∧ ∀ a', above a' → a ≤ a') ∨ ((∀ a', ¬ above a') ∧ a = c.firstAddress)

/-- A candidate in a report: present, value, count; FF hex in the last two of an absent one (R202, R204; log entry 35). -/
def candidateReport : Option (Byte × Nat) → List Byte
  | none => [0, 0xFF, 0xFF]
  | some (v, n) => [1, v, BitVec.ofNat 8 n]

/-- The four candidates of a port in a report (R202, R204). -/
def candidatesReport (q : PortRecord) : List Byte :=
  let yesNo : Bool × Nat → Byte × Nat := fun c => (if c.1 then 1 else 0, c.2)
  candidateReport (q.presence.candidate.map yesNo) ++ candidateReport (q.power.candidate.map yesNo)
    ++ candidateReport (q.handle.candidate.map yesNo)
    ++ candidateReport (q.bladeClass.candidate.map fun c => (c.1.setWidth 8, c.2))

/-- The accepted values of a port as a status word (R203). -/
def acceptedReport (q : PortRecord) : Byte :=
  BitVec.ofNat 8 ((if q.presence.accepted then 128 else 0) + (if q.power.accepted then 64 else 0)
    + (if q.handle.accepted then 32 else 0) + q.bladeClass.accepted.toNat)

/-- A two-byte timer field of a record: what is left of a running timer, FFFF hex for a stopped one (R204). -/
def timerReport (t : Timer) : List Byte := bytes16 (BitVec.ofNat 16 (t.getD 0xFFFF))

/-- A yes or no field of a record (R204). -/
def yesReport (b : Bool) : Byte := if b then 1 else 0

/-- The response to a single read of slot `i` (R163, R202): what was read, bit 4 as 0, and the port after the sample. -/
def readReport (i : SlotIx) (tag : Byte) (word : Option Byte) (q : PortRecord) : List Byte :=
  [tag, 0x14, 0, BitVec.ofNat 8 (i.val + 1), if word.isSome then 1 else 0, word.getD 0 &&& 0xEF, acceptedReport q]
    ++ candidatesReport q ++ [BitVec.ofNat 8 q.noResponse]

/-- The law of a link record (R120, R121, R123, R124, R126, R130, R132, R133): what is absent or stopped outside its link
state, an attempt within its limit, the lock-loss timer of a link that carries frames running exactly while lock is no, and
a control list of at most eleven frames, none twice and at most one a PAUSE. -/
structure LinkLaw (l : LinkRecord) : Prop where
  dark : l.state = .dark → l.train = none ∧ l.lock = false
  train : l.state ≠ .dark → ∃ tr, l.train = some tr ∧ 1 ≤ tr.attempt ∧ tr.attempt ≤ tr.limit ∧ tr.limit ≤ 7
  attempt : l.attemptTimer ≠ none ∨ l.lockedInAttempt = true → l.state = .training
  lossRuns : l.lockLossTimer ≠ none → l.lock = false ∧ (l.inAttempt = true ∨ l.carries = true)
  loss : l.carries = true → (l.lockLossTimer ≠ none ↔ l.lock = false)
  outsideUp : l.state ≠ .up → l.control = [] ∧ l.remotePause = none
  sends : l.carries = false → l.tx = none
  receives : l.rx ≠ none → l.receives = true
  control : l.control.Nodup ∧ (l.control.filter ControlFrame.isPause).length ≤ 1 ∧ l.control.length ≤ 11

/-- The law of a monitor record (R139–R146): its settings in range, counting only while the link runs, nothing counted in
IDLE, the counts within theirs, and in ALARM mode a count below the alarm limit until the alarm. -/
structure MonitorLaw (m : MonitorRecord) : Prop where
  divisor : m.divisor ∈ [1, 2, 4, 8]
  limits : m.lowLimit ≤ 255 ∧ m.highLimit ≤ 255 ∧ 1 ≤ m.alarmLimit ∧ m.alarmLimit ≤ 255
  counting : m.phase = .counting → m.linkRunning = true
  idle : m.phase = .idle → m.runningCount = 0 ∧ m.tickRemainder = 0
  counts : m.runningCount ≤ 255 ∧ m.tickRemainder < m.divisor ∧ m.latchedCount ≤ 255 ∧ m.run ≤ 4
  saturated : m.latchedSaturated = true → m.latchedCount = 255
  alarm : m.phase = .counting → m.mode = .alarm → m.runningCount < m.alarmLimit

/-- The laws of the links and monitors: every record keeps its law, a monitor knows whether its link carries frames
(R140), a DRAINED slot's link is PARKED or DARK (R121), and the number of training attempts is 1–7 (R122). -/
structure LinkLaws (s : State) : Prop where
  attempts : 1 ≤ s.agent.trainingAttempts ∧ s.agent.trainingAttempts ≤ 7
  links : ∀ i, LinkLaw (s.links.get i)
  monitors : ∀ i, MonitorLaw (s.monitors.get i)
  running : ∀ i, (s.monitors.get i).linkRunning = (s.links.get i).carries
  drained : ∀ i, (s.slots.get i).state = .drained → (s.links.get i).state = .parked ∨ (s.links.get i).state = .dark

/-- The next microsecond is a tick of a unit of `unit` µs: 1, 10, 1,000 or 25,000 (R1). -/
abbrev TickFalls (unit : Nat) (s : State) : Prop := (s.micros + 1) % 25000 % unit = 0

/-- A timer when the next microsecond has passed, where it counts ticks of `unit` µs (R1). -/
def countDown (unit : Nat) (s : State) (t : Timer) : Timer := if TickFalls unit s then t.map (· - 1) else t

/-- `u` is `s` a microsecond later, before anything that falls due is taken: every running timer has one tick less to go
where its unit ticks (R1), a counting monitor has one tick more (R142), an IDLE bus with work to do has begun a cycle
(R157), and nothing else has changed. -/
structure Ticked (s u : State) : Prop where
  clock : u.micros = (s.micros + 1) % 25000
  slots : ∀ i, u.slots.get i = { s.slots.get i with
    probeTimer := countDown 1000 s (s.slots.get i).probeTimer
    qualifyTimer := countDown 1000 s (s.slots.get i).qualifyTimer
    deadlineTimer := countDown 1000 s (s.slots.get i).deadlineTimer
    ackTimer := countDown 1000 s (s.slots.get i).ackTimer }
  pools : ∀ p, u.pools.get p = { s.pools.get p with
    rampTimer := countDown 1000 s (s.pools.get p).rampTimer
    adoptionTimer := countDown 1000 s (s.pools.get p).adoptionTimer }
  links : ∀ i, u.links.get i = { s.links.get i with
    attemptTimer := countDown 1000 s (s.links.get i).attemptTimer
    lockLossTimer := countDown 1 s (s.links.get i).lockLossTimer
    remotePause := countDown 1 s (s.links.get i).remotePause }
  upstream : ∀ i, u.upstream.get i = { s.upstream.get i with pause := countDown 1 s (s.upstream.get i).pause }
  draining : ∀ e m, s.engines.get e = some m → m.phase = .draining →
    u.engines.get e = some { m with timer := if TickFalls 1000 s then m.timer - 1 else m.timer }
  settling : ∀ e m, s.engines.get e = some m → m.phase = .settling →
    u.engines.get e = some { m with timer := if TickFalls 10 s then m.timer - 1 else m.timer }
  engines : ∀ e, s.engines.get e = none → u.engines.get e = none
  monitors : ∀ i, u.monitors.get i = if TickFalls 10 s then (s.monitors.get i).tick else s.monitors.get i
  bus : s.scanner.cycle ≠ none ∨ s.scanner.waitingRead = none ∧ s.scanner.mode ≠ .scan → u.scanner = s.scanner
  begun : s.scanner.cycle = none → s.scanner.waitingRead ≠ none ∨ s.scanner.mode = .scan → u.scanner.cycle ≠ none
    ∧ u.scanner = { s.scanner with cycle := u.scanner.cycle, forcedPreamble := u.scanner.forcedPreamble }
  rest : u = { s with
    micros := u.micros, slots := u.slots, pools := u.pools, links := u.links, upstream := u.upstream
    engines := u.engines, monitors := u.monitors, scanner := u.scanner }

/-- `Runs s c unit n`: the command `c` is to fall due at the `n`-th tick of `unit` µs from now, unless something stops it:
the expiry of a running timer (R1), the saturation latch (R142) or the alarm (R144) of a counting monitor. -/
inductive Runs (s : State) : Instr → Nat → Nat → Prop where
  | trainingLockLoss (i n) : (s.links.get i).inAttempt = true → (s.links.get i).lockLossTimer = some n →
      Runs s (.trainingLockLoss i) 1 n
  | attemptTimer (i n) : (s.links.get i).attemptTimer = some n → Runs s (.attemptTimerExpiry i) 1000 n
  | lockLoss (i n) : (s.links.get i).carries = true → (s.links.get i).lockLossTimer = some n →
      Runs s (.lockLossExpiry i) 1 n
  | remotePause (i n) : (s.links.get i).remotePause = some n → Runs s (.remotePauseExpiry i) 1 n
  | refresh (i n) : (s.upstream.get i).pause = some n → Runs s (.refreshTimerExpiry i) 1 n
  | probeWindow (i n) : (s.slots.get i).probeTimer = some n → Runs s (.probeWindowExpiry i) 1000 n
  | qualify (i n) : (s.slots.get i).qualifyTimer = some n → Runs s (.qualifyTimerExpiry i) 1000 n
  | deadline (i n) : (s.slots.get i).deadlineTimer = some n → Runs s (.deadlineExpiry i) 1000 n
  | acknowledgment (i n) : (s.slots.get i).ackTimer = some n → Runs s (.acknowledgmentExpiry i) 1000 n
  | drain (e m) : s.engines.get e = some m → m.phase = .draining → Runs s (.drainTimerExpiry e) 1000 m.timer
  | settle (e m) : s.engines.get e = some m → m.phase = .settling → Runs s (.settleTimerExpiry e) 10 m.timer
  | ramp (p n) : (s.pools.get p).rampTimer = some n → Runs s (.rampTimerExpiry p) 1000 n
  | adoption (p n) : (s.pools.get p).adoptionTimer = some n → Runs s (.adoptionTimerExpiry p) 1000 n
  | saturation (i) : (s.monitors.get i).phase = .counting → (s.monitors.get i).mode = .poll →
      (s.monitors.get i).runningCount < 255 →
      Runs s (.saturationLatch i) 10
        ((255 - (s.monitors.get i).runningCount) * (s.monitors.get i).divisor - (s.monitors.get i).tickRemainder)
  | alarm (i) : (s.monitors.get i).phase = .counting → (s.monitors.get i).mode = .alarm →
      Runs s (.beaconAlarm i) 10
        (((s.monitors.get i).alarmLimit - (s.monitors.get i).runningCount) * (s.monitors.get i).divisor
          - (s.monitors.get i).tickRemainder)

/-- Nothing falls due at the next microsecond but, if at all, `c`. -/
def QuietBut (c : Option Instr) (s : State) : Prop :=
  ∀ c' unit n, Runs s c' unit n → some c' ≠ c → (if TickFalls unit s then 1 else 0) < n

/-- No counter of `t` is below the same counter of `s` (R3). -/
structure CountersRise (s t : State) : Prop where
  core : ∀ c, (s.coreCount c).toNat ≤ (t.coreCount c).toNat
  pool : ∀ p c, (s.poolCount p c).toNat ≤ (t.poolCount p c).toNat
  slot : ∀ i c, (s.slotCount i c).toNat ≤ (t.slotCount i c).toNat
  agent : ∀ c, (s.agentCount c).toNat ≤ (t.agentCount c).toNat

/-- A good read of one status word, taken `n` times by a signal under debounce `d` (R158). -/
def readTimes {α : Type} [DecidableEq α] (d : Nat) (v : α) : Nat → Signal α → Signal α
  | 0, g => g
  | n + 1, g => readTimes d v n (g.judge d v)

/-- A monitor after `n` monitor ticks (R142). -/
def ticksOf : Nat → MonitorRecord → MonitorRecord
  | 0, m => m
  | n + 1, m => ticksOf n m.tick

end Sys2Proof.Machine
end

