-- ==== Sys2Proof/WellFormed.lean ====
section
/-! DEFINITION. Which terms of the command type a sender can form. -/

namespace Sys2Proof

/-- SET_LAMP_MAP carries 0–10 entries (R174, R201). -/
def entriesFit (entries : List (Byte × Byte)) : Bool := entries.length ≤ 10

/-- UNKNOWN_REQUEST stands only for an entry that is no other request (R184). -/
def trulyUnknown (e : RequestEntry) : Bool := decodeRequest e = .unknownRequest e

/-- A command that a sender can form. Events and fixed-length requests always are; a SET_LAMP_MAP within its
count, and an UNKNOWN_REQUEST whose entry spells no request. -/
def wellFormed : Instr → Bool
  | .setLampMap _ entries => entriesFit entries
  | .unknownRequest e => trulyUnknown e
  | .powerOn | .pinReset | .coreRxStart | .coreRxEnd _ _ | .slotRxStart _ | .slotRxEnd _ _ _
  | .lockGained _ | .lockLost _ | .attemptSuccess _ | .attemptTimerExpiry _ | .trainingLockLoss _
  | .lockLossExpiry _ | .remotePauseExpiry _ | .slotTxStart _ | .controlTxEnd _ | .egressTxEnd _
  | .coreArbiterChoice | .upstreamTxEnd | .mgmtTxEnd | .refreshTimerExpiry _ | .probeWindowExpiry _
  | .qualifyTimerExpiry _ | .deadlineExpiry _ | .acknowledgmentExpiry _ | .drainTimerExpiry _
  | .settleTimerExpiry _ | .rampTimerExpiry _ | .engineGrant | .adoptionTimerExpiry _
  | .readCycleEnd _ _ _ | .scanReadResponse | .saturationLatch _ | .beaconAlarm _ | .lampBaseStep
  | .identify _ | .readSlot _ _ | .setPolicy _ _ _ _ _ _ _ _ _ _ | .setWeight _ _ _ | .admitSlot _ _ _ _
  | .retire _ _ _ | .fence _ _ | .unfence _ _ | .requalify _ _ | .slotReset _ _ _ | .clearAlarm _ _
  | .setBeacon _ _ _ _ _ _ _ | .poolSet _ _ _ _ _ _ _ _ | .poolEnable _ _ | .poolDisable _ _
  | .readPool _ _ | .readBins _ _ | .readMoves _ _ | .setScan _ _ _ _ _ _ _ | .scanRead _ _
  | .scanRestart _ | .setLampPattern _ _ _ _ _ | .lampOverride _ _ _ | .readAttention _
  | .clearAttention _ _ _ | .readCounters _ | .clearCounters _ | .setDevice _ _ _ _ _ _ | .readCause _
  | .restart _ => true

end Sys2Proof
end

