-- ==== Sys2Proof/Certificates/Slice0/Obligations.lean ====
section
/-! DEFINITION. The statements for the provers: resets and receptions, the links and queues, moves and pools, the
scanner, monitors and lamps, the management requests, and the laws that every step keeps. -/

open Sys2Proof Sys2Proof.Machine

/-- 00, Resets; R35, R37, R98, R117, R137, R152, R167, R178, R197: what power-on leaves in every block, the default patterns
and State Map and the 328 counters among it; and POWER_ON brings every block to those values and begins the first cycle, at
the first address with a preamble. (The model's choices: State.reset is the moment before the first cycle, and POWER_ON keeps
the waiting commands and the count of free values drawn, log entry 12; the transmitters are idle and no lock is gained, which
no rule states, log entry 23.) -/
def Obligations.ResetLeavesThePowerOnValues : Prop :=
  (∀ i, State.reset.slots.get i
      = ⟨.empty, none, 1, 0, 0, 0, .auto, 64, none, 0, 0, false, none, none, none, none⟩)
    ∧ (∀ p, (State.reset.pools.get p).enabled = false ∧ (State.reset.pools.get p).salt = 0
      ∧ (State.reset.pools.get p).rampInterval = 20 ∧ (State.reset.pools.get p).settleTime = 10
      ∧ (State.reset.pools.get p).drainLimit = 20 ∧ (State.reset.pools.get p).width = 1
      ∧ (State.reset.pools.get p).adoptionWindow = 5 ∧ (State.reset.pools.get p).plan = []
      ∧ (State.reset.pools.get p).rampTimer = none ∧ (State.reset.pools.get p).adoptionTimer = none
      ∧ (∀ i, (State.reset.pools.get p).targets.get i = 0)
      ∧ ∀ b, (State.reset.pools.get p).bins.get b = ⟨.unowned, 0, none⟩)
    ∧ (∀ e, State.reset.engines.get e = none) ∧ State.reset.arbiter = 3
    ∧ (∀ i, State.reset.egress.get i = [] ∧ State.reset.upstream.get i = ⟨[], none⟩
      ∧ State.reset.links.get i = ⟨.dark, none, false, false, false, none, none, none, [], none, none⟩
      ∧ State.reset.monitors.get i = ⟨.poll, 1, 50, 150, 200, false, .idle, 0, 0, 0, false, 0⟩
      ∧ State.reset.ports.get i = ⟨⟨false, none⟩, ⟨false, none⟩, ⟨true, none⟩, ⟨0, none⟩, 0⟩
      ∧ State.reset.lamps.override.get i = none ∧ State.reset.lamps.level.get i = false)
    ∧ State.reset.scanner = ⟨.scan, 50, true, 0, 11, 3, none, none, true, none⟩
    ∧ State.reset.lamps.patterns.cells = [⟨[false, false], 1⟩, ⟨[true, true], 1⟩,
        ⟨[true, true, true, true, true, true, true, true,
          false, false, false, false, false, false, false, false], 4⟩,
        ⟨[true, true, false, false], 4⟩,
        ⟨[true, false, true, false, false, false, false, false,
          false, false, false, false, false, false, false, false], 2⟩,
        ⟨[false, false], 1⟩, ⟨[false, false], 1⟩, ⟨[false, false], 1⟩]
    ∧ State.reset.lamps.stateMap.cells = [0, 2, 2, 0, 3, 0, 3, 1, 4, 1] ∧ State.reset.lamps.counter = 0
    ∧ State.reset.core.rx = none ∧ State.reset.core.tx = .idle ∧ State.reset.core.pointer = 11
    ∧ State.reset.agent.requests = [] ∧ State.reset.agent.transmit = []
    ∧ State.reset.agent.pauseTime = 500 ∧ State.reset.agent.ackTimeout = 100
    ∧ State.reset.agent.qualifyLimit = 500 ∧ State.reset.agent.trainingAttempts = 3
    ∧ State.reset.agent.noticesEnabled = false ∧ State.reset.agent.deviceFlags = 0
    ∧ State.reset.agent.lastCause = .power ∧ State.reset.agent.pinResets = 0 ∧ State.reset.agent.restarts = 0
    ∧ (∀ c, State.reset.coreCount c = 0) ∧ (∀ p c, State.reset.poolCount p c = 0)
    ∧ (∀ i c, State.reset.slotCount i c = 0) ∧ (∀ c, State.reset.agentCount c = 0) ∧ State.reset.micros = 0
    ∧ ∀ s, exec .powerOn s = .next { State.reset with
        pending := s.pending, freeDraws := s.freeDraws
        scanner := { State.reset.scanner with cycle := some ⟨0, false, .scan, 50, true⟩, forcedPreamble := false } }

/-- R35, R59, R83, R99, R117, R137, R152, R167, R178, R197: PIN_RESET keeps the settings, the pool and the last fault of
every slot, the pools' settings, the patterns and the State Map; makes every slot EMPTY, every pool disabled and every owned
bin STALE; empties every queue; clears every counter; records itself; and in SCAN mode begins the first cycle. (The model's
choices: the waiting commands and the count of free values drawn are kept, log entry 12; the links and the core link are as
after power-on, with idle transmitters and, in the model's own field, no lock gained, log entries 10 and 23. The cells in use
are the frames in receptions and queues: the model's inference, log entry 6.) -/
def Obligations.PinResetKeepsSettingsAndClearsTheRest : Prop :=
  ∀ s, ∃ t, exec .pinReset s = .next t
    ∧ (∀ i, (t.slots.get i).state = .empty ∧ (t.slots.get i).attention = 0 ∧ (t.slots.get i).echoes = 0
      ∧ (t.slots.get i).beaconsQualified = false ∧ (t.slots.get i).timersStopped
      ∧ (t.slots.get i).pool = (s.slots.get i).pool ∧ (t.slots.get i).weight = (s.slots.get i).weight
      ∧ (t.slots.get i).expectedClass = (s.slots.get i).expectedClass
      ∧ (t.slots.get i).policy = (s.slots.get i).policy
      ∧ (t.slots.get i).retireDeadline = (s.slots.get i).retireDeadline
      ∧ (t.slots.get i).rateMode = (s.slots.get i).rateMode ∧ (t.slots.get i).quota = (s.slots.get i).quota
      ∧ (t.slots.get i).lastFault = (s.slots.get i).lastFault)
    ∧ (∀ p, (t.pools.get p).enabled = false ∧ (t.pools.get p).plan = []
      ∧ (t.pools.get p).rampTimer = none ∧ (t.pools.get p).adoptionTimer = none
      ∧ (∀ i, (t.pools.get p).targets.get i = 0)
      ∧ (t.pools.get p).salt = (s.pools.get p).salt
      ∧ (t.pools.get p).rampInterval = (s.pools.get p).rampInterval
      ∧ (t.pools.get p).settleTime = (s.pools.get p).settleTime
      ∧ (t.pools.get p).drainLimit = (s.pools.get p).drainLimit ∧ (t.pools.get p).width = (s.pools.get p).width
      ∧ (t.pools.get p).adoptionWindow = (s.pools.get p).adoptionWindow
      ∧ ∀ b, ((t.pools.get p).bins.get b).inflight = 0 ∧ ((t.pools.get p).bins.get b).engine = none
        ∧ ∀ i, (((s.pools.get p).bins.get b).owner = .owned i → ((t.pools.get p).bins.get b).owner = .stale i)
          ∧ (((s.pools.get p).bins.get b).owner = .stale i → ((t.pools.get p).bins.get b).owner = .stale i)
          ∧ (((s.pools.get p).bins.get b).owner = .unowned → ((t.pools.get p).bins.get b).owner = .unowned))
    ∧ (∀ e, t.engines.get e = none) ∧ t.arbiter = 3 ∧ cellsInUse t = 0
    ∧ (∀ i, t.egress.get i = [] ∧ t.upstream.get i = ⟨[], none⟩ ∧ t.links.get i = State.reset.links.get i
      ∧ t.ports.get i = State.reset.ports.get i ∧ t.lamps.override.get i = none ∧ t.lamps.level.get i = false
      ∧ t.monitors.get i = { State.reset.monitors.get i with
          mode := (s.monitors.get i).mode, divisor := (s.monitors.get i).divisor
          lowLimit := (s.monitors.get i).lowLimit, highLimit := (s.monitors.get i).highLimit
          alarmLimit := (s.monitors.get i).alarmLimit })
    ∧ t.lamps.patterns = s.lamps.patterns ∧ t.lamps.stateMap = s.lamps.stateMap ∧ t.lamps.counter = 0
    ∧ t.agent.requests = [] ∧ t.agent.transmit = [] ∧ t.agent.noticesEnabled = false
    ∧ t.agent.pauseTime = s.agent.pauseTime ∧ t.agent.ackTimeout = s.agent.ackTimeout
    ∧ t.agent.qualifyLimit = s.agent.qualifyLimit ∧ t.agent.trainingAttempts = s.agent.trainingAttempts
    ∧ t.agent.deviceFlags = 2 ∧ t.agent.lastCause = .pin
    ∧ t.agent.pinResets = min 255 (s.agent.pinResets + 1) ∧ t.agent.restarts = s.agent.restarts
    ∧ t.core.rx = none ∧ t.core.tx = .idle ∧ t.core.pointer = 11 ∧ t.micros = 0
    ∧ (∀ c, t.coreCount c = 0) ∧ (∀ p c, t.poolCount p c = 0) ∧ (∀ i c, t.slotCount i c = 0)
    ∧ (∀ c, t.agentCount c = 0)
    ∧ t.scanner.pointer = none ∧ t.scanner.pendingRead = none ∧ t.scanner.mode = s.scanner.mode
    ∧ t.scanner.divisor = s.scanner.divisor ∧ t.scanner.preamble = s.scanner.preamble
    ∧ t.scanner.firstAddress = s.scanner.firstAddress ∧ t.scanner.lastAddress = s.scanner.lastAddress
    ∧ t.scanner.debounce = s.scanner.debounce
    ∧ (s.scanner.mode = .scan →
        t.scanner.cycle = some ⟨s.scanner.firstAddress, false, .scan, s.scanner.divisor, true⟩)
    ∧ (s.scanner.mode ≠ .scan → t.scanner.cycle = none ∧ t.scanner.forcedPreamble = true)
    ∧ t.pending = s.pending ∧ t.freeDraws = s.freeDraws

/-- R85, R86, R87, R126: the start of a reception takes a cell when one of the 2,048 is free, and otherwise marks the frame
unstored; nothing else changes. (That the cells in use are counted from the receptions and queues is the model's inference,
log entry 6.) -/
def Obligations.ReceptionStartTakesAFreeCell : Prop :=
  (∀ s, s.core.rx = none →
    exec .coreRxStart s = .next { s with core := { s.core with rx := some (decide (cellsInUse s < 2048)) } })
  ∧ (∀ s i, (s.links.get i).lock = true → (s.links.get i).rx = none →
      ((s.links.get i).state = .parked ∨ (s.links.get i).state = .up ∧ (s.links.get i).lost = false) →
      exec (.slotRxStart i) s =
        .next (s.updLink i fun l => { l with rx := some (decide (cellsInUse s < 2048)) }))

/-- R86, R87, R97, R126: an unstored frame is counted NO_BUFFER whichever way it ends, and a stored one ended by an abort
marker RX_ABORTED, at the port that received it; nothing else changes but the end of the reception. (That the end of a
reception carries the frame's bytes, which an aborted one does not look at, is the model's choice, log entry 5.) -/
def Obligations.UnstoredAndAbortedFramesAreOnlyCounted : Prop :=
  (∀ s how bytes, s.core.rx = some false →
    exec (.coreRxEnd how bytes) s = .next (bumpCore .noBuffer { s with core := { s.core with rx := none } }))
  ∧ (∀ s bytes, s.core.rx = some true →
    exec (.coreRxEnd .aborted bytes) s = .next (bumpCore .rxAborted { s with core := { s.core with rx := none } }))
  ∧ (∀ s i how bytes, (s.links.get i).rx = some false →
    exec (.slotRxEnd i how bytes) s = .next (bumpSlot i .noBuffer (slotReceived s i)))
  ∧ (∀ s i bytes, (s.links.get i).rx = some true →
    exec (.slotRxEnd i .aborted bytes) s = .next (bumpSlot i .rxAborted (slotReceived s i)))

/-- R88, R41, R199: the five checks of a received frame, in their order, on each port; the first that fails drops the frame
and raises one counter of the receiving port, and nothing else changes. A frame that passes is read as its kind, target, flow
key, K3 first, and payload. -/
def Obligations.FrameChecksAreMadeInOrder : Prop :=
  (∀ s bytes, s.core.rx = some true →
    let t : State := { s with core := { s.core with rx := none } }
    (badLength bytes → exec (.coreRxEnd .normal bytes) s = .next (bumpCore .lengthErrors t))
    ∧ (¬ badLength bytes → badHeader bytes →
      exec (.coreRxEnd .normal bytes) s = .next (bumpCore .headerErrors t))
    ∧ (¬ badLength bytes → ¬ badHeader bytes → badCrc bytes →
      exec (.coreRxEnd .normal bytes) s = .next (bumpCore .crcErrors t))
    ∧ (¬ badLength bytes → ¬ badHeader bytes → ¬ badCrc bytes → badPayloadLength bytes →
      exec (.coreRxEnd .normal bytes) s = .next (bumpCore .lengthErrors t)))
  ∧ (∀ s i bytes, (s.links.get i).rx = some true →
    (badLength bytes →
      exec (.slotRxEnd i .normal bytes) s = .next (bumpSlot i .lengthErrors (slotReceived s i)))
    ∧ (¬ badLength bytes → badHeader bytes →
      exec (.slotRxEnd i .normal bytes) s = .next (bumpSlot i .headerErrors (slotReceived s i)))
    ∧ (¬ badLength bytes → ¬ badHeader bytes → badCrc bytes →
      exec (.slotRxEnd i .normal bytes) s = .next (bumpSlot i .crcErrors (slotReceived s i)))
    ∧ (¬ badLength bytes → ¬ badHeader bytes → ¬ badCrc bytes → badPayloadLength bytes →
      exec (.slotRxEnd i .normal bytes) s = .next (bumpSlot i .lengthErrors (slotReceived s i))))
  ∧ (∀ bytes, ¬ badLength bytes → ¬ badHeader bytes → ¬ badCrc bytes → ¬ badPayloadLength bytes →
    ∃ info, checkFrame bytes = .ok info ∧ kindCode info.kind = (bytes.getD 0 0).toNat / 16
      ∧ info.target = bytes.getD 1 0
      ∧ info.flowKey = bytes.getD 4 0 ++ bytes.getD 5 0 ++ bytes.getD 6 0 ++ bytes.getD 7 0
      ∧ info.payload = (bytes.drop 10).take (bytes.length - 14))

/-- R91, R39, R40: a pool frame that passed its checks is dropped at a disabled pool or an UNOWNED or STALE bin; for an
OWNED bin that is in no move it joins its owner's egress queue, raising the bin's in-flight count, or is dropped at a
full one. -/
def Obligations.PoolFramesFollowTheBinTable : Prop :=
  ∀ s bytes info p, CoreFrame s bytes info → info.kind = .dataPool → info.target.toNat = p.val →
    let b := binOf info.flowKey (s.pools.get p).salt
    let t := coreReceived s
    ((s.pools.get p).enabled = false →
      exec (.coreRxEnd .normal bytes) s = .next (bumpPool p .poolDisabled 1 t))
    ∧ ((s.pools.get p).enabled = true → ((s.pools.get p).bins.get b).owner = .unowned →
      exec (.coreRxEnd .normal bytes) s = .next (bumpPool p .poolDark 1 t))
    ∧ (∀ i, (s.pools.get p).enabled = true → ((s.pools.get p).bins.get b).owner = .stale i →
      exec (.coreRxEnd .normal bytes) s = .next (bumpPool p .poolDark 1 t))
    ∧ (∀ i, (s.pools.get p).enabled = true → ((s.pools.get p).bins.get b).owner = .owned i →
      ((s.pools.get p).bins.get b).engine = none →
      ((s.egress.get i).length < 256 →
        exec (.coreRxEnd .normal bytes) s = .next
          ((t.setEgress i (s.egress.get i ++ [⟨bytes, some (p, b)⟩])).updBin p b
            fun r => { r with inflight := r.inflight + 1 }))
      ∧ (256 ≤ (s.egress.get i).length →
        exec (.coreRxEnd .normal bytes) s = .next (bumpSlot i .egressFull t)))

/-- R66, R70, R71, R72, R91: a frame of a moving bin joins the tail of the engine's hold list; at a list of 32 it brings
an early commit: the destination owns the bin, the held frames and then the arriving one stand in its egress queue, the
in-flight count covers them, the engine is IDLE, and MOVES_DONE and EARLY_COMMITS rise (log entry 26: the commit is
reported before the arriving frame is steered). -/
def Obligations.MovingBinsHoldTheirFrames : Prop :=
  ∀ s bytes info e m, CoreFrame s bytes info → info.kind = .dataPool → info.target.toNat = m.pool.val →
    (s.pools.get m.pool).enabled = true → binOf info.flowKey (s.pools.get m.pool).salt = m.bin →
    s.engines.get e = some m → ((s.pools.get m.pool).bins.get m.bin).engine = some e →
    ((s.pools.get m.pool).bins.get m.bin).owner = .owned m.source →
    (m.hold.length < 32 →
      exec (.coreRxEnd .normal bytes) s
        = .next ((coreReceived s).setEngine e (some { m with hold := m.hold ++ [bytes] })))
    ∧ (m.hold.length = 32 → (s.egress.get m.destination).length ≤ 223 →
      ∃ t, exec (.coreRxEnd .normal bytes) s = .next t
        ∧ t.engines.get e = none
        ∧ ((t.pools.get m.pool).bins.get m.bin).owner = .owned m.destination
        ∧ ((t.pools.get m.pool).bins.get m.bin).engine = none
        ∧ ((t.pools.get m.pool).bins.get m.bin).inflight
            = ((s.pools.get m.pool).bins.get m.bin).inflight + 33
        ∧ t.egress.get m.destination = s.egress.get m.destination
            ++ (m.hold ++ [bytes]).map (fun f => EgressEntry.mk f (some (m.pool, m.bin)))
        ∧ (∀ i, i ≠ m.destination → t.egress.get i = s.egress.get i)
        ∧ t.poolCount m.pool .movesDone = counterAdd (s.poolCount m.pool .movesDone) 1
        ∧ t.poolCount m.pool .earlyCommits = counterAdd (s.poolCount m.pool .earlyCommits) 1
        ∧ t.poolCount m.pool .forcedCommits = s.poolCount m.pool .forcedCommits
        ∧ (∀ e', e' ≠ e → t.engines.get e' = s.engines.get e')
        ∧ (∀ p, p ≠ m.pool → t.pools.get p = s.pools.get p) ∧ MembershipFollows s t
        ∧ t = { coreReceived s with
            slots := t.slots, pools := t.pools, engines := t.engines, egress := t.egress, links := t.links
            agent := t.agent })

/-- R92: a slot frame is offered to the slot's egress queue in PROBING, STANDBY, ADMITTING, IN_SERVICE and RETIRING in
phase MOVING, and dropped, counted SLOT_UNREACHABLE, in every other state. -/
def Obligations.SlotFramesFollowTheSlotState : Prop :=
  ∀ s bytes info i, CoreFrame s bytes info → info.kind = .dataSlot → info.target.toNat = i.val + 1 →
    ((s.slots.get i).state ∈ [.probing, .standby, .admitting, .inService, .retiring .moving] →
      ((s.egress.get i).length < 256 →
        exec (.coreRxEnd .normal bytes) s
          = .next ((coreReceived s).setEgress i (s.egress.get i ++ [⟨bytes, none⟩])))
      ∧ (256 ≤ (s.egress.get i).length →
        exec (.coreRxEnd .normal bytes) s = .next (bumpSlot i .egressFull (coreReceived s))))
    ∧ ((s.slots.get i).state ∈ [.retiring .confirming, .empty, .seated, .drained, .faulted, .fenced] →
      exec (.coreRxEnd .normal bytes) s = .next (bumpSlot i .slotUnreachable (coreReceived s)))

/-- R89, R90, R180, R183: a management frame with target 0 joins the tail of a request queue of fewer than 8 entries,
which keeps its ten header bytes and the first 240 payload bytes and marks a longer payload, and is dropped and counted at a
full queue; a frame with any other place to go is dropped and counted BAD_TARGET. -/
def Obligations.RequestsAreHandedOffAndBadTargetsDropped : Prop :=
  ∀ s bytes info, CoreFrame s bytes info →
    (info.kind = .mgmt → info.target = 0 →
      (s.agent.requests.length < 8 → ∃ request : QueuedRequest,
        exec (.coreRxEnd .normal bytes) s = .next (bumpAgent .requestsTaken
          ((coreReceived s).updAgent fun a => { a with requests := a.requests ++ [request] }))
        ∧ request.header = bytes.take 10
        ∧ (1 ≤ info.payload.length → some request.entry.tag = info.payload[0]?)
        ∧ (info.payload = [] → request.entry.tag = 0)
        ∧ request.entry.code = info.payload[1]?
        ∧ request.entry.params = (info.payload.take 240).drop 2
        ∧ (request.entry.overlength = true ↔ 240 < info.payload.length))
      ∧ (8 ≤ s.agent.requests.length →
        exec (.coreRxEnd .normal bytes) s = .next (bumpAgent .requestDrops (coreReceived s))))
    ∧ (info.kind = .mgmt → info.target ≠ 0 →
      exec (.coreRxEnd .normal bytes) s = .next (bumpCore .badTarget (coreReceived s)))
    ∧ (info.kind = .linkCtrl →
      exec (.coreRxEnd .normal bytes) s = .next (bumpCore .badTarget (coreReceived s)))
    ∧ (info.kind = .dataPool → 3 < info.target.toNat →
      exec (.coreRxEnd .normal bytes) s = .next (bumpCore .badTarget (coreReceived s)))
    ∧ (info.kind = .dataSlot → info.target.toNat = 0 ∨ 12 < info.target.toNat →
      exec (.coreRxEnd .normal bytes) s = .next (bumpCore .badTarget (coreReceived s)))

/-- R41: the bin of a flow key K3 K2 K1 K0 under a salt, and that the bins of a pool share the 256 values of v evenly:
whatever the first three key bytes and the salt, four values of K0 reach each bin. -/
def Obligations.BinsAreChosenByTheFoldedKey : Prop :=
  (∀ k3 k2 k1 k0 salt : Byte,
    (binOf (k3 ++ k2 ++ k1 ++ k0) salt).val
      = ((k3 ^^^ k2 ^^^ k1 ^^^ k0 ^^^ salt).toNat % 64) ^^^ ((k3 ^^^ k2 ^^^ k1 ^^^ k0 ^^^ salt).toNat / 64))
  ∧ (∀ (k3 k2 k1 salt : Byte) (b : BinIx),
    ((List.range 256).filter fun n => binOf (k3 ++ k2 ++ k1 ++ BitVec.ofNat 8 n) salt = b).length = 4)

/-- R42: for any weights, each eligible member having its weight and every other slot 0: with W above 0 every target is
the whole part q of 64w / W or q + 1, none of weight 0 has any, those with q + 1 number 64 less the sum of the q and have the
largest remainders, the lower slot first among equals, the targets sum to 64 and each is within 1 of its exact share; with
W = 0 every target is 0. -/
def Obligations.TargetsApportionSixtyFourBins : Prop :=
  ∀ w : SlotIx → Nat,
    let W := ((List.finRange 12).map w).sum
    let q : SlotIx → Nat := fun i => 64 * w i / W
    let r : SlotIx → Nat := fun i => 64 * w i % W
    (0 < W →
      (∀ i, targetOf w i = q i ∨ targetOf w i = q i + 1)
      ∧ ((List.finRange 12).filter fun i => targetOf w i = q i + 1).length + ((List.finRange 12).map q).sum = 64
      ∧ (∀ i j, targetOf w i = q i + 1 → targetOf w j = q j → w j ≠ 0 → r j < r i ∨ r j = r i ∧ i < j)
      ∧ (∀ i, w i = 0 → targetOf w i = 0)
      ∧ ((List.finRange 12).map (targetOf w)).sum = 64
      ∧ ∀ i, targetOf w i * W < 64 * w i + W ∧ 64 * w i < targetOf w i * W + W)
    ∧ (W = 0 → ∀ i, targetOf w i = 0)

/-- R105, R107, R108, R109: a data frame from a slot link is dropped outside the accepting states; below the effective
quota it joins the upstream queue, and the arrival that fills the quota sends PAUSE(T); at the quota it is dropped and
QUOTA_EXCEEDED is raised. (That the PAUSE asked for keeps the T of that moment until it is sent is the model's inference, log
entry 40.) -/
def Obligations.UpstreamAdmissionKeepsTheQuota : Prop :=
  ∀ s i bytes info, SlotFrame s i bytes info → info.kind = .dataPool ∨ info.kind = .dataSlot →
    ((s.slots.get i).state ∈ [.empty, .seated, .drained, .faulted, .fenced] →
      exec (.slotRxEnd i .normal bytes) s = .next (bumpSlot i .lateUpstream (slotReceived s i)))
    ∧ ∀ q, effectiveQuota s i = some q →
      ((s.upstream.get i).queue.length < q →
        (s.upstream.get i).pause ≠ none ∨ (s.upstream.get i).queue.length + 1 < q →
        exec (.slotRxEnd i .normal bytes) s = .next (bumpSlot i .upstreamAdmitted
          ((slotReceived s i).updUpstream i fun u => { u with queue := u.queue ++ [bytes] })))
      ∧ ((s.upstream.get i).queue.length + 1 = q → (s.upstream.get i).pause = none →
        (s.links.get i).state = .up → (s.links.get i).lost = false →
        ∃ t, exec (.slotRxEnd i .normal bytes) s = .next t
          ∧ t.upstream.get i = ⟨(s.upstream.get i).queue ++ [bytes], some (max 1 (s.agent.pauseTime / 2))⟩
          ∧ t.slotCount i .upstreamAdmitted = counterAdd (s.slotCount i .upstreamAdmitted) 1
          ∧ t.slotCount i .pauseSent = counterAdd (s.slotCount i .pauseSent) 1
          ∧ .pause s.agent.pauseTime ∈ (t.links.get i).control
          ∧ OthersStand i s t ∧ SlotCountsStand i [.upstreamAdmitted, .pauseSent] s t
          ∧ t = { s with upstream := t.upstream, links := t.links, slotCounters := t.slotCounters })
      ∧ (q ≤ (s.upstream.get i).queue.length →
        ∃ t, exec (.slotRxEnd i .normal bytes) s = .next t
          ∧ (t.upstream.get i).queue = (s.upstream.get i).queue
          ∧ (t.upstream.get i).pause ≠ none
          ∧ t.slotCount i .quotaDrop = counterAdd (s.slotCount i .quotaDrop) 1
          ∧ flagSet t i .quotaExceeded = true
          ∧ OthersStand i s t ∧ SlotCountsStand i [.quotaDrop, .pauseSent] s t
          ∧ t = { s with
              slots := t.slots, upstream := t.upstream, links := t.links, slotCounters := t.slotCounters
              agent := t.agent })

/-- R106: the effective quota is 4 while PROBING or STANDBY, and Q while IN_SERVICE, RETIRING, or ADMITTING at target 0;
ADMITTING above that it is the larger of 4 and floor(Q · held / target), and not above Q. -/
def Obligations.EffectiveQuotaFollowsTheSlotState : Prop :=
  ∀ s i, 8 ≤ (s.slots.get i).quota →
    ((s.slots.get i).state = .probing ∨ (s.slots.get i).state = .standby → effectiveQuota s i = some 4)
    ∧ ((s.slots.get i).state = .inService ∨ (∃ ph, (s.slots.get i).state = .retiring ph) →
      effectiveQuota s i = some (s.slots.get i).quota)
    ∧ ((s.slots.get i).state = .admitting → slotTarget s i = 0 →
      effectiveQuota s i = some (s.slots.get i).quota)
    ∧ ((s.slots.get i).state = .admitting → 0 < slotTarget s i → ∃ q, effectiveQuota s i = some q
      ∧ 4 ≤ q ∧ q ≤ (s.slots.get i).quota
      ∧ (slotHeld s i ≤ slotTarget s i → q = max 4 ((s.slots.get i).quota * slotHeld s i / slotTarget s i))
      ∧ (slotTarget s i ≤ slotHeld s i → q = (s.slots.get i).quota))

/-- R10, R11, R13, R127: in PROBING an intact echo, the 64 bytes of its probe, adds its number to the echo set; the eighth
stops the probe window, and where the beacons are qualified already it completes the qualification: STANDBY, or under
AUTO_ADMIT an admission to the slot's pool where that is enabled. Anything but an intact echo faults the slot with
PROBE_MISMATCH; outside PROBING an echo is only counted STRAY_CONTROL. -/
def Obligations.ProbeEchoesAreJudged : Prop :=
  ∀ s i bytes info, SlotFrame s i bytes info → info.kind = .linkCtrl → info.target = 3 →
    ((s.slots.get i).state ≠ .probing →
      exec (.slotRxEnd i .normal bytes) s = .next (bumpSlot i .strayControl (slotReceived s i)))
    ∧ (∀ n : Fin 8, (s.slots.get i).state = .probing →
      info.payload = BitVec.ofNat 8 n.val ::
        ((List.range 63).map fun k => BitVec.ofNat 8 (37 * (k + 1) + 16 * n.val + (i.val + 1))) →
      let r := s.slots.get i
      let echoes := r.echoes ||| 1#8 <<< n.val
      (echoes ≠ 0xFF#8 ∨ r.beaconsQualified = false →
        exec (.slotRxEnd i .normal bytes) s = .next ((slotReceived s i).updSlot i fun r =>
          { r with echoes := echoes, probeTimer := if echoes = 0xFF#8 then none else r.probeTimer }))
      ∧ (echoes = 0xFF#8 → r.beaconsQualified = true →
        r.autoAdmit = false ∨ (∀ p, r.pool = some p → (s.pools.get p).enabled = false) →
        ∃ t, exec (.slotRxEnd i .normal bytes) s = .next t
          ∧ (t.slots.get i).state = .standby ∧ (t.slots.get i).timersStopped ∧ (t.slots.get i).echoes = 0xFF#8
          ∧ flagSet t i .stateChanged = true ∧ SlotEventFrame i s t
          ∧ t = { s with slots := t.slots, links := t.links, agent := t.agent })
      ∧ (∀ p, BinLaws s → echoes = 0xFF#8 → r.beaconsQualified = true →
        r.autoAdmit = true → r.pool = some p → (s.pools.get p).enabled = true →
        ∃ t, exec (.slotRxEnd i .normal bytes) s = .next t ∧ Admitted i p s t ∧ SlotEventFrame i s t
          ∧ (t.slots.get i).echoes = 0xFF#8
          ∧ t = { s with slots := t.slots, pools := t.pools, links := t.links, agent := t.agent }))
    ∧ ((s.slots.get i).state = .probing →
      (∀ n : Fin 8, info.payload ≠ BitVec.ofNat 8 n.val ::
        ((List.range 63).map fun k => BitVec.ofNat 8 (37 * (k + 1) + 16 * n.val + (i.val + 1)))) →
      ∃ t, exec (.slotRxEnd i .normal bytes) s = .next t
        ∧ (t.slots.get i).state = .faulted ∧ (t.slots.get i).lastFault = some .probeMismatch
        ∧ (t.slots.get i).timersStopped ∧ (t.links.get i).state = .dark ∧ SlotEventFrame i s t)

/-- R10, R128, R141, R143, R146: a BEACON on an UP link is counted whatever the phase; it starts an interval in IDLE, ends
one and begins the next in COUNTING, its latch judged by the limits, and changes nothing else in FROZEN: in every slot state,
but that in PROBING with the beacons not yet qualified the beacon that takes the run from 3 to 4 qualifies them. A BEACON on a
PARKED link is discarded and not counted. -/
def Obligations.BeaconsMeasureIntervals : Prop :=
  (∀ s i bytes info, SlotFrame s i bytes info → info.kind = .linkCtrl → info.target = 1 →
    (s.links.get i).state = .parked → exec (.slotRxEnd i .normal bytes) s = .next (slotReceived s i))
  ∧ ∀ s i bytes info, SlotFrame s i bytes info → info.kind = .linkCtrl → info.target = 1 →
    (s.links.get i).state = .up →
    let m := s.monitors.get i
    let fourth := m.phase = .counting ∧ m.run = 3 ∧ m.runningCount ≠ 255
      ∧ m.lowLimit ≤ max 1 m.runningCount ∧ max 1 m.runningCount ≤ m.highLimit
    ((s.slots.get i).state = .probing → (s.slots.get i).beaconsQualified = false → ¬ fourth) →
    let t := bumpSlot i .beacons (slotReceived s i)
    (m.phase = .idle → exec (.slotRxEnd i .normal bytes) s = .next (t.updMonitor i fun m =>
      { m with phase := .counting, runningCount := 0, tickRemainder := 0 }))
    ∧ (m.phase = .frozen → exec (.slotRxEnd i .normal bytes) s = .next t)
    ∧ (m.phase = .counting → m.runningCount ≤ 255 →
      ∃ run, exec (.slotRxEnd i .normal bytes) s = .next (t.updMonitor i fun m =>
        { m with
          latchedCount := if m.runningCount = 0 then 1 else m.runningCount
          latchedSaturated := decide (m.runningCount = 255)
          run := run, runningCount := 0, tickRemainder := 0 })
      ∧ (m.runningCount ≠ 255 → m.lowLimit ≤ max 1 m.runningCount → max 1 m.runningCount ≤ m.highLimit →
        run = min 4 (m.run + 1))
      ∧ (m.runningCount = 255 ∨ max 1 m.runningCount < m.lowLimit ∨ m.highLimit < max 1 m.runningCount →
        run = 0))

/-- R10, R11, R13, R146: in PROBING, the beacon that completes a run of four qualifies the beacons, and with all eight echoes
recorded it completes the qualification: STANDBY with the timers stopped, or under AUTO_ADMIT an admission to the slot's pool
where that is enabled. -/
def Obligations.TheFourthIntervalQualifies : Prop :=
  ∀ s i bytes info, SlotFrame s i bytes info → info.kind = .linkCtrl → info.target = 1 →
    (s.links.get i).state = .up → (s.slots.get i).state = .probing →
    (s.slots.get i).beaconsQualified = false → (s.monitors.get i).phase = .counting →
    (s.monitors.get i).run = 3 → (s.monitors.get i).runningCount < 255 →
    (s.monitors.get i).lowLimit ≤ max 1 (s.monitors.get i).runningCount →
    max 1 (s.monitors.get i).runningCount ≤ (s.monitors.get i).highLimit →
    ∃ t, exec (.slotRxEnd i .normal bytes) s = .next t
      ∧ (t.slots.get i).beaconsQualified = true ∧ (t.slots.get i).qualifyTimer = none
      ∧ (t.monitors.get i).run = 4
      ∧ ((s.slots.get i).echoes ≠ 0xFF#8 → (t.slots.get i).state = .probing)
      ∧ (let stays := (s.slots.get i).autoAdmit = false
            ∨ ∀ p, (s.slots.get i).pool = some p → (s.pools.get p).enabled = false
        ((s.slots.get i).echoes = 0xFF#8 → stays →
          (t.slots.get i).state = .standby ∧ (t.slots.get i).timersStopped ∧ flagSet t i .stateChanged = true)
        ∧ ((s.slots.get i).echoes ≠ 0xFF#8 ∨ stays → SlotEventFrame i s t))
      ∧ (∀ p, BinLaws s → (s.slots.get i).echoes = 0xFF#8 → (s.slots.get i).autoAdmit = true →
        (s.slots.get i).pool = some p → (s.pools.get p).enabled = true →
        Admitted i p s t ∧ SlotEventFrame i s t)

/-- R19, R104, R129, R131: management frames from a blade are only counted MGMT_FROM_SLOT, and frames of a subcode the part
takes from no blade STRAY_CONTROL; a RETIRE_ACK drains a slot in phase CONFIRMING and is stray in any other state. (That a
control frame cut off as the link parks is not counted is the model's inference, log entry 20.) -/
def Obligations.BladeFramesWithNoConsumerAreOnlyCounted : Prop :=
  ∀ s i bytes info, SlotFrame s i bytes info →
    (info.kind = .mgmt →
      exec (.slotRxEnd i .normal bytes) s = .next (bumpSlot i .mgmtFromSlot (slotReceived s i)))
    ∧ (info.kind = .linkCtrl → info.target.toNat ∉ [1, 3, 6, 7] →
      exec (.slotRxEnd i .normal bytes) s = .next (bumpSlot i .strayControl (slotReceived s i)))
    ∧ (info.kind = .linkCtrl → info.target = 6 → (s.slots.get i).state ≠ .retiring .confirming →
      exec (.slotRxEnd i .normal bytes) s = .next (bumpSlot i .strayControl (slotReceived s i)))
    ∧ (info.kind = .linkCtrl → info.target = 6 → (s.slots.get i).state = .retiring .confirming →
      (s.links.get i).state = .up →
      ∃ t, exec (.slotRxEnd i .normal bytes) s = .next t
        ∧ (t.slots.get i).state = .drained ∧ (t.slots.get i).ackTimer = none
        ∧ flagSet t i .ackMissing = flagSet s i .ackMissing
        ∧ (t.links.get i).state = .parked ∧ (t.upstream.get i).queue = (s.upstream.get i).queue
        ∧ SlotEventFrame i s t
        ∧ t = { s with
            slots := t.slots, links := t.links, monitors := t.monitors, upstream := t.upstream, agent := t.agent })

/-- R130: a two-byte PAUSE on an UP link halts the part's data for its time or, at 0, clears the halt, and is counted; one on
a PARKED link is discarded; one of another length is stray, on a PARKED link too (log entry 9); and the expiry of the timer
clears the halt. (That the expiry is a command, taken whatever is left of the time, is the model's choice, log entries 1 and
4.) -/
def Obligations.RemotePauseHaltsTheLink : Prop :=
  (∀ s i bytes info, SlotFrame s i bytes info → info.kind = .linkCtrl → info.target = 7 →
    (∀ hi lo : Byte, info.payload = [hi, lo] → (s.links.get i).state = .up →
      exec (.slotRxEnd i .normal bytes) s = .next (bumpSlot i .remotePauses
        ((slotReceived s i).updLink i fun l =>
          { l with remotePause := if hi.toNat * 256 + lo.toNat = 0 then none
                                  else some (hi.toNat * 256 + lo.toNat) })))
    ∧ (info.payload.length = 2 → (s.links.get i).state = .parked →
      exec (.slotRxEnd i .normal bytes) s = .next (slotReceived s i))
    ∧ (info.payload.length ≠ 2 →
      exec (.slotRxEnd i .normal bytes) s = .next (bumpSlot i .strayControl (slotReceived s i))))
  ∧ (∀ s i, exec (.remotePauseExpiry i) s = .next (s.updLink i fun l => { l with remotePause := none }))

/-- R120, R123, R124, R126: the lock field follows the receiver of a link that is not DARK; its return stops the
lock-loss timer, its loss starts the timer in UP with lost no and in an attempt that had gained lock (the model's field
for that: log entry 10), and cuts off a reception in progress, counted RX_ABORTED, or NO_BUFFER for an unstored one. -/
def Obligations.LockFollowsTheReceiver : Prop :=
  (∀ s i, (s.links.get i).state = .dark →
    exec (.lockGained i) s = .next s ∧ ((s.links.get i).lock = false → exec (.lockLost i) s = .next s))
  ∧ (∀ s i, (s.links.get i).state = .training →
    exec (.lockGained i) s = .next (s.updLink i fun l =>
      { l with lock := true, lockedInAttempt := true, lockLossTimer := none }))
  ∧ (∀ s i, (s.links.get i).state = .up ∨ (s.links.get i).state = .parked →
    exec (.lockGained i) s = .next (s.updLink i fun l => { l with lock := true, lockLossTimer := none }))
  ∧ (∀ s i, (s.links.get i).lock = true → (s.links.get i).rx = none →
    ((s.links.get i).state = .training → (s.links.get i).attemptTimer ≠ none →
      (s.links.get i).lockedInAttempt = true →
      exec (.lockLost i) s = .next (s.updLink i fun l => { l with lock := false, lockLossTimer := some 1000 }))
    ∧ ((s.links.get i).state = .training → (s.links.get i).lockedInAttempt = false →
      exec (.lockLost i) s = .next (s.updLink i fun l => { l with lock := false }))
    ∧ ((s.links.get i).state = .up → (s.links.get i).lost = false →
      exec (.lockLost i) s = .next (s.updLink i fun l => { l with lock := false, lockLossTimer := some 1000 }))
    ∧ ((s.links.get i).state = .up → (s.links.get i).lost = true →
      exec (.lockLost i) s = .next (s.updLink i fun l => { l with lock := false }))
    ∧ ((s.links.get i).state = .parked →
      exec (.lockLost i) s = .next (s.updLink i fun l => { l with lock := false })))
  ∧ (∀ s i (stored : Bool), (s.links.get i).lock = true → (s.links.get i).rx = some stored →
    (s.links.get i).state = .parked ∨ (s.links.get i).state = .up →
    exec (.lockLost i) s = .next (bumpSlot i (if stored then .rxAborted else .noBuffer) (s.updLink i fun l =>
      { l with
        lock := false, rx := none
        lockLossTimer := if l.state = .up ∧ l.lost = false then some 1000 else l.lockLossTimer })))

/-- R4, R8, R9, R123, R140: an attempt in which lock has been gained and is held, and which succeeds, brings the link UP,
counted in LINK_UPS, tells its monitor, and takes a SEATED slot to PROBING, its progress cleared; with the class check passed
its monitor is cleared, both timers start, and eight PROBEs are asked for in ascending order; with the class check failed the
slot is FAULTED. A lock that stands from before the attempt brings nothing (the model's field for that: log entry 10). (That
a slot of the wrong class enters PROBING before FAULTED, and so has its progress cleared too, is the model's inference, log
entry 16.) -/
def Obligations.AttemptSuccessBeginsProbing : Prop :=
  (∀ s i, (s.links.get i).state = .training → (s.links.get i).lockedInAttempt = false →
    exec (.attemptSuccess i) s = .next s)
  ∧ ∀ s i, (s.links.get i).state = .training → (s.links.get i).attemptTimer ≠ none → (s.links.get i).lock = true →
    (s.links.get i).lockedInAttempt = true → (s.slots.get i).state = .seated →
    ∃ t, exec (.attemptSuccess i) s = .next t
      ∧ t.slotCount i .linkUps = counterAdd (s.slotCount i .linkUps) 1
      ∧ ((s.slots.get i).expectedClass = 0
          ∨ (s.slots.get i).expectedClass = (s.ports.get i).bladeClass.accepted.toNat →
        (t.slots.get i).state = .probing ∧ (t.slots.get i).echoes = 0
        ∧ (t.slots.get i).beaconsQualified = false ∧ (t.slots.get i).probeTimer = some 50
        ∧ (t.slots.get i).qualifyTimer = some s.agent.qualifyLimit
        ∧ (t.links.get i).state = .up ∧ (t.links.get i).lost = false ∧ (t.links.get i).attemptTimer = none
        ∧ (t.links.get i).train = (s.links.get i).train
        ∧ (t.links.get i).control = (s.links.get i).control ++ (List.finRange 8).map ControlFrame.probe
        ∧ (t.monitors.get i).linkRunning = true ∧ (t.monitors.get i).phase = .idle
        ∧ (t.monitors.get i).run = 0 ∧ (t.monitors.get i).latchedCount = 0
        ∧ SlotEventFrame i s t ∧ SlotCountsStand i [.linkUps] s t
        ∧ t = { s with
            slots := t.slots, links := t.links, monitors := t.monitors, slotCounters := t.slotCounters
            agent := t.agent })
      ∧ ((s.slots.get i).expectedClass ≠ 0 →
          (s.slots.get i).expectedClass ≠ (s.ports.get i).bladeClass.accepted.toNat →
        (t.slots.get i).state = .faulted ∧ (t.slots.get i).lastFault = some .classMismatch
        ∧ (t.slots.get i).echoes = 0 ∧ (t.slots.get i).beaconsQualified = false
        ∧ (t.slots.get i).timersStopped ∧ (t.links.get i).state = .dark ∧ SlotEventFrame i s t)

/-- R122, R123, R8: a failed attempt below the limit starts the next at once, at the rate of its number; the last one fails
the training, counted in TRAIN_FAILURES, and faults a SEATED slot with TRAIN_TIMEOUT. A lock lost for 1 ms in an attempt is
counted and fails it. (Log entries 4 and 10: an expiry is taken while its timer runs; lock gained in the attempt is a field
of the model. That a link leaving TRAINING keeps its lost field as it was is the model's inference, log entry 11.) -/
def Obligations.FailedAttemptsRetryOrFault : Prop :=
  ∀ s i tr, (s.links.get i).state = .training → (s.links.get i).attemptTimer ≠ none →
    (s.links.get i).train = some tr →
    (tr.attempt < tr.limit →
      let next : LinkRecord → LinkRecord := fun l =>
        { l with
          state := .training, attemptTimer := some 50, lockLossTimer := none, lockedInAttempt := false
          train := some ⟨match tr.mode with
            | .full => .full
            | .half => .half
            | .auto => if (tr.attempt + 1) % 2 = 1 then .full else .half,
            tr.attempt + 1, tr.limit, tr.mode⟩ }
      exec (.attemptTimerExpiry i) s = .next (s.updLink i next)
      ∧ ((s.links.get i).lockLossTimer ≠ none →
        exec (.trainingLockLoss i) s = .next ((bumpSlot i .lockLosses s).updLink i next)))
    ∧ (∀ c losses, tr.limit ≤ tr.attempt → (s.slots.get i).state = .seated → (s.links.get i).tx = none →
      c = .attemptTimerExpiry i ∧ losses = 0
        ∨ c = .trainingLockLoss i ∧ losses = 1 ∧ (s.links.get i).lockLossTimer ≠ none →
      ∃ t, exec c s = .next t
        ∧ t.slotCount i .lockLosses = counterAdd (s.slotCount i .lockLosses) losses
        ∧ (t.slots.get i).state = .faulted ∧ (t.slots.get i).lastFault = some .trainTimeout
        ∧ t.slotCount i .trainFailures = counterAdd (s.slotCount i .trainFailures) 1
        ∧ flagSet t i .fault = true ∧ flagSet t i .stateChanged = true ∧ SlotEventFrame i s t
        ∧ t.links.get i = { s.links.get i with
            state := .dark, train := none, lock := false, lockedInAttempt := false, attemptTimer := none
            lockLossTimer := none })

/-- R25, R124, R140: a link without lock for 1 ms stops carrying frames; the loss is counted, the monitor stops, the local
pause is cleared, and lifecycle takes the slot to FAULTED with LINK_LOST, or from phase CONFIRMING to DRAINED, or leaves it
as it is. (That the expiry is taken as a command while its timer runs, whatever is left of it, is the model's choice, log
entry 4.) -/
def Obligations.LockLossIsReportedByState : Prop :=
  ∀ s i, (s.links.get i).state = .up → (s.links.get i).lost = false → (s.links.get i).lockLossTimer ≠ none →
    ∃ t, exec (.lockLossExpiry i) s = .next t
      ∧ t.slotCount i .lockLosses = counterAdd (s.slotCount i .lockLosses) 1
      ∧ (t.monitors.get i).linkRunning = false ∧ (t.upstream.get i).pause = none ∧ SlotEventFrame i s t
      ∧ ((s.slots.get i).state ∈ [.admitting, .inService, .retiring .moving, .probing, .standby] →
        (t.slots.get i).state = .faulted ∧ (t.slots.get i).lastFault = some .linkLost
        ∧ (t.slots.get i).timersStopped ∧ (t.links.get i).state = .dark ∧ (t.upstream.get i).queue = [])
      ∧ ((s.slots.get i).state = .retiring .confirming →
        (t.slots.get i).state = .drained ∧ (t.links.get i).state = .parked
        ∧ flagSet t i .ackMissing = flagSet s i .ackMissing)
      ∧ ((s.slots.get i).state ∈ [.seated, .empty, .drained, .faulted, .fenced] →
        t.slots = s.slots ∧ (t.links.get i).state = .up ∧ (t.links.get i).lost = true
        ∧ (t.links.get i).remotePause = (s.links.get i).remotePause
        ∧ (t.links.get i).control = (s.links.get i).control)

/-- R94, R132, R133, R134: a ready link sends its control list's head, built as it is sent; otherwise, unless the blade
has halted it, the head of the egress queue, which stays there; otherwise nothing. The end of a control frame is counted
in CONTROL_SENT. (That a PAUSE is sent with the time it was asked for with, whatever the pause time has become, is the model's
inference, log entry 40.) -/
def Obligations.SlotLinksSendControlFramesFirst : Prop :=
  (∀ s i, (s.links.get i).state = .up → (s.links.get i).lost = false → (s.links.get i).lock = true →
    (s.links.get i).tx = none →
    (∀ f rest, (s.links.get i).control = f :: rest →
      exec (.slotTxStart i) s = .next (s.updLink i fun l =>
        { l with
          control := rest
          tx := some (.control (match f with
            | .probe n => builtFrame .linkCtrl 2 (BitVec.ofNat 8 n.val ::
                (List.range 63).map fun k => BitVec.ofNat 8 (37 * (k + 1) + 16 * n.val + (i.val + 1)))
            | .admitNotice => builtFrame .linkCtrl 4
                [match (s.slots.get i).pool with
                  | some p => BitVec.ofNat 8 p.val
                  | none => 0xFF, BitVec.ofNat 8 (s.slots.get i).weight]
            | .retireNotice => builtFrame .linkCtrl 5 []
            | .pause time => builtFrame .linkCtrl 7 (bytes16 (BitVec.ofNat 16 time)))) }))
    ∧ ((s.links.get i).control = [] → (s.links.get i).remotePause = none → s.egress.get i ≠ [] →
      exec (.slotTxStart i) s = .next (s.updLink i fun l => { l with tx := some .data }))
    ∧ ((s.links.get i).control = [] → (s.links.get i).remotePause ≠ none ∨ s.egress.get i = [] →
      exec (.slotTxStart i) s = .next s))
  ∧ (∀ s i bytes, (s.links.get i).tx = some (.control bytes) →
    exec (.controlTxEnd i) s = .next (bumpSlot i .controlSent (s.updLink i fun l => { l with tx := none })))

/-- R18, R40, R67, R94: at a data frame's end the head leaves its egress queue, counted DELIVERED, and a steered frame's
bin loses one from its in-flight count. Where that ends no drain (the bin is in no move, or in one that is SETTLING or still
has frames to wait for) nothing else changes, but that a slot RETIRING in phase MOVING with nothing left, no bin, no move and
no frame, enters CONFIRMING, with RETIRE_NOTICE asked of its link. -/
def Obligations.EgressTransmissionEndsAreDelivered : Prop :=
  ∀ s i entry rest, s.egress.get i = entry :: rest → (s.links.get i).tx = some .data →
    let t := bumpSlot i .delivered ((s.updLink i fun l => { l with tx := none }).setEgress i rest)
    let stays := (s.slots.get i).state ≠ .retiring .moving ∨ rest ≠ [] ∨ slotHeld s i ≠ 0 ∨ inActiveMove s i = true
    let drains := ∃ p b e m, entry.steered = some (p, b) ∧ ((s.pools.get p).bins.get b).engine = some e
      ∧ s.engines.get e = some m ∧ m.phase = .draining ∧ ((s.pools.get p).bins.get b).inflight ≤ 1
    (stays → entry.steered = none → exec (.egressTxEnd i) s = .next t)
    ∧ (∀ p b, stays → ¬ drains → entry.steered = some (p, b) →
      exec (.egressTxEnd i) s = .next (t.updBin p b fun r => { r with inflight := r.inflight - 1 }))
    ∧ (¬ stays → ¬ drains →
      ∃ u, exec (.egressTxEnd i) s = .next u ∧ (u.slots.get i).state = .retiring .confirming
        ∧ (u.slots.get i).deadlineTimer = none ∧ (u.slots.get i).ackTimer = some s.agent.ackTimeout
        ∧ ((s.links.get i).state = .up → (s.links.get i).lost = false → .retireNotice ∈ (u.links.get i).control)
        ∧ u.egress.get i = [] ∧ u.slotCount i .delivered = counterAdd (s.slotCount i .delivered) 1
        ∧ (∀ p b, entry.steered = some (p, b) → u.pools.get p = { s.pools.get p with
            bins := (s.pools.get p).bins.modify b fun r => { r with inflight := r.inflight - 1 } })
        ∧ (entry.steered = none → u.pools = s.pools)
        ∧ (∀ j, j ≠ i → u.slots.get j = s.slots.get j) ∧ SlotEventFrame i s u)

/-- R67, R69: the last in-flight decrement ends a drain: with a settle time the engine enters SETTLING with that timer;
with none the move commits. -/
def Obligations.TheLastDecrementEndsTheDrain : Prop :=
  ∀ s i bytes rest e m, s.egress.get i = ⟨bytes, some (m.pool, m.bin)⟩ :: rest → (s.links.get i).tx = some .data →
    s.engines.get e = some m → m.phase = .draining →
    ((s.pools.get m.pool).bins.get m.bin).engine = some e →
    ((s.pools.get m.pool).bins.get m.bin).inflight = 1 →
    ∃ t, exec (.egressTxEnd i) s = .next t ∧ SlotEventFrame i s t
      ∧ (0 < m.settleTime → t.engines.get e = some { m with phase := .settling, timer := m.settleTime }
        ∧ ((t.pools.get m.pool).bins.get m.bin).inflight = 0
        ∧ ((t.pools.get m.pool).bins.get m.bin).owner = ((s.pools.get m.pool).bins.get m.bin).owner)
      ∧ (m.settleTime = 0 → t.engines.get e = none
        ∧ ((t.pools.get m.pool).bins.get m.bin).owner = .owned m.destination
        ∧ t.poolCount m.pool .movesDone = counterAdd (s.poolCount m.pool .movesDone) 1)

/-- R112, R113: the Core Transmit Arbiter chooses the transmit queue's head first, and otherwise the first non-empty
upstream queue after its pointer, which becomes that slot; the frame is sent as rewritten for that slot. -/
def Obligations.TheCoreArbiterGoesRound : Prop :=
  ∀ s, s.core.tx = .idle →
    (∀ payload rest, s.agent.transmit = payload :: rest →
      exec .coreArbiterChoice s
        = .next { s with core := { s.core with tx := .mgmt (builtFrame .mgmt 0 payload) } })
    ∧ (s.agent.transmit = [] → ∀ (k : Fin 12) (bytes : FrameBytes) (rest : List FrameBytes),
      (s.upstream.get (s.core.pointer + 1 + k)).queue = bytes :: rest →
      (∀ j : Fin 12, j < k → (s.upstream.get (s.core.pointer + 1 + j)).queue = []) →
      exec .coreArbiterChoice s = .next { s with core := { s.core with
        tx := .upstream (s.core.pointer + 1 + k) (resourced (s.core.pointer + 1 + k) bytes)
        pointer := s.core.pointer + 1 + k } })
    ∧ (s.agent.transmit = [] → (∀ j, (s.upstream.get j).queue = []) → exec .coreArbiterChoice s = .next s)

/-- R19, R109, R110, R113, R185: the end of an upstream frame takes the head from its queue and counts UPSTREAM_SENT, and a
paused slot at or below its resume mark resumes, while one that is CLEAR with its queue at its quota or above is paused;
outside the accepting states (a DRAINED slot's queue is sent on) no pause is evaluated (log entry 8). The end of a management
frame takes the head of the transmit queue and counts a notice, code 80 hex, or a response. (By the code, as R185 has it, also
for a BAD_REQUEST response that carries code 80 hex back: the model's choice, log entry 38. That a PAUSE asked for keeps the T
of that moment until it is sent is its inference, log entry 40.) -/
def Obligations.CoreTransmissionEndsLeaveTheirQueue : Prop :=
  (∀ s i bytes q, s.core.tx = .upstream i bytes → effectiveQuota s i = some q →
    let t := bumpSlot i .upstreamSent
      ({ s with core := { s.core with tx := .idle } }.updUpstream i fun u => { u with queue := u.queue.tail })
    ((s.upstream.get i).pause = none → (s.upstream.get i).queue.tail.length < q →
      exec .upstreamTxEnd s = .next t)
    ∧ ((s.upstream.get i).pause ≠ none → q / 2 < (s.upstream.get i).queue.tail.length →
      exec .upstreamTxEnd s = .next t)
    ∧ ((s.upstream.get i).pause ≠ none → (s.upstream.get i).queue.tail.length ≤ q / 2 →
      (s.links.get i).state = .up → (s.links.get i).lost = false →
      ∃ u, exec .upstreamTxEnd s = .next u ∧ u.upstream.get i = ⟨(s.upstream.get i).queue.tail, none⟩
        ∧ ControlFrame.pause 0 ∈ (u.links.get i).control
        ∧ u.slotCount i .pauseSent = counterAdd (s.slotCount i .pauseSent) 1
        ∧ u.slotCount i .upstreamSent = counterAdd (s.slotCount i .upstreamSent) 1
        ∧ OthersStand i s u ∧ SlotCountsStand i [.upstreamSent, .pauseSent] s u
        ∧ u = { s with
            core := { s.core with tx := .idle }, upstream := u.upstream, links := u.links
            slotCounters := u.slotCounters })
    ∧ ((s.upstream.get i).pause = none → q ≤ (s.upstream.get i).queue.tail.length →
      (s.links.get i).state = .up → (s.links.get i).lost = false →
      ∃ u, exec .upstreamTxEnd s = .next u
        ∧ u.upstream.get i = ⟨(s.upstream.get i).queue.tail, some (max 1 (s.agent.pauseTime / 2))⟩
        ∧ ControlFrame.pause s.agent.pauseTime ∈ (u.links.get i).control
        ∧ u.slotCount i .pauseSent = counterAdd (s.slotCount i .pauseSent) 1
        ∧ u.slotCount i .upstreamSent = counterAdd (s.slotCount i .upstreamSent) 1
        ∧ OthersStand i s u ∧ SlotCountsStand i [.upstreamSent, .pauseSent] s u
        ∧ u = { s with
            core := { s.core with tx := .idle }, upstream := u.upstream, links := u.links
            slotCounters := u.slotCounters }))
  ∧ (∀ s i bytes, s.core.tx = .upstream i bytes → effectiveQuota s i = none →
    exec .upstreamTxEnd s = .next (bumpSlot i .upstreamSent
      ({ s with core := { s.core with tx := .idle } }.updUpstream i fun u => { u with queue := u.queue.tail })))
  ∧ (∀ s bytes payload rest, s.core.tx = .mgmt bytes → s.agent.transmit = payload :: rest →
    let t := { s with
      core := { s.core with tx := .idle }
      agent := { s.agent with transmit := rest } }
    (payload[1]? = some 0x80 → exec .mgmtTxEnd s = .next (bumpAgent .noticesSent t))
    ∧ (payload[1]? ≠ some 0x80 → exec .mgmtTxEnd s = .next (bumpAgent .responsesSent t)))

/-- R108, R110: at a refresh expiry the part sends PAUSE(T) again, with T as it now stands and the timer restarted at half of
it, while the queue is above the resume mark, and otherwise PAUSE(0), the state becoming CLEAR. (That the PAUSE asked for
keeps the T of that moment until it is sent is the model's inference, log entry 40. That the expiry is taken as a command
while its timer runs, whatever is left of it, is its choice, log entry 4.) -/
def Obligations.RefreshExpiryRepeatsOrEndsThePause : Prop :=
  ∀ s i q, (s.upstream.get i).pause ≠ none → effectiveQuota s i = some q →
    (s.links.get i).state = .up → (s.links.get i).lost = false →
    ∃ t, exec (.refreshTimerExpiry i) s = .next t
      ∧ (t.upstream.get i).queue = (s.upstream.get i).queue
      ∧ t.slotCount i .pauseSent = counterAdd (s.slotCount i .pauseSent) 1
      ∧ (q / 2 < (s.upstream.get i).queue.length →
        (t.upstream.get i).pause = some (max 1 (s.agent.pauseTime / 2))
        ∧ .pause s.agent.pauseTime ∈ (t.links.get i).control)
      ∧ ((s.upstream.get i).queue.length ≤ q / 2 →
        (t.upstream.get i).pause = none ∧ .pause 0 ∈ (t.links.get i).control)
      ∧ OthersStand i s t ∧ SlotCountsStand i [.pauseSent] s t
      ∧ t = { s with upstream := t.upstream, links := t.links, slotCounters := t.slotCounters }

/-- R113, R134, R199: a frame the part builds passes the frame checks with source FF hex and flow key 0, and an upstream
frame rewritten for the core link passes them with its kind, target, flow key and payload unchanged and the slot's number
as its source. -/
def Obligations.SentFramesPassTheFrameChecks : Prop :=
  (∀ kind target payload, payload.length ≤ 2034 →
    checkFrame (builtFrame kind target payload) = .ok ⟨kind, target, 0, payload⟩
      ∧ (builtFrame kind target payload)[2]? = some 0xFF)
  ∧ (∀ i bytes info, checkFrame bytes = .ok info →
    checkFrame (resourced i bytes) = .ok info ∧ (resourced i bytes)[2]? = some (BitVec.ofNat 8 (i.val + 1)))

/-- R11: in PROBING, the expiry of the probe window faults the slot with PROBE_TIMEOUT and that of the qualify timer with
BEACON_UNQUALIFIED; both timers stop, the link goes dark and the queues are emptied. (That an expiry is taken as a command
while its timer runs, whatever is left of it, is the model's choice, log entry 4.) -/
def Obligations.ProbingExpiriesFaultTheSlot : Prop :=
  ∀ s i, MoveLaw s → (s.slots.get i).state = .probing →
    ((s.slots.get i).probeTimer ≠ none → ∃ t, exec (.probeWindowExpiry i) s = .next t
      ∧ (t.slots.get i).state = .faulted ∧ (t.slots.get i).lastFault = some .probeTimeout
      ∧ (t.slots.get i).timersStopped ∧ flagSet t i .fault = true ∧ (t.links.get i).state = .dark
      ∧ t.egress.get i = [] ∧ (t.upstream.get i).queue = [] ∧ SlotEventFrame i s t)
    ∧ ((s.slots.get i).qualifyTimer ≠ none → ∃ t, exec (.qualifyTimerExpiry i) s = .next t
      ∧ (t.slots.get i).state = .faulted ∧ (t.slots.get i).lastFault = some .beaconUnqualified
      ∧ (t.slots.get i).timersStopped ∧ flagSet t i .fault = true ∧ (t.links.get i).state = .dark
      ∧ t.egress.get i = [] ∧ (t.upstream.get i).queue = [] ∧ SlotEventFrame i s t)

/-- R18, R19, R20, R50: at the deadline, without FORCE_ON_DEADLINE, DEADLINE_PASSED is raised and the slot stays in MOVING;
with it, the slot is evacuated, its egress queue flushed, counted FLUSHED, and it enters CONFIRMING, RETIRE_NOTICE asked for
and its upstream queue left as it was: no bin and no move stays with it, and each bin it owned goes to an eligible member, or
is UNOWNED where there is none. The acknowledgment timer takes a slot in phase CONFIRMING to DRAINED, with ACK_MISSING raised
and an UP link parked. (That an expiry is taken as a command while its timer runs, whatever is left of it, is the model's
choice, log entry 4; that a control frame cut off as the link parks is not counted is its inference, log entry 20.) -/
def Obligations.RetirementTimersExpire : Prop :=
  (∀ s i, (s.slots.get i).state = .retiring .moving → (s.slots.get i).deadlineTimer ≠ none →
    ((s.slots.get i).forceOnDeadline = false →
      ∃ t, exec (.deadlineExpiry i) s = .next t ∧ flagSet t i .deadlinePassed = true
        ∧ (t.slots.get i).state = .retiring .moving ∧ (t.slots.get i).deadlineTimer = none
        ∧ SlotEventFrame i s t
        ∧ t = { s with slots := t.slots, agent := t.agent })
    ∧ (MoveLaw s → (s.slots.get i).forceOnDeadline = true → slotHeld s i = 0 → inActiveMove s i = false →
      ∃ t, exec (.deadlineExpiry i) s = .next t ∧ (t.slots.get i).state = .retiring .confirming
        ∧ (t.slots.get i).ackTimer = some s.agent.ackTimeout ∧ (t.slots.get i).deadlineTimer = none
        ∧ ((s.links.get i).state = .up → (s.links.get i).lost = false → .retireNotice ∈ (t.links.get i).control)
        ∧ t.egress.get i = [] ∧ (t.upstream.get i).queue = (s.upstream.get i).queue
        ∧ t.slotCount i .flushed = counterAdd (s.slotCount i .flushed) (s.egress.get i).length
        ∧ flagSet t i .deadlinePassed = flagSet s i .deadlinePassed ∧ SlotEventFrame i s t)
    ∧ (∀ p, BinLaws s → (s.slots.get i).forceOnDeadline = true → (s.slots.get i).pool = some p →
      ∃ t, exec (.deadlineExpiry i) s = .next t ∧ (t.slots.get i).state = .retiring .confirming
        ∧ (t.slots.get i).ackTimer = some s.agent.ackTimeout ∧ (t.slots.get i).deadlineTimer = none
        ∧ ((s.links.get i).state = .up → (s.links.get i).lost = false → .retireNotice ∈ (t.links.get i).control)
        ∧ t.egress.get i = [] ∧ (t.upstream.get i).queue = (s.upstream.get i).queue
        ∧ t.slotCount i .flushed = counterAdd (s.slotCount i .flushed) (s.egress.get i).length
        ∧ flagSet t i .deadlinePassed = flagSet s i .deadlinePassed ∧ SlotEventFrame i s t
        ∧ inActiveMove t i = false ∧ (∀ q b, ((t.pools.get q).bins.get b).owner ≠ .owned i)
        ∧ (∀ b, ((s.pools.get p).bins.get b).owner = .owned i →
          (isDark s p = true → ((t.pools.get p).bins.get b).owner = .unowned)
          ∧ (isDark s p = false → ∃ j, isEligible s p j = true
            ∧ ((t.pools.get p).bins.get b).owner = .owned j))))
  ∧ (∀ s i, (s.slots.get i).state = .retiring .confirming → (s.slots.get i).ackTimer ≠ none →
    (s.links.get i).state = .up →
    ∃ t, exec (.acknowledgmentExpiry i) s = .next t ∧ (t.slots.get i).state = .drained
      ∧ flagSet t i .ackMissing = true ∧ (t.slots.get i).timersStopped ∧ (t.links.get i).state = .parked
      ∧ (t.upstream.get i).queue = (s.upstream.get i).queue
      ∧ (∀ j, j ≠ i → t.slots.get j = s.slots.get j) ∧ SlotEventFrame i s t
      ∧ t = { s with
          slots := t.slots, links := t.links, monitors := t.monitors, upstream := t.upstream, agent := t.agent })

/-- R54, R55, R68, R69, R71: a settle timer's expiry commits its move and a drain timer's commits it forced: the
destination owns the bin, the held frames join its egress queue head first as far as there is room, the engine is IDLE,
and no other bin that has an owner changes. A ramp timer stops; an adoption timer closes the window, no STALE bin remains,
owned bins keep their owners, and an enabled pool that is not dark has no UNOWNED bin. (That an expiry is taken as a
command while its timer runs, whatever is left of it, and that one of a stopped timer changes nothing, are the model's
choices, log entries 1 and 4.) -/
def Obligations.MoveAndPoolTimersExpire : Prop :=
  (∀ s e m, s.engines.get e = some m →
    ∃ t, (m.phase = .settling → exec (.settleTimerExpiry e) s = .next t
        ∧ t.poolCount m.pool .forcedCommits = s.poolCount m.pool .forcedCommits)
      ∧ (m.phase = .draining → exec (.drainTimerExpiry e) s = .next t
        ∧ t.poolCount m.pool .forcedCommits = counterAdd (s.poolCount m.pool .forcedCommits) 1)
      ∧ t.engines.get e = none ∧ (∀ e', e' ≠ e → t.engines.get e' = s.engines.get e')
      ∧ ((t.pools.get m.pool).bins.get m.bin).owner = .owned m.destination
      ∧ ((t.pools.get m.pool).bins.get m.bin).engine = none
      ∧ (∀ b, b ≠ m.bin → ((s.pools.get m.pool).bins.get b).owner ≠ .unowned →
        (t.pools.get m.pool).bins.get b = (s.pools.get m.pool).bins.get b)
      ∧ (∀ p, p ≠ m.pool → t.pools.get p = s.pools.get p)
      ∧ t.egress.get m.destination = s.egress.get m.destination
          ++ (m.hold.map fun f => EgressEntry.mk f (some (m.pool, m.bin))).take
              (256 - (s.egress.get m.destination).length)
      ∧ (∀ i, i ≠ m.destination → t.egress.get i = s.egress.get i)
      ∧ t.poolCount m.pool .movesDone = counterAdd (s.poolCount m.pool .movesDone) 1
      ∧ MembershipFollows s t ∧ SlotCountsStand m.destination [.egressFull] s t
      ∧ t = { s with
          slots := t.slots, pools := t.pools, engines := t.engines, egress := t.egress, links := t.links
          slotCounters := t.slotCounters, agent := t.agent })
  ∧ (∀ s p, exec (.rampTimerExpiry p) s = .next (s.updPool p fun r => { r with rampTimer := none }))
  ∧ (∀ s p, windowOpen s p = true →
    ∃ t, exec (.adoptionTimerExpiry p) s = .next t ∧ windowOpen t p = false
      ∧ (∀ b i, ((t.pools.get p).bins.get b).owner ≠ .stale i
        ∧ (((s.pools.get p).bins.get b).owner = .owned i →
          (t.pools.get p).bins.get b = (s.pools.get p).bins.get b))
      ∧ (BinLaws s → (s.pools.get p).enabled = true → isDark s p = false →
        ∀ b, ((t.pools.get p).bins.get b).owner ≠ .unowned)
      ∧ (∀ q, q ≠ p → t.pools.get q = s.pools.get q) ∧ MembershipFollows s t
      ∧ t = { s with slots := t.slots, pools := t.pools, links := t.links, agent := t.agent })

/-- R55, R56, R57, R65: the lowest-numbered IDLE engine is granted to the first pool after the pointer that wants one (it
is enabled, its plan is not empty, its ramp timer is stopped, it has fewer moves than its width): the plan's head starts,
the pointer moves, the ramp timer restarts, and the engine drains, settles, or commits at once. With no IDLE engine, or no
pool that wants one, nothing happens. -/
def Obligations.TheEngineArbiterGrantsAPlansHead : Prop :=
  ∀ s : State,
    let wants : PoolIx → Prop := fun q =>
      (s.pools.get q).enabled = true ∧ (s.pools.get q).plan ≠ [] ∧ (s.pools.get q).rampTimer = none
        ∧ activeMoves s q < (s.pools.get q).width
    ((∀ e, s.engines.get e ≠ none) ∨ (∀ q, ¬ wants q) → exec .engineGrant s = .next s)
    ∧ (∀ (e : EngineIx) (k p : PoolIx) entry rest,
      s.engines.get e = none → (∀ e', e' < e → s.engines.get e' ≠ none) →
      p = s.arbiter + 1 + k → wants p → (∀ j, j < k → ¬ wants (s.arbiter + 1 + j)) →
      (s.pools.get p).plan = entry :: rest →
      let r := s.pools.get p
      let n := (r.bins.get entry.bin).inflight
      ∃ t, exec .engineGrant s = .next t ∧ t.arbiter = p
        ∧ (t.pools.get p).rampTimer = some r.rampInterval
        ∧ (0 < n ∨ 0 < r.settleTime →
          t.engines.get e = some ⟨p, entry.bin, entry.source, entry.destination, r.drainLimit, r.settleTime,
              if 0 < n then .draining else .settling, if 0 < n then r.drainLimit else r.settleTime, []⟩
          ∧ (t.pools.get p).plan = rest
          ∧ (t.pools.get p).bins.get entry.bin = { r.bins.get entry.bin with engine := some e }
          ∧ (∀ b, b ≠ entry.bin → (t.pools.get p).bins.get b = r.bins.get b)
          ∧ (∀ q, q ≠ p → t.pools.get q = s.pools.get q) ∧ (∀ e', e' ≠ e → t.engines.get e' = s.engines.get e')
          ∧ t = { s with pools := t.pools, engines := t.engines, arbiter := p })
        ∧ (n = 0 → r.settleTime = 0 →
          t.engines.get e = none ∧ ((t.pools.get p).bins.get entry.bin).owner = .owned entry.destination
          ∧ ((t.pools.get p).bins.get entry.bin).engine = none
          ∧ t.poolCount p .movesDone = counterAdd (s.poolCount p .movesDone) 1
          ∧ (∀ q, q ≠ p → t.pools.get q = s.pools.get q) ∧ (∀ e', e' ≠ e → t.engines.get e' = s.engines.get e')
          ∧ MembershipFollows s t
          ∧ t = { s with
              slots := t.slots, pools := t.pools, engines := t.engines, arbiter := p, links := t.links
              agent := t.agent }))

/-- R155–R160: the end of a read cycle. A good read (acknowledged, check byte the complement) counts SCAN_GOOD, clears the
no-response count and takes the word's presence, power, handle and class into the debounce of its slot; any other counts
SCAN_FAILED, raises the count to at most 8, and at 8 raises SCAN_NO_RESPONSE. After a rotation cycle the next is a waiting
single read, or in SCAN mode one of the lowest address of the range above the one read, or of its first. A single read's
cycle leaves the rotation pointer as it is, and in SCAN mode the rotation goes on from there. The cycle begun takes the mode,
divisor and preamble that stand. -/
def Obligations.ReadCyclesEndWithASampleAndAChoice : Prop :=
  ∀ s c (ack : Bool) word check, s.scanner.cycle = some c →
    let q := s.ports.get c.address
    let d := s.scanner.debounce
    ∃ t, exec (.readCycleEnd ack word check) s = .next t
      ∧ (∀ i, i ≠ c.address → t.ports.get i = s.ports.get i)
      ∧ OthersStand c.address s t ∧ SettingsStand c.address s t
      ∧ (ack = true → check = ~~~word →
        t.ports.get c.address
          = ⟨q.presence.judge d (word.getLsbD 7), q.power.judge d (word.getLsbD 6), q.handle.judge d (word.getLsbD 5),
            q.bladeClass.judge d (word.setWidth 4), 0⟩
        ∧ t.slotCount c.address .scanGood = counterAdd (s.slotCount c.address .scanGood) 1)
      ∧ (ack = false ∨ check ≠ ~~~word →
        t.ports.get c.address = { q with noResponse := min 8 (q.noResponse + 1) }
        ∧ t.slotCount c.address .scanFailed = counterAdd (s.slotCount c.address .scanFailed) 1
        ∧ (q.noResponse < 7 → t.slots = s.slots)
        ∧ (7 ≤ q.noResponse → flagSet t c.address .scanNoResponse = true)
        ∧ (∀ i, (t.slots.get i).state = (s.slots.get i).state))
      ∧ (c.isSingle = false → t.scanner.pointer = some c.address)
      ∧ (c.isSingle = false → s.scanner.waitingRead = none →
        (s.scanner.mode ≠ .scan → t.scanner.cycle = none)
        ∧ (s.scanner.mode = .scan → s.scanner.lastAddress ≤ c.address → t.scanner.cycle
            = some ⟨s.scanner.firstAddress, false, .scan, s.scanner.divisor,
                s.scanner.preamble || s.scanner.forcedPreamble⟩)
        ∧ (∀ a : SlotIx, s.scanner.mode = .scan → s.scanner.firstAddress ≤ a → a ≤ s.scanner.lastAddress →
            c.address < a → (∀ a', s.scanner.firstAddress ≤ a' → c.address < a' → a ≤ a') →
            t.scanner.cycle = some ⟨a, false, .scan, s.scanner.divisor, s.scanner.preamble || s.scanner.forcedPreamble⟩))
      ∧ (∀ i, c.isSingle = false → s.scanner.waitingRead = some i → t.scanner.cycle
            = some ⟨i, true, s.scanner.mode, s.scanner.divisor, s.scanner.preamble || s.scanner.forcedPreamble⟩)
      ∧ (∀ tag, c.isSingle = true → s.scanner.pendingRead = some ⟨c.address, tag, none⟩ →
        t.scanner.pointer = s.scanner.pointer
        ∧ (s.scanner.mode ≠ .scan → t.scanner.cycle = none)
        ∧ (s.scanner.mode = .scan → ∃ a, RotationNext s.scanner a ∧ t.scanner.cycle
            = some ⟨a, false, .scan, s.scanner.divisor, s.scanner.preamble || s.scanner.forcedPreamble⟩))

/-- R8, R17, R22–R24, R27: what an accepted change does to its slot: presence and power together seat an EMPTY slot and train
its link; lost presence empties any slot, with SURPRISE_REMOVAL where it was admitted, in service or moving, and leaves it no
bin, no move and no queued frame; lost power faults it with POWER_LOST; an opened handle raises HANDLE_OPENED and under
AUTO_RETIRE retires an eligible slot, with its bins, raising LAST_MEMBER for a last member; a closed one raises HANDLE_CLOSED
and probes a DRAINED slot. A read that changes none of the three changes no slot. -/
def Obligations.AcceptedChangesMoveTheSlot : Prop :=
  ∀ s c word i, s.scanner.cycle = some c → c.address = i →
    let d := s.scanner.debounce
    let q := s.ports.get i
    let presence := (q.presence.judge d (word.getLsbD 7)).accepted
    let power := (q.power.judge d (word.getLsbD 6)).accepted
    let handle := (q.handle.judge d (word.getLsbD 5)).accepted
    let before := (s.slots.get i).state
    ∃ t, exec (.readCycleEnd true word (~~~word)) s = .next t
      ∧ (presence = q.presence.accepted → power = q.power.accepted → handle = q.handle.accepted → t.slots = s.slots)
      ∧ (before = .empty → presence = true → power = true →
          (q.presence.accepted = false ∨ q.power.accepted = false) →
        (t.slots.get i).state = .seated ∧ (t.links.get i).state = .training
        ∧ (t.links.get i).attemptTimer = some 50
        ∧ (handle = false → flagSet t i .handleOpened = true))
      ∧ (before ≠ .empty → q.presence.accepted = true → presence = false →
        (t.slots.get i).state = .empty ∧ (t.slots.get i).timersStopped
        ∧ (before ∈ [.admitting, .inService, .retiring .moving] → flagSet t i .surpriseRemoval = true)
        ∧ (BinLaws s → t.egress.get i = [] ∧ (t.upstream.get i).queue = [] ∧ inActiveMove t i = false
          ∧ ∀ p b, ((t.pools.get p).bins.get b).owner ≠ .owned i))
      ∧ (before ≠ .empty → presence = q.presence.accepted → q.power.accepted = true → power = false →
        (t.slots.get i).state = .faulted ∧ (t.slots.get i).lastFault = some .powerLost
        ∧ (t.links.get i).state = .dark ∧ flagSet t i .fault = true
        ∧ (BinLaws s → t.egress.get i = [] ∧ (t.upstream.get i).queue = [] ∧ inActiveMove t i = false
          ∧ ∀ p b, ((t.pools.get p).bins.get b).owner ≠ .owned i))
      ∧ (presence = q.presence.accepted → power = q.power.accepted → q.handle.accepted = true → handle = false →
          before ≠ .empty →
        flagSet t i .handleOpened = true
        ∧ (before.eligible = false ∨ (s.slots.get i).autoRetire = false → (t.slots.get i).state = before)
        ∧ (before.eligible = true → (s.slots.get i).autoRetire = true → RetiresAlone i s t))
      ∧ (presence = q.presence.accepted → power = q.power.accepted → q.handle.accepted = false → handle = true →
          before ≠ .empty →
        flagSet t i .handleClosed = true
        ∧ (before ≠ .drained → (t.slots.get i).state = before)
        ∧ (before = .drained → (s.slots.get i).expectedClass = 0 →
          (t.slots.get i).state = .probing ∧ (t.slots.get i).probeTimer = some 50
          ∧ ((s.links.get i).state = .parked → (t.links.get i).state = .up ∧ (t.links.get i).lost = false)))

/-- R158: under debounce `d`, reads of a new value are accepted at the d-th in a row and not before; a read of the accepted
value removes the candidate; a read of a third value begins its own count. -/
def Obligations.SignalsAreDebounced : Prop :=
  ∀ (α : Type) [DecidableEq α] (d : Nat) (v : α) (g : Signal α), 1 ≤ d →
    (v ≠ g.accepted → (∀ c n, g.candidate = some (c, n) → c ≠ v) →
      (∀ n, n < d → (readTimes d v n g).accepted = g.accepted
        ∧ (0 < n → (readTimes d v n g).candidate = some (v, n)))
      ∧ readTimes d v d g = ⟨v, none⟩)
    ∧ readTimes d g.accepted 1 g = ⟨g.accepted, none⟩

/-- R154, R155, R157, R161, R164: SET_SCAN takes the settings it carries, debounce clamped to 1–7, or refuses them all with
RANGE; a cycle in progress goes on with the mode, divisor and preamble it began with, and a change to SCAN mode on an IDLE
bus begins the next rotation cycle of the range in force. SCAN_RESTART drops the cycle and the rotation pointer and begins
afresh with a preamble. (That SET_SCAN begins no cycle on an IDLE bus that is in SCAN mode already is the model's inference,
log entry 31: such a bus chooses at the next idle step. That a preamble that is on is reported as 1, whatever byte turned it
on, is its choice, log entry 37.) -/
def Obligations.ScannerSettingsAndRestart : Prop :=
  (∀ s tag mode divisor preamble first last debounce,
    Heads (.setScan tag mode divisor preamble first last debounce) s →
    let c := s.scanner
    let fst := (first.map BitVec.toNat).getD (c.firstAddress.val + 1)
    let lst := (last.map BitVec.toNat).getD (c.lastAddress.val + 1)
    let legal := (∀ b, mode = some b → b.toNat ≤ 2) ∧ (∀ b, divisor = some b → b.toNat ∈ [25, 50, 125, 250])
      ∧ (∀ b, first = some b → 1 ≤ b.toNat ∧ b.toNat ≤ 12) ∧ (∀ b, last = some b → 1 ≤ b.toNat ∧ b.toNat ≤ 12)
      ∧ fst ≤ lst
    (¬ legal →
      exec (.setScan tag mode divisor preamble first last debounce) s = .next (answered s [tag, 0x13, 5]))
    ∧ (legal → ∃ t, exec (.setScan tag mode divisor preamble first last debounce) s = .next t
      ∧ scanModeCode t.scanner.mode = (mode.map BitVec.toNat).getD (scanModeCode c.mode)
      ∧ t.scanner.divisor = (divisor.map BitVec.toNat).getD c.divisor
      ∧ t.scanner.preamble = (preamble.map fun b => decide (b ≠ 0)).getD c.preamble
      ∧ t.scanner.firstAddress.val + 1 = fst ∧ t.scanner.lastAddress.val + 1 = lst
      ∧ t.scanner.debounce = (debounce.map fun b => max 1 (min 7 b.toNat)).getD c.debounce
      ∧ t.scanner.pointer = c.pointer ∧ t.scanner.pendingRead = c.pendingRead
      ∧ (c.cycle ≠ none ∨ c.mode = .scan ∨ t.scanner.mode ≠ .scan →
        t.scanner.cycle = c.cycle ∧ t.scanner.forcedPreamble = c.forcedPreamble)
      ∧ (c.cycle = none → c.mode ≠ .scan → t.scanner.mode = .scan → c.waitingRead = none →
        ∃ a, RotationNext t.scanner a ∧ t.scanner.firstAddress ≤ a ∧ a ≤ t.scanner.lastAddress
          ∧ t.scanner.cycle = some ⟨a, false, .scan, t.scanner.divisor, t.scanner.preamble || c.forcedPreamble⟩)
      ∧ t = { answered s [tag, 0x13, 0, 0x3F, BitVec.ofNat 8 (scanModeCode t.scanner.mode),
                BitVec.ofNat 8 t.scanner.divisor, if t.scanner.preamble then 1 else 0, BitVec.ofNat 8 fst,
                BitVec.ofNat 8 lst, BitVec.ofNat 8 t.scanner.debounce] with scanner := t.scanner }))
  ∧ (∀ s tag, Heads (.scanRestart tag) s →
    ∃ t, exec (.scanRestart tag) s = .next t
      ∧ t.scanner.pointer = none
      ∧ (s.scanner.waitingRead = none → s.scanner.mode = .scan →
        t.scanner.cycle = some ⟨s.scanner.firstAddress, false, .scan, s.scanner.divisor, true⟩
          ∧ t.scanner.forcedPreamble = false)
      ∧ (s.scanner.waitingRead = none → s.scanner.mode ≠ .scan →
        t.scanner.cycle = none ∧ t.scanner.forcedPreamble = true)
      ∧ (∀ i, s.scanner.waitingRead = some i →
        t.scanner.cycle = some ⟨i, true, s.scanner.mode, s.scanner.divisor, true⟩ ∧ t.scanner.forcedPreamble = false)
      ∧ t.scanner.pendingRead = s.scanner.pendingRead
      ∧ t = { answered s [tag, 0x15, 0] with scanner := t.scanner })

/-- R155, R157, R162, R163, R202: a SCAN_READ in SCAN or SINGLE mode becomes the pending single read without a response,
beginning at once on an IDLE bus; while one is pending another is BUSY, and in OFF mode it is BAD_STATE. Its cycle's end
records the result, after the notices of its sample: a response that joins the transmit queue at once when there is room, and
otherwise, with the same bytes, at SCAN_READ_RESPONSE (log entry 13; the bytes of an absent candidate, log entry 35).
SCAN_READ_RESPONSE with no pending read is an event that cannot happen, and changes nothing in the model (its choice, log
entry 1). -/
def Obligations.SingleReadsWaitForTheirCycle : Prop :=
  (∀ s tag slot (i : SlotIx), Heads (.scanRead tag slot) s → slot.toNat = i.val + 1 →
    (s.scanner.mode = .off → exec (.scanRead tag slot) s = .next (answered s [tag, 0x14, 4]))
    ∧ (s.scanner.mode ≠ .off → s.scanner.pendingRead ≠ none →
      exec (.scanRead tag slot) s = .next (answered s [tag, 0x14, 6]))
    ∧ (s.scanner.mode ≠ .off → s.scanner.pendingRead = none →
      ∃ t, exec (.scanRead tag slot) s = .next t ∧ t.scanner.pendingRead = some ⟨i, tag, none⟩
        ∧ (s.scanner.cycle ≠ none → t.scanner.cycle = s.scanner.cycle)
        ∧ (s.scanner.cycle = none → t.scanner.cycle
            = some ⟨i, true, s.scanner.mode, s.scanner.divisor, s.scanner.preamble || s.scanner.forcedPreamble⟩)
        ∧ t = { s with
            scanner := t.scanner
            agent := { s.agent with requests := s.agent.requests.tail } }))
  ∧ (∀ s i tag mode div pre (ack : Bool) word check, s.scanner.cycle = some ⟨i, true, mode, div, pre⟩ →
    s.scanner.pendingRead = some ⟨i, tag, none⟩ →
    let got := if ack = true ∧ check = ~~~word then some word else none
    ∃ t notices, exec (.readCycleEnd ack word check) s = .next t
      ∧ (s.agent.noticesEnabled = false → notices = []) ∧ (∀ n, n ∈ notices → n[1]? = some 0x80)
      ∧ ((s.agent.transmit ++ notices).length < 16 → t.scanner.pendingRead = none
        ∧ t.agent.transmit = s.agent.transmit ++ notices ++ [readReport i tag got (t.ports.get i)])
      ∧ (16 ≤ (s.agent.transmit ++ notices).length → t.agent.transmit = s.agent.transmit ++ notices
        ∧ t.scanner.pendingRead = some ⟨i, tag, some ⟨got, t.ports.get i⟩⟩))
  ∧ (∀ s i tag res, s.scanner.pendingRead = some ⟨i, tag, some res⟩ →
    (16 ≤ s.agent.transmit.length → exec .scanReadResponse s = .next s)
    ∧ (s.agent.transmit.length < 16 → exec .scanReadResponse s = .next { s with
        scanner := { s.scanner with pendingRead := none }
        agent := { s.agent with transmit := s.agent.transmit ++ [readReport i tag res.word res.port] } }))
  ∧ (∀ s, s.scanner.pendingRead = none → exec .scanReadResponse s = .next s)

/-- R17, R26, R142, R144, R148: a count that reaches 255 in POLL mode is latched saturated and ends the run; one that reaches
the alarm limit in ALARM mode is latched, freezes the monitor with its count and remainder as they are, raises BEACON_ALARM
and meets the slot's alarm policy, a retirement under it keeping the slot's bins and raising LAST_MEMBER for a last member.
CLEAR_ALARM ends a raised alarm and arms counting again where the link runs, and otherwise changes nothing. (Log entry
24: the two events are commands, taken here with the count at its limit.) -/
def Obligations.MonitorsSaturateAlarmAndClear : Prop :=
  (∀ s i, let m := s.monitors.get i
    m.phase = .counting → m.mode = .poll → m.runningCount = 255 →
    exec (.saturationLatch i) s
      = .next (s.updMonitor i fun m => { m with latchedCount := 255, latchedSaturated := true, run := 0 }))
  ∧ (∀ s i, let m := s.monitors.get i
    let r := s.slots.get i
    m.phase = .counting → m.mode = .alarm → m.runningCount = m.alarmLimit →
    ∃ t, exec (.beaconAlarm i) s = .next t ∧ flagSet t i .beaconAlarm = true ∧ SlotEventFrame i s t
      ∧ (t.monitors.get i).phase = .frozen ∧ (t.monitors.get i).latchedCount = m.alarmLimit
      ∧ (t.monitors.get i).latchedSaturated = decide (m.alarmLimit = 255) ∧ (t.monitors.get i).run = 0
      ∧ (t.monitors.get i).runningCount = m.runningCount ∧ (t.monitors.get i).tickRemainder = m.tickRemainder
      ∧ (r.state.holding = false ∨ r.alarmEvacuate = false → r.state.eligible = false ∨ r.alarmRetire = false →
        (t.slots.get i).state = r.state ∧ t = { s with slots := t.slots, monitors := t.monitors, agent := t.agent })
      ∧ (r.state.holding = true → r.alarmEvacuate = true →
        (t.slots.get i).state = .faulted ∧ (t.slots.get i).lastFault = some .beaconAlarm
        ∧ (t.links.get i).state = .dark)
      ∧ (r.alarmEvacuate = false → r.state.eligible = true → r.alarmRetire = true → RetiresAlone i s t))
  ∧ (∀ s tag slot (i : SlotIx), Heads (.clearAlarm tag slot) s → slot.toNat = i.val + 1 →
    let m := s.monitors.get i
    (m.phase = .frozen →
      exec (.clearAlarm tag slot) s = .next ((answered s [tag, 0x0B, 0, slot,
          if m.linkRunning then 1 else 0, 0, BitVec.ofNat 8 m.latchedCount]).updMonitor i fun m =>
        { m with phase := if m.linkRunning then .counting else .idle, runningCount := 0, tickRemainder := 0 }))
    ∧ (m.phase = .idle → exec (.clearAlarm tag slot) s
        = .next (answered s [tag, 0x0B, 0, slot, 0, 0, BitVec.ofNat 8 m.latchedCount]))
    ∧ (m.phase = .counting → exec (.clearAlarm tag slot) s
        = .next (answered s [tag, 0x0B, 0, slot, 1, 0, BitVec.ofNat 8 m.latchedCount])))

/-- R1, R5, R37, R64, R108, R123, R124, R130, R142, R144: the running count of a counting monitor after n monitor ticks is
the whole part of n over the divisor, up to 255, with the rest in the tick remainder; a monitor in another phase does not
count. An idle step is one microsecond: where nothing falls due at it, every running timer has one tick less to go if its
unit ticks and nothing else changes, but that an IDLE bus with work begins a cycle; where one timer, latch or alarm falls
due, its command is taken in the state that leaves; and at every 25th millisecond the lamps' base step is taken after it.
(Log entries 1, 3 and 22: the idle step, and what it takes when several fall due at once, are the model's; the two monitor
events as commands, log entry 24.) -/
def Obligations.RunningCountsDivideTheMonitorTick : Prop :=
  (∀ m n,
    (m.phase = .counting → 1 ≤ m.divisor → m.runningCount = 0 → m.tickRemainder = 0 →
      ticksOf n m = { m with runningCount := min 255 (n / m.divisor), tickRemainder := n % m.divisor })
    ∧ (m.phase ≠ .counting → ticksOf n m = m))
  ∧ (∀ s, LinkLaws s → s.pending = [] → QuietBut none s →
    ∃ u, Ticked s u ∧ (u.micros ≠ 0 → step s = .next u) ∧ (u.micros = 0 → step s = exec .lampBaseStep u))
  ∧ (∀ s c unit, LinkLaws s → s.pending = [] → 0 < s.agent.ackTimeout →
    TickFalls unit s → Runs s c unit 1 → QuietBut (some c) s →
    ∃ u t, Ticked s u ∧ exec c u = .next t ∧ (u.micros ≠ 0 → step s = .next t)
      ∧ (u.micros = 0 → step s = exec .lampBaseStep t))

/-- R169, R171, R172: a base step raises S and shows on every lamp the level, number floor(S / m) mod L, of the slot's
selected pattern, its override or the State Map's for its state; when S comes round to 0 a pattern of 2, 4, 8 or 16 levels
goes on without a break, and any other is cut short to its level 0. -/
def Obligations.LampsStepThroughTheirPatterns : Prop :=
  (∀ s, ∃ t, exec .lampBaseStep s = .next t ∧ t.lamps.counter = s.lamps.counter + 1
    ∧ (∀ i,
      let k := match s.lamps.override.get i with
        | some k => k
        | none => s.lamps.stateMap.get (stateCode (s.slots.get i).state)
      let p := s.lamps.patterns.get k
      p.levels ≠ [] →
        p.levels[(s.lamps.counter + 1).toNat / p.width % p.levels.length]? = some (t.lamps.level.get i))
    ∧ t = { s with lamps := { s.lamps with counter := t.lamps.counter, level := t.lamps.level } })
  ∧ (∀ (p : Pattern) (c : BitVec 32), p.levels.length ∈ [2, 4, 8, 16] → p.width ∈ [1, 2, 4, 8] →
    p.levelAt (c + 1) = p.levels.getD ((c.toNat + 1) / p.width % p.levels.length) false)
  ∧ (∀ p : Pattern, p.levelAt (0xFFFFFFFF#32 + 1) = p.levels.getD 0 false)

/-- R173, R174, R175: SET_LAMP_PATTERN with a whole definition replaces a pattern, with none reports it, and with a part of
one or a level count that is not the length is BAD_REQUEST; SET_LAMP_MAP writes its entries all at once, a state named
twice being BAD_REQUEST, known or not (log entry 18); LAMP_OVERRIDE sets or removes a slot's override. A value out of range
refuses the whole. (The model's choices: a part of a definition is BAD_REQUEST whatever its index, log entry 25; the
level-mask bits at or above the length are reported as 0, log entry 36.) -/
def Obligations.LampRequestsWriteTheTables : Prop :=
  (∀ s tag index len width count mask,
    Heads (.setLampPattern tag index (some len) (some width) (some (count, mask))) s →
    let c := exec (.setLampPattern tag index (some len) (some width) (some (count, mask))) s
    (count ≠ len → c = .next (answered s [tag, 0x16, 1]))
    ∧ (count = len → 7 < index.toNat ∨ len.toNat < 2 ∨ 16 < len.toNat ∨ width.toNat ∉ [25, 50, 100, 200] →
      c = .next (answered s [tag, 0x16, 5]))
    ∧ (∀ k : PatternIx, count = len → index.toNat = k.val → 2 ≤ len.toNat → len.toNat ≤ 16 →
      width.toNat ∈ [25, 50, 100, 200] →
      ∃ p : Pattern, p.levels.length = len.toNat ∧ (∀ n, n < len.toNat → p.levels[n]? = some (mask.getLsbD n))
        ∧ 25 * p.width = width.toNat
        ∧ c = .next { answered s ([tag, 0x16, 0, index, len, width, len]
              ++ bytes16 (mask &&& BitVec.ofNat 16 (2 ^ len.toNat - 1)) ++ bytes32 s.lamps.counter) with
            lamps := { s.lamps with patterns := s.lamps.patterns.set k p } }))
  ∧ (∀ s tag index, Heads (.setLampPattern tag index none none none) s →
    (7 < index.toNat → exec (.setLampPattern tag index none none none) s = .next (answered s [tag, 0x16, 5]))
    ∧ (∀ k : PatternIx, index.toNat = k.val → (s.lamps.patterns.get k).levels.length ≤ 16 →
      ∃ mask : BitVec 16, (∀ n, n < 16 → mask.getLsbD n = (s.lamps.patterns.get k).levels.getD n false)
        ∧ exec (.setLampPattern tag index none none none) s
          = .next (answered s ([tag, 0x16, 0, index, BitVec.ofNat 8 (s.lamps.patterns.get k).levels.length,
              BitVec.ofNat 8 (25 * (s.lamps.patterns.get k).width),
              BitVec.ofNat 8 (s.lamps.patterns.get k).levels.length] ++ bytes16 mask ++ bytes32 s.lamps.counter))))
  ∧ (∀ s tag index len width levels, Heads (.setLampPattern tag index len width levels) s →
    len.isSome ∨ width.isSome ∨ levels.isSome → len = none ∨ width = none ∨ levels = none →
    exec (.setLampPattern tag index len width levels) s = .next (answered s [tag, 0x16, 1]))
  ∧ (∀ s tag entries, Heads (.setLampMap tag entries) s →
    (¬ (entries.map Prod.fst).Nodup → exec (.setLampMap tag entries) s = .next (answered s [tag, 0x17, 1]))
    ∧ ((entries.map Prod.fst).Nodup → (∃ e, e ∈ entries ∧ (9 < e.1.toNat ∨ 7 < e.2.toNat)) →
      exec (.setLampMap tag entries) s = .next (answered s [tag, 0x17, 5]))
    ∧ ((entries.map Prod.fst).Nodup → (∀ e, e ∈ entries → e.1.toNat ≤ 9 ∧ e.2.toNat ≤ 7) →
      ∃ map : Table PatternIx 10,
        (∀ (c : Fin 10) (k : PatternIx), (BitVec.ofNat 8 c.val, BitVec.ofNat 8 k.val) ∈ entries → map.get c = k)
        ∧ (∀ c : Fin 10, BitVec.ofNat 8 c.val ∉ entries.map Prod.fst → map.get c = s.lamps.stateMap.get c)
        ∧ exec (.setLampMap tag entries) s
          = .next { answered s ([tag, 0x17, 0] ++ map.cells.map fun k => BitVec.ofNat 8 k.val) with
              lamps := { s.lamps with stateMap := map } }))
  ∧ (∀ s tag slot pattern (i : SlotIx), Heads (.lampOverride tag slot pattern) s → slot.toNat = i.val + 1 →
    (7 < pattern.toNat → pattern ≠ 0xFF →
      exec (.lampOverride tag slot pattern) s = .next (answered s [tag, 0x18, 5]))
    ∧ (pattern = 0xFF → exec (.lampOverride tag slot pattern) s
        = .next { answered s [tag, 0x18, 0, slot, 0xFF,
              BitVec.ofNat 8 (s.lamps.stateMap.get (stateCode (s.slots.get i).state)).val] with
            lamps := { s.lamps with override := s.lamps.override.set i none } })
    ∧ (∀ k : PatternIx, pattern.toNat = k.val → exec (.lampOverride tag slot pattern) s
        = .next { answered s [tag, 0x18, 0, slot, pattern, pattern] with
            lamps := { s.lamps with override := s.lamps.override.set i (some k) } }))

/-- R33, R58, R82, R189, R192, R193, R195, R202, R204: the eight requests that read answer records of their lengths, with the
fields spelt out here where they stand (FF hex for what is absent, R204), and change nothing but the two queues
(READ_COUNTERS also counts the free values drawn, log entry 7). (That the cells in use are counted from the receptions and
queues is the model's inference, log entry 6.) -/
def Obligations.ReadsReportAndChangeNothing : Prop :=
  (∀ s tag, Heads (.identify tag) s → exec (.identify tag) s = .next (answered s
    ([tag, 0x01, 0] ++
    [0x42, 0x6F, 0x6E, 0x64, 0x72, 0x61, 0x63, 0x20, 0x53, 0x74, 0x65, 0x67, 0x72, 0x61, 0x6E, 0x20,
     0x53, 0x58, 0x2D, 0x31, 0x32, 0x30, 0x38, 0x20, 12, 8, 1, 1, 4, 64, 4, 0x08, 0x00, 0x08, 0x00, 0x01, 0x00,
     128, 32, 8, 16, 240])))
  ∧ (∀ s tag slot (i : SlotIx), Heads (.readSlot tag slot) s → slot.toNat = i.val + 1 →
    let r := s.slots.get i
    let l := s.links.get i
    let m := s.monitors.get i
    let q := s.ports.get i
    let selected := match s.lamps.override.get i with
      | some k => k
      | none => s.lamps.stateMap.get (stateCode r.state)
    ∃ record, record.length = 64 ∧ record.drop 47 = acceptedReport q :: candidatesReport q
        ++ [BitVec.ofNat 8 q.noResponse, ((s.lamps.override.get i).map fun k => BitVec.ofNat 8 k.val).getD 0xFF,
          BitVec.ofNat 8 selected.val, yesReport (s.lamps.level.get i)]
      ∧ record.take 47 =
        [slot, BitVec.ofNat 8 (stateCode r.state).val, BitVec.ofNat 8 (phaseCode r.state),
          (r.pool.map fun p => BitVec.ofNat 8 p.val).getD 0xFF, BitVec.ofNat 8 r.weight,
          BitVec.ofNat 8 r.expectedClass, r.policy.setWidth 8, BitVec.ofNat 8 r.retireDeadline,
          BitVec.ofNat 8 (rateModeCode r.rateMode), BitVec.ofNat 8 r.quota,
          BitVec.ofNat 8 ((r.lastFault.map causeCode).getD 0)] ++ bytes16 (r.attention.setWidth 16)
        ++ [r.echoes, yesReport r.beaconsQualified]
        ++ [r.probeTimer, r.qualifyTimer, r.deadlineTimer, r.ackTimer].flatMap timerReport
        ++ [BitVec.ofNat 8 (slotHeld s i), BitVec.ofNat 8 (slotTarget s i),
          match l.state with
            | .dark => 0
            | .training => 1
            | .up => 2
            | .parked => 3]
        ++ (match l.train with
          | none => [0, 0, 0]
          | some tr => [if tr.rate = .full then 1 else 2, BitVec.ofNat 8 tr.attempt, BitVec.ofNat 8 tr.limit])
        ++ [yesReport l.lock, yesReport l.lost, yesReport l.remotePause.isSome] ++ timerReport l.remotePause
        ++ [BitVec.ofNat 8 l.control.length, if m.mode = .poll then 0 else 1, BitVec.ofNat 8 m.divisor,
          BitVec.ofNat 8 m.lowLimit, BitVec.ofNat 8 m.highLimit, BitVec.ofNat 8 m.alarmLimit, yesReport m.linkRunning,
          match m.phase with
            | .idle => 0
            | .counting => 1
            | .frozen => 2,
          BitVec.ofNat 8 m.runningCount, BitVec.ofNat 8 m.latchedCount, yesReport m.latchedSaturated,
          if m.phase = .frozen then 1 else 0, BitVec.ofNat 8 m.run]
      ∧ exec (.readSlot tag slot) s = .next (answered s ([tag, 0x02, 0] ++ record)))
  ∧ (∀ s tag pool (p : PoolIx), pool.toNat = p.val →
    let r := s.pools.get p
    let members := (List.finRange 12).filter (isEligible s p)
    let holders := (List.finRange 12).filter (isHolding s p)
    (Heads (.readPool tag pool) s → exec (.readPool tag pool) s = .next (answered s ([tag, 0x10, 0]
        ++ [pool, yesReport r.enabled, r.salt] ++ bytes16 (BitVec.ofNat 16 r.rampInterval)
        ++ [BitVec.ofNat 8 r.settleTime, BitVec.ofNat 8 r.drainLimit, BitVec.ofNat 8 r.width,
          BitVec.ofNat 8 r.adoptionWindow, yesReport (isDark s p)]
        ++ bytes16 (BitVec.ofNat 16 (members.map fun i => 2 ^ i.val).sum)
        ++ [BitVec.ofNat 8 (members.map fun i => (s.slots.get i).weight).sum]
        ++ timerReport r.rampTimer ++ timerReport r.adoptionTimer
        ++ [BitVec.ofNat 8 r.plan.length, BitVec.ofNat 8 (activeMoves s p)]
        ++ bytes32 (s.poolCount p .immediateAssigns) ++ [BitVec.ofNat 8 holders.length]
        ++ holders.flatMap fun i =>
          [BitVec.ofNat 8 (i.val + 1), BitVec.ofNat 8 (stateCode (s.slots.get i).state).val,
            BitVec.ofNat 8 (phaseCode (s.slots.get i).state), BitVec.ofNat 8 (r.targets.get i),
            BitVec.ofNat 8 (binsHeld s p i)])))
    ∧ (Heads (.readBins tag pool) s → ∃ record, record.length = 320
      ∧ (∀ b : BinIx, (record.drop (5 * b.val)).take 5 =
          (match (r.bins.get b).owner with
            | .unowned => [0, 0]
            | .owned i => [1, BitVec.ofNat 8 (i.val + 1)]
            | .stale i => [2, BitVec.ofNat 8 (i.val + 1)])
          ++ bytes16 (BitVec.ofNat 16 (r.bins.get b).inflight)
          ++ [((r.bins.get b).engine.map fun e => BitVec.ofNat 8 e.val).getD 0xFF])
      ∧ exec (.readBins tag pool) s = .next (answered s ([tag, 0x11, 0, pool] ++ record)))
    ∧ (Heads (.readMoves tag pool) s → ∃ engines, engines.length = 40
      ∧ (∀ e : EngineIx, (engines.drop (10 * e.val)).take 10 =
          match s.engines.get e with
            | none => [0, 0xFF, 0xFF, 0xFF, 0xFF, 0, 0, 0, 0xFF, 0xFF]
            | some m => [if m.phase = .draining then 1 else 2, BitVec.ofNat 8 m.pool.val, BitVec.ofNat 8 m.bin.val,
                BitVec.ofNat 8 (m.source.val + 1), BitVec.ofNat 8 (m.destination.val + 1), BitVec.ofNat 8 m.hold.length]
              ++ bytes16 (BitVec.ofNat 16 ((s.pools.get m.pool).bins.get m.bin).inflight)
              ++ bytes16 (BitVec.ofNat 16 m.timer))
      ∧ exec (.readMoves tag pool) s = .next (answered s ([tag, 0x12, 0, pool, BitVec.ofNat 8 r.plan.length]
        ++ r.plan.flatMap (fun e => [BitVec.ofNat 8 e.bin.val, BitVec.ofNat 8 (e.source.val + 1),
            BitVec.ofNat 8 (e.destination.val + 1)])
        ++ engines ++ bytes32 (s.poolCount p .movesDone) ++ bytes32 (s.poolCount p .earlyCommits)
        ++ bytes32 (s.poolCount p .forcedCommits) ++ bytes32 (s.poolCount p .abortedMoves)))))
  ∧ (∀ s tag, Heads (.readAttention tag) s → exec (.readAttention tag) s = .next (answered s
    ([tag, 0x19, 0, s.agent.deviceFlags.setWidth 8] ++ (List.finRange 12).flatMap fun i =>
      bytes16 ((s.slots.get i).attention.setWidth 16)
        ++ [BitVec.ofNat 8 (stateCode (s.slots.get i).state).val, BitVec.ofNat 8 (phaseCode (s.slots.get i).state)])))
  ∧ (∀ s tag, Heads (.readCause tag) s → exec (.readCause tag) s = .next (answered s
    [tag, 0x1E, 0, match s.agent.lastCause with
      | .power => 1
      | .pin => 2
      | .restart => 3, BitVec.ofNat 8 s.agent.pinResets, BitVec.ofNat 8 s.agent.restarts]))
  ∧ (∀ s tag, Heads (.readCounters tag) s → ∃ record, record.length = 1401
    ∧ record.take 28 = s.core.counters.cells.flatMap bytes32
    ∧ (∀ p : PoolIx, (record.drop (28 + 28 * p.val)).take 28 = (s.pools.get p).counters.cells.flatMap bytes32)
    ∧ (∀ i : SlotIx, (record.drop (140 + 96 * i.val)).take 96 = (s.slotCounters.get i).cells.flatMap bytes32)
    ∧ (record.drop 1292).take 20 = s.agent.counters.cells.flatMap bytes32
    ∧ (record.drop 1312).take 2 = bytes16 (BitVec.ofNat 16 (cellsInUse s))
    ∧ (∀ i : SlotIx, (record.drop (1314 + 2 * i.val)).take 2 = bytes16 (BitVec.ofNat 16 (s.egress.get i).length)
      ∧ record[1338 + 5 * i.val]? = some (BitVec.ofNat 8 (s.upstream.get i).queue.length)
      ∧ (∀ q, effectiveQuota s i = some q → record[1339 + 5 * i.val]? = some (BitVec.ofNat 8 q))
      ∧ (record.drop (1340 + 5 * i.val)).take 3
        = yesReport (s.upstream.get i).pause.isSome :: timerReport (s.upstream.get i).pause)
    ∧ record.drop 1398 = [BitVec.ofNat 8 (s.core.pointer.val + 1), BitVec.ofNat 8 (s.agent.requests.length - 1),
        BitVec.ofNat 8 s.agent.transmit.length]
    ∧ exec (.readCounters tag) s
      = .next { answered s ([tag, 0x1B, 0] ++ record) with freeDraws := s.freeDraws + 12 })

/-- R181, R184, R186: what is no request is BAD_REQUEST; a slot number outside 1–12 is BAD_SLOT and a pool above 3 BAD_POOL,
with no effect beyond the queues; a request that is not at the head of the queue, or has no room for a response, is not
processed (log entry 2). -/
def Obligations.RefusedRequestsChangeOnlyTheQueues : Prop :=
  (∀ s e, Heads (.unknownRequest e) s →
    exec (.unknownRequest e) s = .next (answered s [e.tag, e.code.getD 0, 1]))
  ∧ (∀ s c code tag slot, Heads c s → slot.toNat = 0 ∨ 12 < slot.toNat →
    c = .readSlot tag slot ∧ code = 0x02
      ∨ (∃ a b d e f g h i, c = .setPolicy tag slot a b d e f g h i ∧ code = 0x03)
      ∨ (∃ a, c = .setWeight tag slot a ∧ code = 0x04) ∨ (∃ a b, c = .admitSlot tag slot a b ∧ code = 0x05)
      ∨ (∃ a, c = .retire tag slot a ∧ code = 0x06) ∨ c = .fence tag slot ∧ code = 0x07
      ∨ c = .unfence tag slot ∧ code = 0x08 ∨ c = .requalify tag slot ∧ code = 0x09
      ∨ (∃ a, c = .slotReset tag slot a ∧ code = 0x0A) ∨ c = .clearAlarm tag slot ∧ code = 0x0B
      ∨ (∃ a b d e f, c = .setBeacon tag slot a b d e f ∧ code = 0x0C) ∨ c = .scanRead tag slot ∧ code = 0x14
      ∨ (∃ a, c = .lampOverride tag slot a ∧ code = 0x18)
      ∨ (∃ a, c = .clearAttention tag slot a ∧ slot ≠ 0 ∧ code = 0x1A) →
    exec c s = .next (answered s [tag, code, 2]))
  ∧ (∀ s c code tag pool, Heads c s → 3 < pool.toNat →
    (∃ a b d e f g, c = .poolSet tag pool a b d e f g ∧ code = 0x0D) ∨ c = .poolEnable tag pool ∧ code = 0x0E
      ∨ c = .poolDisable tag pool ∧ code = 0x0F ∨ c = .readPool tag pool ∧ code = 0x10
      ∨ c = .readBins tag pool ∧ code = 0x11 ∨ c = .readMoves tag pool ∧ code = 0x12
      ∨ (∃ slot weight, c = .admitSlot tag slot pool weight ∧ 1 ≤ slot.toNat ∧ slot.toNat ≤ 12 ∧ code = 0x05) →
    exec c s = .next (answered s [tag, code, 3]))
  ∧ (∀ s c, (encodeRequest c).isSome → ¬ Heads c s → exec c s = .next s)

/-- R2, R31, R38, R149, R191: the four requests that write settings put in force the values they carry, clamped to their
ranges, keep the others, and answer what then stands; an impossible value refuses the whole. -/
def Obligations.SettingsAreTakenClamped : Prop :=
  (∀ s tag slot clear set toggle pool cls deadline mode quota (i : SlotIx),
    Heads (.setPolicy tag slot clear set toggle pool cls deadline mode quota) s → slot.toNat = i.val + 1 →
    let c := exec (.setPolicy tag slot clear set toggle pool cls deadline mode quota) s
    let r := s.slots.get i
    let poolLegal := ∀ b, pool = some b → b.toNat ≤ 3 ∨ b = 0xFF
    let valueLegal := (∀ b, cls = some b → b.toNat ≤ 15) ∧ (∀ b, mode = some b → b.toNat ≤ 2)
    let newPool := match pool with
      | none => r.pool
      | some b => poolOf b
    (¬ poolLegal → c = .next (answered s [tag, 0x03, 3]))
    ∧ (poolLegal → ¬ valueLegal → c = .next (answered s [tag, 0x03, 5]))
    ∧ (poolLegal → valueLegal → r.state.holding = true → newPool ≠ r.pool → c = .next (answered s [tag, 0x03, 4]))
    ∧ (poolLegal → valueLegal → r.state.holding = false ∨ newPool = r.pool →
      ∃ r' : SlotRecord,
        (∀ k, k < 5 → r'.policy.getLsbD k
          = (((r.policy.getLsbD k && !clear.getLsbD k) || set.getLsbD k) ^^ toggle.getLsbD k))
        ∧ r'.pool = newPool ∧ r'.expectedClass = (cls.map BitVec.toNat).getD r.expectedClass
        ∧ r'.retireDeadline = (deadline.map fun b => min 60 b.toNat).getD r.retireDeadline
        ∧ rateModeCode r'.rateMode = (mode.map BitVec.toNat).getD (rateModeCode r.rateMode)
        ∧ r'.quota = (quota.map fun b => max 8 (min 128 b.toNat)).getD r.quota
        ∧ r' = { r with
            policy := r'.policy, pool := r'.pool, expectedClass := r'.expectedClass
            retireDeadline := r'.retireDeadline, rateMode := r'.rateMode, quota := r'.quota }
        ∧ c = .next { answered s [tag, 0x03, 0, slot, r'.policy.setWidth 8, 0, 0, 0x1F,
              (r'.pool.map fun p => BitVec.ofNat 8 p.val).getD 0xFF, BitVec.ofNat 8 r'.expectedClass,
              BitVec.ofNat 8 r'.retireDeadline, BitVec.ofNat 8 (rateModeCode r'.rateMode),
              BitVec.ofNat 8 r'.quota] with slots := s.slots.set i r' }))
  ∧ (∀ s tag pool salt ramp settle drain width adoption (p : PoolIx),
    Heads (.poolSet tag pool salt ramp settle drain width adoption) s → pool.toNat = p.val →
    let c := exec (.poolSet tag pool salt ramp settle drain width adoption) s
    let r := s.pools.get p
    let refused := r.enabled = true ∧ salt.getD r.salt ≠ r.salt
      ∨ ∃ b, width = some b ∧ max 1 (min 4 b.toNat) < activeMoves s p
    (refused → c = .next (answered s [tag, 0x0D, 4]))
    ∧ (¬ refused →
      let r' : PoolRecord := { r with
        salt := salt.getD r.salt
        rampInterval := (ramp.map fun w => max 1 (min 1000 w.toNat)).getD r.rampInterval
        settleTime := (settle.map BitVec.toNat).getD r.settleTime
        drainLimit := (drain.map fun b => max 1 b.toNat).getD r.drainLimit
        width := (width.map fun b => max 1 (min 4 b.toNat)).getD r.width
        adoptionWindow := (adoption.map fun b => min 60 b.toNat).getD r.adoptionWindow }
      c = .next { answered s ([tag, 0x0D, 0, pool, 0x3F, r'.salt]
          ++ bytes16 (BitVec.ofNat 16 r'.rampInterval)
          ++ [BitVec.ofNat 8 r'.settleTime, BitVec.ofNat 8 r'.drainLimit, BitVec.ofNat 8 r'.width,
            BitVec.ofNat 8 r'.adoptionWindow]) with pools := s.pools.set p r' }))
  ∧ (∀ s tag pause ack qualify attempts notices, Heads (.setDevice tag pause ack qualify attempts notices) s →
    let c := exec (.setDevice tag pause ack qualify attempts notices) s
    let a := s.agent
    ((∃ b, notices = some b ∧ 1 < b.toNat) → c = .next (answered s [tag, 0x1D, 5]))
    ∧ ((∀ b, notices = some b → b.toNat ≤ 1) →
      let pause' := (pause.map fun w => max 1 w.toNat).getD a.pauseTime
      let ack' := (ack.map fun w => max 10 (min 2550 w.toNat)).getD a.ackTimeout
      let qualify' := (qualify.map fun w => max 100 (min 2550 w.toNat)).getD a.qualifyLimit
      let attempts' := (attempts.map fun b => max 1 (min 7 b.toNat)).getD a.trainingAttempts
      let notices' := (notices.map fun b => decide (b = 1)).getD a.noticesEnabled
      c = .next { s with agent := { a with
        requests := a.requests.tail
        transmit := a.transmit ++ [[tag, 0x1D, 0, 0x1F] ++ bytes16 (BitVec.ofNat 16 pause')
          ++ bytes16 (BitVec.ofNat 16 ack') ++ bytes16 (BitVec.ofNat 16 qualify')
          ++ [BitVec.ofNat 8 attempts', if notices' then 1 else 0]]
        pauseTime := pause', ackTimeout := ack', qualifyLimit := qualify', trainingAttempts := attempts'
        noticesEnabled := notices' } }))
  ∧ (∀ s tag slot mode divisor low high alarm (i : SlotIx),
    Heads (.setBeacon tag slot mode divisor low high alarm) s → slot.toNat = i.val + 1 →
    let c := exec (.setBeacon tag slot mode divisor low high alarm) s
    let m := s.monitors.get i
    let legal := (∀ b, mode = some b → b.toNat ≤ 1) ∧ (∀ b, divisor = some b → b.toNat ∈ [1, 2, 4, 8])
    (¬ legal → c = .next (answered s [tag, 0x0C, 5]))
    ∧ (legal → ∃ m' : MonitorRecord,
      monitorModeCode m'.mode = (mode.map BitVec.toNat).getD (monitorModeCode m.mode)
      ∧ m'.divisor = (divisor.map BitVec.toNat).getD m.divisor
      ∧ m'.lowLimit = (low.map BitVec.toNat).getD m.lowLimit
      ∧ m'.highLimit = (high.map BitVec.toNat).getD m.highLimit
      ∧ m'.alarmLimit = (alarm.map fun b => max 1 b.toNat).getD m.alarmLimit
      ∧ m' = ⟨m'.mode, m'.divisor, m'.lowLimit, m'.highLimit, m'.alarmLimit, m.linkRunning, .idle, 0, 0, 0, false, 0⟩
      ∧ c = .next { answered s [tag, 0x0C, 0, slot, 0x1F, BitVec.ofNat 8 (monitorModeCode m'.mode),
            BitVec.ofNat 8 m'.divisor, BitVec.ofNat 8 m'.lowLimit, BitVec.ofNat 8 m'.highLimit,
            BitVec.ofNat 8 m'.alarmLimit] with monitors := s.monitors.set i m' }))

/-- R12–R14, R21, R32, R42–R46, R48, R54: SET_WEIGHT writes a weight of 1–15 and recomputes the pool of an eligible slot;
ADMIT takes a STANDBY slot, or its own pool's slot retiring in phase MOVING, into an enabled pool as an eligible member with
the weight given, IN_SERVICE as soon as it holds its target and nothing moves to it. Inside an open window the slot takes its
STALE bins back, and the window closes with the last. The recomputation gives each UNOWNED bin, ascending, to the lowest
member below its target, and plans the donors' highest bins to the members with room. (That SET_WEIGHT recomputes also when
the weight stays the same, as R32 has it where R43 names a change, is the model's inference, log entry 30; so is that ADMIT
answers POOL_DISABLED for a slot in RETIRING too, where R21 says the check cannot fail, log entry 32.) -/
def Obligations.WeightsAndAdmissions : Prop :=
  (∀ s tag slot weight (i : SlotIx), Heads (.setWeight tag slot weight) s → slot.toNat = i.val + 1 →
    (weight = 0 → exec (.setWeight tag slot weight) s = .next (answered s [tag, 0x04, 5]))
    ∧ (weight ≠ 0 → (s.slots.get i).state.eligible = false →
      exec (.setWeight tag slot weight) s = .next ((answered s [tag, 0x04, 0, slot,
          BitVec.ofNat 8 (stateCode (s.slots.get i).state).val, BitVec.ofNat 8 (phaseCode (s.slots.get i).state),
          BitVec.ofNat 8 (min 15 weight.toNat)]).updSlot i fun r => { r with weight := min 15 weight.toNat }))
    ∧ (∀ p, weight ≠ 0 → isEligible s p i = true → (s.pools.get p).enabled = true →
      ∃ t st, exec (.setWeight tag slot weight) s = .next t
        ∧ Answers s t [tag, 0x04, 0, slot, BitVec.ofNat 8 (stateCode st).val, 0,
            BitVec.ofNat 8 (min 15 weight.toNat)]
        ∧ (t.slots.get i).state = st ∧ st.eligible = true ∧ (t.slots.get i).weight = min 15 weight.toNat
        ∧ (∀ j, (t.pools.get p).targets.get j = targetOf (eligibleWeight t p) j)
        ∧ (BinLaws s → Assigned p (fun b => ((s.pools.get p).bins.get b).owner) s t ∧ PlanBuilt t p)
        ∧ (∀ q, q ≠ p → t.pools.get q = s.pools.get q) ∧ OthersStand i s t
        ∧ t.ports = s.ports ∧ t.scanner = s.scanner))
  ∧ (∀ s tag slot pool weight (i : SlotIx) (p : PoolIx), Heads (.admitSlot tag slot pool weight) s →
    slot.toNat = i.val + 1 → pool.toNat = p.val →
    let r := s.slots.get i
    let asks := r.state = .standby ∨ r.state = .retiring .moving ∧ r.pool = some p
    (weight = 0 → exec (.admitSlot tag slot pool weight) s = .next (answered s [tag, 0x05, 5]))
    ∧ (weight ≠ 0 → ¬ asks → exec (.admitSlot tag slot pool weight) s = .next (answered s [tag, 0x05, 4]))
    ∧ (weight ≠ 0 → asks → (s.pools.get p).enabled = false →
      exec (.admitSlot tag slot pool weight) s = .next (answered s [tag, 0x05, 9]))
    ∧ (BinLaws s → weight ≠ 0 → asks → (s.pools.get p).enabled = true →
      ∃ t st, exec (.admitSlot tag slot pool weight) s = .next t
        ∧ Answers s t [tag, 0x05, 0, slot, BitVec.ofNat 8 (stateCode st).val, 0,
            BitVec.ofNat 8 (min 15 weight.toNat)]
        ∧ (t.slots.get i).state = st ∧ (st = .admitting ∨ st = .inService)
        ∧ (st = .inService ↔ slotTarget t i ≤ slotHeld t i ∧ movesTo t p i = 0
            ∧ ∀ e, e ∈ (t.pools.get p).plan → e.destination ≠ i)
        ∧ (t.slots.get i).pool = some p ∧ (t.slots.get i).weight = min 15 weight.toNat
        ∧ (t.slots.get i).deadlineTimer = none
        ∧ (∀ j, (t.pools.get p).targets.get j = targetOf (eligibleWeight t p) j)
        ∧ (∀ q, q ≠ p → t.pools.get q = s.pools.get q) ∧ Admitted i p s t ∧ OthersStand i s t
        ∧ t.ports = s.ports ∧ t.scanner = s.scanner
        ∧ ((s.links.get i).state = .up → (s.links.get i).lost = false →
          .admitNotice ∈ (t.links.get i).control)))

/-- R15, R16, R18, R46, R49, R51, R72, R74: RETIRE of an eligible slot that is not its pool's last member takes it to
RETIRING: to phase MOVING, with its deadline timer, while it owns bins or has frames queued, and otherwise to CONFIRMING,
with RETIRE_NOTICE asked of its link. The moves toward it abort, their held frames joining the sources' egress queues, and
its bins are planned to the eligible members. A last member is refused, or under force gives up its bins; a slot already
retiring is only reported; any other is BAD_STATE. (That the confirmation condition is evaluated within the entry to
RETIRING, after the loss of eligibility, so that a slot with nothing left goes on to CONFIRMING at once with its deadline
timer stopped, is the model's inference, log entry 17.) -/
def Obligations.RetirementKeepsTheLastMember : Prop :=
  ∀ s tag slot force (i : SlotIx), Heads (.retire tag slot force) s → slot.toNat = i.val + 1 →
    let r := s.slots.get i
    (r.state ∈ [.empty, .seated, .probing, .standby, .drained, .faulted, .fenced] →
      exec (.retire tag slot force) s = .next (answered s [tag, 0x06, 4]))
    ∧ (∀ phase, r.state = .retiring phase →
      exec (.retire tag slot force) s = .next (answered s [tag, 0x06, 0, slot, 6,
        match phase with
          | .moving => 1
          | .confirming => 2, BitVec.ofNat 8 r.weight]))
    ∧ (r.state.eligible = true → isLastMember s i = true → force = 0 →
      exec (.retire tag slot force) s = .next (answered s [tag, 0x06, 7]))
    ∧ (BinLaws s → r.state.eligible = true → isLastMember s i = false ∨ force ≠ 0 →
      ∃ t phase, exec (.retire tag slot force) s = .next t
        ∧ Answers s t [tag, 0x06, 0, slot, 6,
            match phase with
              | .moving => 1
              | .confirming => 2, BitVec.ofNat 8 r.weight]
        ∧ (t.slots.get i).state = .retiring phase ∧ flagSet t i .stateChanged = true ∧ SlotEventFrame i s t
        ∧ (phase = .moving → (t.slots.get i).deadlineTimer
            = if r.retireDeadline = 0 then none else some (1000 * r.retireDeadline))
        ∧ (phase = .confirming → (t.slots.get i).deadlineTimer = none
            ∧ (t.slots.get i).ackTimer = some s.agent.ackTimeout)
        ∧ (∀ e m, t.engines.get e = some m → m.destination ≠ i)
        ∧ (isLastMember s i = false → slotHeld t i = slotHeld s i)
        ∧ (isLastMember s i = true → slotHeld t i = 0)
        ∧ (phase = .confirming ↔ slotHeld t i = 0 ∧ t.egress.get i = [])
        ∧ (phase = .confirming → (s.links.get i).state = .up → (s.links.get i).lost = false →
          .retireNotice ∈ (t.links.get i).control)
        ∧ (∀ p, r.pool = some p → MovesAborted i p s t ∧ PlanBuilt t p
          ∧ (∀ j, (t.pools.get p).targets.get j = targetOf (eligibleWeight t p) j)
          ∧ ∀ b, ((s.pools.get p).bins.get b).owner ≠ .unowned → ((t.pools.get p).bins.get b).owner
            = if isLastMember s i = true ∧ ((s.pools.get p).bins.get b).owner = .owned i then .unowned
              else ((s.pools.get p).bins.get b).owner))

/-- R7, R28, R30, R74: FENCE and SLOT_RESET take a slot out of its pool whole: no bin stays with it, no move has it, both its
queues are empty, and each move toward it has aborted, its bin staying with its source. FENCE parks an UP link and darkens a
training one; SLOT_RESET trains the link anew and clears progress and monitor, and without force is refused HOLDS_BINS where
the slot has a bin or a move. -/
def Obligations.FenceAndResetEmptyTheSlot : Prop :=
  (∀ s tag slot (i : SlotIx), Heads (.fence tag slot) s → slot.toNat = i.val + 1 →
    let r := s.slots.get i
    (r.state = .empty ∨ r.state = .fenced → exec (.fence tag slot) s = .next (answered s [tag, 0x07, 4]))
    ∧ (BinLaws s → r.state ≠ .empty → r.state ≠ .fenced →
      ∃ t, exec (.fence tag slot) s = .next t
        ∧ Answers s t [tag, 0x07, 0, slot, 9, 0, BitVec.ofNat 8 r.weight]
        ∧ (t.slots.get i).state = .fenced ∧ (t.slots.get i).timersStopped ∧ SlotEventFrame i s t
        ∧ ((s.links.get i).state = .up ∨ (s.links.get i).state = .parked → (t.links.get i).state = .parked)
        ∧ ((s.links.get i).state = .training ∨ (s.links.get i).state = .dark → (t.links.get i).state = .dark)
        ∧ t.egress.get i = [] ∧ (t.upstream.get i).queue = [] ∧ inActiveMove t i = false
        ∧ (∀ p b, ((t.pools.get p).bins.get b).owner ≠ .owned i)
        ∧ (∀ e m, s.engines.get e = some m → m.destination = i → m.source ≠ i →
          ((t.pools.get m.pool).bins.get m.bin).owner = .owned m.source
            ∧ ((t.pools.get m.pool).bins.get m.bin).engine = none)
        ∧ ∀ p, t.poolCount p .abortedMoves = counterAdd (s.poolCount p .abortedMoves) (movesTo s p i)))
  ∧ (∀ s tag slot force (i : SlotIx), Heads (.slotReset tag slot force) s → slot.toNat = i.val + 1 →
    let r := s.slots.get i
    let powered := (s.ports.get i).power.accepted
    let holds := 0 < slotHeld s i ∨ inActiveMove s i = true
    (r.state = .empty ∨ powered = false →
      exec (.slotReset tag slot force) s = .next (answered s [tag, 0x0A, 4]))
    ∧ (r.state ≠ .empty → powered = true → holds → force = 0 →
      exec (.slotReset tag slot force) s = .next (answered s [tag, 0x0A, 8]))
    ∧ (BinLaws s → r.state ≠ .empty → powered = true → ¬ holds ∨ force ≠ 0 →
      ∃ t, exec (.slotReset tag slot force) s = .next t
        ∧ Answers s t [tag, 0x0A, 0, slot, 1, 0, BitVec.ofNat 8 r.weight]
        ∧ (t.slots.get i).state = .seated ∧ (t.slots.get i).timersStopped ∧ SlotEventFrame i s t
        ∧ (t.slots.get i).echoes = 0
        ∧ (t.slots.get i).beaconsQualified = false
        ∧ (t.links.get i).state = .training ∧ (t.links.get i).attemptTimer = some 50
        ∧ (t.links.get i).train = some ⟨if r.rateMode = .half then .half else .full, 1, s.agent.trainingAttempts,
            r.rateMode⟩
        ∧ (t.monitors.get i).phase = .idle ∧ (t.monitors.get i).run = 0 ∧ (t.monitors.get i).latchedCount = 0
        ∧ t.egress.get i = [] ∧ (t.upstream.get i).queue = [] ∧ inActiveMove t i = false
        ∧ (∀ p b, ((t.pools.get p).bins.get b).owner ≠ .owned i)
        ∧ (∀ e m, s.engines.get e = some m → m.destination = i → m.source ≠ i →
          ((t.pools.get m.pool).bins.get m.bin).owner = .owned m.source
            ∧ ((t.pools.get m.pool).bins.get m.bin).engine = none)
        ∧ ∀ p, t.poolCount p .abortedMoves = counterAdd (s.poolCount p .abortedMoves) (movesTo s p i)))

/-- R4, R9, R28, R29: UNFENCE of a fenced slot and REQUALIFY of a faulted one, where its power is good, seat the slot and
train its link from the first attempt; REQUALIFY of a DRAINED slot resumes its link and probes it, or faults it where its
class is not the one expected; every other case is BAD_STATE. A probed slot's progress is cleared, as R4 says of each entry to
PROBING. (That a slot of the wrong class enters PROBING before FAULTED, and so has its progress cleared too, is the model's
inference, log entry 16.) -/
def Obligations.UnfenceAndRequalifyBringTheSlotBack : Prop :=
  (∀ s tag slot (i : SlotIx) code, slot.toNat = i.val + 1 →
    let r := s.slots.get i
    let c := if code = 0x08#8 then Instr.unfence tag slot else .requalify tag slot
    Heads c s → (code = 0x08 ∧ r.state = .fenced ∨ code = 0x09 ∧ r.state = .faulted) →
    ((s.ports.get i).power.accepted = false → exec c s = .next (answered s [tag, code, 4]))
    ∧ ((s.ports.get i).power.accepted = true →
      ∃ t, exec c s = .next t ∧ Answers s t [tag, code, 0, slot, 1, 0, BitVec.ofNat 8 r.weight]
        ∧ (t.slots.get i).state = .seated ∧ (t.slots.get i).lastFault = r.lastFault
        ∧ (t.links.get i).state = .training ∧ (t.links.get i).attemptTimer = some 50
        ∧ (t.links.get i).train = some ⟨if r.rateMode = .half then .half else .full, 1, s.agent.trainingAttempts,
            r.rateMode⟩
        ∧ (∀ j, j ≠ i → t.slots.get j = s.slots.get j) ∧ SlotEventFrame i s t))
  ∧ (∀ s tag slot (i : SlotIx), slot.toNat = i.val + 1 →
    (Heads (.unfence tag slot) s → (s.slots.get i).state ≠ .fenced →
      exec (.unfence tag slot) s = .next (answered s [tag, 0x08, 4]))
    ∧ (Heads (.requalify tag slot) s → (s.slots.get i).state ≠ .faulted → (s.slots.get i).state ≠ .drained →
      exec (.requalify tag slot) s = .next (answered s [tag, 0x09, 4])))
  ∧ (∀ s tag slot (i : SlotIx), Heads (.requalify tag slot) s → slot.toNat = i.val + 1 →
    (s.slots.get i).state = .drained → (s.links.get i).state = .parked →
    let r := s.slots.get i
    let passes := r.expectedClass = 0 ∨ r.expectedClass = (s.ports.get i).bladeClass.accepted.toNat
    (passes → ∃ t, exec (.requalify tag slot) s = .next t
      ∧ Answers s t [tag, 0x09, 0, slot, 2, 0, BitVec.ofNat 8 r.weight]
      ∧ (t.slots.get i).state = .probing ∧ (t.slots.get i).echoes = 0 ∧ (t.slots.get i).beaconsQualified = false
      ∧ (t.slots.get i).probeTimer = some 50 ∧ (t.slots.get i).qualifyTimer = some s.agent.qualifyLimit
      ∧ (t.links.get i).state = .up ∧ (t.links.get i).lost = false
      ∧ (t.links.get i).train = (s.links.get i).train
      ∧ (t.links.get i).lockLossTimer = (if (s.links.get i).lock then none else some 1000)
      ∧ (t.links.get i).control = (s.links.get i).control ++ (List.finRange 8).map ControlFrame.probe
      ∧ SlotEventFrame i s t)
    ∧ (¬ passes → ∃ t, exec (.requalify tag slot) s = .next t
      ∧ Answers s t [tag, 0x09, 0, slot, 8, 0, BitVec.ofNat 8 r.weight]
      ∧ (t.slots.get i).state = .faulted ∧ (t.slots.get i).lastFault = some .classMismatch
      ∧ (t.slots.get i).echoes = 0 ∧ (t.slots.get i).beaconsQualified = false
      ∧ (t.links.get i).state = .dark ∧ SlotEventFrame i s t))

/-- R37, R52, R53: POOL_ENABLE of a disabled pool opens its adoption window where it has STALE bins and a window setting, and
otherwise makes them UNOWNED, its settings and counters and every other pool as they were; a pool with a holding member
refuses POOL_DISABLE; another is disabled with its timers stopped and its plan empty. A pool already as asked is only
reported. -/
def Obligations.PoolsAreEnabledAndDisabled : Prop :=
  (∀ s tag pool (p : PoolIx), Heads (.poolEnable tag pool) s → pool.toNat = p.val →
    let r := s.pools.get p
    let stale := ∃ b i, (r.bins.get b).owner = .stale i
    (r.enabled = true → exec (.poolEnable tag pool) s = .next (answered s
      ([tag, 0x0E, 0, pool, 1, if isDark s p then 1 else 0]
        ++ bytes16 (BitVec.ofNat 16 (r.adoptionTimer.getD 0xFFFF)))))
    ∧ (BinLaws s → r.enabled = false → stale → r.adoptionWindow ≠ 0 →
      ∃ t, exec (.poolEnable tag pool) s = .next t
        ∧ (t.pools.get p).enabled = true ∧ (t.pools.get p).adoptionTimer = some (1000 * r.adoptionWindow)
        ∧ (t.pools.get p).plan = [] ∧ (t.pools.get p).bins = r.bins ∧ isDark t p = true
        ∧ (∀ j, (t.pools.get p).targets.get j = 0)
        ∧ t.pools.get p = { r with
            enabled := true, adoptionTimer := (t.pools.get p).adoptionTimer
            targets := (t.pools.get p).targets, plan := [] }
        ∧ (∀ q, q ≠ p → t.pools.get q = s.pools.get q)
        ∧ t = { answered s ([tag, 0x0E, 0, pool, 1, 1]
            ++ bytes16 (BitVec.ofNat 16 (1000 * r.adoptionWindow))) with pools := t.pools })
    ∧ (BinLaws s → r.enabled = false → r.adoptionTimer = none → ¬ stale ∨ r.adoptionWindow = 0 →
      ∃ t, exec (.poolEnable tag pool) s = .next t
        ∧ (t.pools.get p).enabled = true ∧ (t.pools.get p).adoptionTimer = none
        ∧ (t.pools.get p).plan = [] ∧ isDark t p = true
        ∧ (∀ b, (t.pools.get p).bins.get b = { r.bins.get b with owner := .unowned })
        ∧ (∀ j, (t.pools.get p).targets.get j = 0)
        ∧ t.pools.get p = { r with
            enabled := true, adoptionTimer := none
            targets := (t.pools.get p).targets, plan := [], bins := (t.pools.get p).bins }
        ∧ (∀ q, q ≠ p → t.pools.get q = s.pools.get q)
        ∧ t = { answered s [tag, 0x0E, 0, pool, 1, 1, 0xFF, 0xFF] with pools := t.pools }))
  ∧ (∀ s tag pool (p : PoolIx), Heads (.poolDisable tag pool) s → pool.toNat = p.val →
    ((∃ i, isHolding s p i = true) → exec (.poolDisable tag pool) s = .next (answered s [tag, 0x0F, 4]))
    ∧ ((∀ i, isHolding s p i = false) → (s.pools.get p).enabled = true →
      exec (.poolDisable tag pool) s = .next { answered s [tag, 0x0F, 0, pool, 0, 0, 0xFF, 0xFF] with
        pools := s.pools.modify p fun r =>
          { r with enabled := false, adoptionTimer := none, rampTimer := none, plan := [] } })
    ∧ ((∀ i, isHolding s p i = false) → (s.pools.get p).enabled = false →
      exec (.poolDisable tag pool) s = .next (answered s
        ([tag, 0x0F, 0, pool, 0, 0] ++ bytes16 (BitVec.ofNat 16 ((s.pools.get p).adoptionTimer.getD 0xFFFF))))))

/-- R190, R194: CLEAR_ATTENTION clears the flags its mask names, of a slot or, for slot 0, of the device, and refuses a bit
that names none with RANGE; CLEAR_COUNTERS makes all 328 counters 0 and changes nothing else. -/
def Obligations.ClearsClearWhatTheyName : Prop :=
  (∀ s tag slot mask (i : SlotIx), Heads (.clearAttention tag slot mask) s → slot.toNat = i.val + 1 →
    (2048 ≤ mask.toNat → exec (.clearAttention tag slot mask) s = .next (answered s [tag, 0x1A, 5]))
    ∧ (mask.toNat < 2048 → ∃ flags : BitVec 11,
      (∀ k, k < 11 → flags.getLsbD k = ((s.slots.get i).attention.getLsbD k && !mask.getLsbD k))
      ∧ exec (.clearAttention tag slot mask) s
        = .next ((answered s ([tag, 0x1A, 0, slot] ++ bytes16 (flags.setWidth 16))).updSlot i fun r =>
            { r with attention := flags })))
  ∧ (∀ s tag mask, Heads (.clearAttention tag 0 mask) s →
    (4 ≤ mask.toNat → exec (.clearAttention tag 0 mask) s = .next (answered s [tag, 0x1A, 5]))
    ∧ (mask.toNat < 4 → ∃ flags : BitVec 2,
      (∀ k, k < 2 → flags.getLsbD k = (s.agent.deviceFlags.getLsbD k && !mask.getLsbD k))
      ∧ exec (.clearAttention tag 0 mask) s
        = .next ((answered s ([tag, 0x1A, 0, 0] ++ bytes16 (flags.setWidth 16))).updAgent fun a =>
            { a with deviceFlags := flags })))
  ∧ (∀ s tag, Heads (.clearCounters tag) s →
    ∃ t, exec (.clearCounters tag) s = .next t
      ∧ (∀ c, t.coreCount c = 0) ∧ (∀ p c, t.poolCount p c = 0) ∧ (∀ i c, t.slotCount i c = 0)
      ∧ (∀ c, t.agentCount c = 0)
      ∧ t = { answered s [tag, 0x1C, 0] with
          core := { s.core with counters := t.core.counters }
          slotCounters := t.slotCounters
          pools := Table.tab fun p => { s.pools.get p with counters := (t.pools.get p).counters }
          agent := { (answered s [tag, 0x1C, 0]).agent with counters := t.agent.counters } })

/-- R60, R78, R83, R96, R100, R111, R118, R138, R187, R188, R195, R196, R202: RESTART aborts every move, counted in
ABORTED_MOVES, and empties every hold list, egress and upstream queue, every frame counted FLUSHED, ending a data frame in
transmission; a slot that is PAUSED becomes CLEAR, with PAUSE(0) sent to it in an accepting state, and a CLEAR one is sent no
PAUSE; owners, pool settings, link states, receptions and control frames in transmission stay; RESTARTED is raised, its
notice the last one offered, and the restart is recorded and answered. (That a transmission ended with an abort marker leaves
its transmitter at once is presumed, log entry 19.) -/
def Obligations.RestartEmptiesTheTraffic : Prop :=
  ∀ s tag, Heads (.restart tag) s →
    ∃ t, exec (.restart tag) s = .next t
      ∧ Answers s t [tag, 0x1F, 0, 3, BitVec.ofNat 8 s.agent.pinResets,
          BitVec.ofNat 8 (min 255 (s.agent.restarts + 1))]
      ∧ (∀ e, t.engines.get e = none) ∧ (∀ i, t.egress.get i = [] ∧ t.upstream.get i = ⟨[], none⟩)
      ∧ (∀ p b i, ((s.pools.get p).bins.get b).owner = .owned i → ((t.pools.get p).bins.get b).owner = .owned i)
      ∧ (∀ p b i, ((s.pools.get p).bins.get b).owner = .stale i → ((t.pools.get p).bins.get b).owner = .stale i)
      ∧ t.agent.lastCause = .restart ∧ t.agent.pinResets = s.agent.pinResets
      ∧ t.agent.restarts = min 255 (s.agent.restarts + 1) ∧ t.agent.deviceFlags.getLsbD 0 = true
      ∧ (∀ i, (t.links.get i).state = (s.links.get i).state
        ∧ ((t.slots.get i).state = (s.slots.get i).state
          ∨ (s.slots.get i).state = .admitting ∧ (t.slots.get i).state = .inService
          ∨ (s.slots.get i).state = .retiring .moving ∧ (t.slots.get i).state = .retiring .confirming))
      ∧ t.ports = s.ports ∧ t.monitors = s.monitors ∧ t.scanner = s.scanner ∧ t.lamps = s.lamps
      ∧ (∀ i, t.slotCount i .flushed = counterAdd (s.slotCount i .flushed)
          ((s.egress.get i).length + (s.upstream.get i).queue.length
            + ((List.finRange 4).map fun e => match s.engines.get e with
                | some m => if m.source = i then m.hold.length else 0
                | none => 0).sum))
      ∧ (∀ p, t.poolCount p .abortedMoves = counterAdd (s.poolCount p .abortedMoves) (activeMoves s p))
      ∧ (∀ p, t.pools.get p = { s.pools.get p with
          targets := (t.pools.get p).targets, plan := (t.pools.get p).plan, bins := (t.pools.get p).bins
          counters := (t.pools.get p).counters })
      ∧ t.core = { s.core with tx := match s.core.tx with
          | .upstream _ _ => .idle
          | .idle => .idle
          | .mgmt bytes => .mgmt bytes }
      ∧ (∀ i, t.links.get i = { s.links.get i with
          control := (t.links.get i).control
          tx := if (s.links.get i).tx = some .data then none else (s.links.get i).tx })
      ∧ (∀ i, (t.slots.get i).state = (s.slots.get i).state → t.slots.get i = s.slots.get i)
      ∧ (∀ i,
        ((s.upstream.get i).pause ≠ none → (s.slots.get i).state.accepting = true →
          t.slotCount i .pauseSent = counterAdd (s.slotCount i .pauseSent) 1
          ∧ ((s.links.get i).state = .up → (s.links.get i).lost = false → .pause 0 ∈ (t.links.get i).control))
        ∧ ((s.upstream.get i).pause = none ∨ (s.slots.get i).state.accepting = false →
          t.slotCount i .pauseSent = s.slotCount i .pauseSent
          ∧ (t.links.get i).control.filter ControlFrame.isPause = (s.links.get i).control.filter ControlFrame.isPause))
      ∧ (s.agent.noticesEnabled = true → s.agent.deviceFlags.getLsbD 0 = false →
        t.agent.transmit.getLast? = some [0, 0x80, 0, 16, 0xFF, 0, 0xFF, 0] ∨ 16 ≤ t.agent.transmit.length)

/-- 95: one step takes the command at the front of the queue and runs it on the state with the queue's rest; on an empty
queue the part's own clock goes one microsecond on, modulo 25 ms. (The queue of commands, the idle step, and the one count of
microseconds for all the dividers are the model's: log entries 1, 3 and 22.) -/
def Obligations.StepRunsTheFrontCommand : Prop :=
  (∀ s c rest, s.pending = c :: rest → step s = exec c { s with pending := rest })
  ∧ (∀ s, s.pending = [] → ∃ t, step s = .next t ∧ t.micros = (s.micros + 1) % 25000 ∧ t.pending = [])

/-- R180, R184, R201: every request a sender can form, written as its queue entry, is read back as that same request, with
every field at every value. -/
def Obligations.EveryRequestIsReadAsItWasWritten : Prop :=
  ∀ i e, wellFormed i = true → encodeRequest i = some e → decodeRequest e = i

/-- R39, R40, R56, R85, R120, R139: the part right after power-on satisfies the laws that every step keeps. (State.reset is
the moment before the first cycle, with idle transmitters: the model's choices, log entries 12 and 23; the cells in use, log
entry 6, and the field for lock gained in an attempt, log entry 10, are its inferences.) -/
def Obligations.ResetSatisfiesTheLaws : Prop :=
  WithinBounds State.reset ∧ InflightLaw State.reset ∧ BinLaws State.reset ∧ LinkLaws State.reset

/-- R34, R182, R187, R188, R202: raising a clear flag of a slot sets it and offers one notice of it with the slot's state,
and raising a clear flag of the device one notice of slot 0 with no states; raising a set flag does nothing; a change of
state sets STATE_CHANGED and offers one notice of the old and new state each time. An offered notice joins the transmit
queue, or at a full queue is counted in NOTICE_DROPS, and with notices disabled neither. -/
def Obligations.NoticesReportNewFlagsAndChanges : Prop :=
  (∀ s i f, flagSet s i f = true → raiseFlag i f s = s)
  ∧ (∀ s i f, flagSet s i f = false →
    let st := (s.slots.get i).state
    let t := s.updSlot i fun r => { r with attention := r.attention ||| 1#11 <<< flagBit f }
    let notice : List Byte := [0, 0x80, BitVec.ofNat 8 (i.val + 1), BitVec.ofNat 8 (flagBit f),
      BitVec.ofNat 8 (stateCode st).val, BitVec.ofNat 8 (phaseCode st),
      BitVec.ofNat 8 (stateCode st).val, BitVec.ofNat 8 (phaseCode st)]
    flagSet t i f = true
      ∧ (s.agent.noticesEnabled = false → raiseFlag i f s = t)
      ∧ (s.agent.noticesEnabled = true → s.agent.transmit.length < 16 → raiseFlag i f s
          = { t with agent := { s.agent with transmit := s.agent.transmit ++ [notice] } })
      ∧ (s.agent.noticesEnabled = true → 16 ≤ s.agent.transmit.length → raiseFlag i f s = bumpAgent .noticeDrops t))
  ∧ (∀ s f, s.agent.deviceFlags.getLsbD (deviceBit f) = true → raiseDeviceFlag f s = s)
  ∧ (∀ s f, s.agent.deviceFlags.getLsbD (deviceBit f) = false →
    let t := s.updAgent fun a =>
      { a with deviceFlags := a.deviceFlags ||| match f with
          | .restarted => 1
          | .pinReset => 2 }
    let notice : List Byte := [0, 0x80, 0, match f with
      | .restarted => 16
      | .pinReset => 17, 0xFF, 0, 0xFF, 0]
    (s.agent.noticesEnabled = false → raiseDeviceFlag f s = t)
      ∧ (s.agent.noticesEnabled = true → s.agent.transmit.length < 16 → raiseDeviceFlag f s
          = { t with agent := { t.agent with transmit := s.agent.transmit ++ [notice] } })
      ∧ (s.agent.noticesEnabled = true → 16 ≤ s.agent.transmit.length →
          raiseDeviceFlag f s = bumpAgent .noticeDrops t))
  ∧ (∀ s i new, (s.slots.get i).state ≠ new →
    let st := (s.slots.get i).state
    let t := s.updSlot i fun r =>
      { r with
        state := new, attention := r.attention ||| 1#11 <<< 10
        probeTimer := none, qualifyTimer := none, deadlineTimer := none, ackTimer := none }
    let notice : List Byte := [0, 0x80, BitVec.ofNat 8 (i.val + 1), 10,
      BitVec.ofNat 8 (stateCode st).val, BitVec.ofNat 8 (phaseCode st),
      BitVec.ofNat 8 (stateCode new).val, BitVec.ofNat 8 (phaseCode new)]
    (s.agent.noticesEnabled = false → changeState i new s = t)
      ∧ (s.agent.noticesEnabled = true → s.agent.transmit.length < 16 → changeState i new s
          = { t with agent := { s.agent with transmit := s.agent.transmit ++ [notice] } })
      ∧ (s.agent.noticesEnabled = true → 16 ≤ s.agent.transmit.length →
          changeState i new s = bumpAgent .noticeDrops t))

/-- R63, R85, R93, R103, R120–R124, R126, R132, R139–R146, R183, R185: no step takes a queue past its capacity or the Frame
Buffer past its 2,048 cells; and every step keeps the laws of the link and monitor records: what is absent, stopped or empty
outside its link state, attempts within their limit, a control list of at most eleven frames, none twice, counts, limits and
runs within their ranges, and a monitor that counts only while its link carries frames. (The cells in use, log entry 6, the
field for lock gained in an attempt, log entry 10, and that a loss of lock ends a control frame in transmission, log entry
20, are the model's inferences; the idle step is its choice, log entry 3.) -/
def Obligations.StepsStayWithinBounds : Prop :=
  (∀ s t, WithinBounds s → step s = .next t → WithinBounds t)
  ∧ (∀ s t, LinkLaws s → step s = .next t → LinkLaws t)

/-- R36, R39, R42, R47, R56: every step keeps the laws of the Bin Table and of moves: an enabled pool's bins are owned by its
holding members, an UNOWNED bin is left only in a dark pool or an open window, targets are those of the eligible members, and
moves and plans name owned bins and eligible destinations. (The commands and the idle step are the model's choices, log
entries 1 and 3.) -/
def Obligations.StepsKeepTheBinLaws : Prop :=
  ∀ s t, BinLaws s → step s = .next t → BinLaws t

/-- R40: every step keeps the law of in-flight counts: a bin's count is the number of its frames in egress queues. (The
commands and the idle step are the model's choices, log entries 1 and 3.) -/
def Obligations.StepsKeepTheInflightLaw : Prop :=
  ∀ s t, InflightLaw s → step s = .next t → InflightLaw t

/-- R3, R34, R190, R194: only CLEAR_COUNTERS and the two resets lower a counter; only CLEAR_ATTENTION and the two resets
clear a slot's attention flag; a slot leaves EMPTY only at the end of a read cycle. -/
def Obligations.CountersFlagsAndEmptySlotsStand : Prop :=
  ∀ c s t, exec c s = .next t → c ≠ .powerOn → c ≠ .pinReset →
    ((∀ tag, c ≠ .clearCounters tag) → CountersRise s t)
    ∧ ((∀ tag slot mask, c ≠ .clearAttention tag slot mask) → ∀ i f, flagSet s i f = true → flagSet t i f = true)
    ∧ ((∀ ack word check, c ≠ .readCycleEnd ack word check) →
      ∀ i, (s.slots.get i).state = .empty → (t.slots.get i).state = .empty)
end

