-- ==== Sys2Proof/Laws/Table.lean ====
section
/-! SUPPORT. The laws of the fixed-size tables: a read after a write, and extensionality. -/

namespace Sys2Proof

variable {α : Type} {n : Nat}

@[simp] theorem Table.get_set_self (t : Table α n) (i : Fin n) (a : α) : (t.set i a).get i = a := by
  simp [Table.get, Table.set]

theorem Table.get_set_of_ne (t : Table α n) {i j : Fin n} (h : j ≠ i) (a : α) : (t.set i a).get j = t.get j := by
  have : i.val ≠ j.val := fun e => h (Fin.ext e.symm)
  simp [Table.get, Table.set, this]

theorem Table.get_set (t : Table α n) (i j : Fin n) (a : α) : (t.set i a).get j = if j = i then a else t.get j := by
  split
  · next h => rw [h, Table.get_set_self]
  · next h => exact Table.get_set_of_ne t h a

@[simp] theorem Table.get_modify_self (t : Table α n) (i : Fin n) (f : α → α) :
    (t.modify i f).get i = f (t.get i) := Table.get_set_self t i _

theorem Table.get_modify_of_ne (t : Table α n) {i j : Fin n} (h : j ≠ i) (f : α → α) :
    (t.modify i f).get j = t.get j := Table.get_set_of_ne t h _

theorem Table.get_modify (t : Table α n) (i j : Fin n) (f : α → α) :
    (t.modify i f).get j = if j = i then f (t.get i) else t.get j := Table.get_set t i j _

@[simp] theorem Table.get_fill (i : Fin n) (a : α) : (Table.fill n a).get i = a := by
  simp [Table.get, Table.fill]

@[simp] theorem Table.get_tab (f : Fin n → α) (i : Fin n) : (Table.tab f).get i = f i := by
  simp [Table.get, Table.tab]

theorem Table.ext_get {t u : Table α n} (h : ∀ i, t.get i = u.get i) : t = u := by
  obtain ⟨ts, ht⟩ := t
  obtain ⟨us, hu⟩ := u
  have : ts = us := List.ext_getElem (ht.trans hu.symm) fun k hk _ => h ⟨k, ht ▸ hk⟩
  subst this
  rfl

theorem Table.set_get (t : Table α n) (i : Fin n) : t.set i (t.get i) = t :=
  Table.ext_get fun j => by
    rw [Table.get_set]
    split
    · next h => rw [h]
    · rfl

theorem Table.cells_eq_map (t : Table α n) : t.cells = (List.finRange n).map t.get := by
  have h : t = Table.tab t.get := Table.ext_get fun i => (Table.get_tab t.get i).symm
  exact congrArg Table.cells h

theorem Table.mem_cells (t : Table α n) (a : α) : a ∈ t.cells ↔ ∃ i, t.get i = a := by
  rw [Table.cells_eq_map]
  simp

end Sys2Proof
end

