-- ==== Sys2Proof/Laws/State.lean ====
section
/-! SUPPORT. What each update of the state leaves in each field, so that no proof unfolds an update. -/

namespace Sys2Proof.Machine

variable (s : State)

section updSlot

variable (i : SlotIx) (f : SlotRecord → SlotRecord)

@[simp] theorem State.updSlot_slots : (s.updSlot i f).slots = s.slots.modify i f := rfl
@[simp] theorem State.updSlot_pools : (s.updSlot i f).pools = s.pools := rfl
@[simp] theorem State.updSlot_engines : (s.updSlot i f).engines = s.engines := rfl
@[simp] theorem State.updSlot_arbiter : (s.updSlot i f).arbiter = s.arbiter := rfl
@[simp] theorem State.updSlot_egress : (s.updSlot i f).egress = s.egress := rfl
@[simp] theorem State.updSlot_upstream : (s.updSlot i f).upstream = s.upstream := rfl
@[simp] theorem State.updSlot_links : (s.updSlot i f).links = s.links := rfl
@[simp] theorem State.updSlot_monitors : (s.updSlot i f).monitors = s.monitors := rfl
@[simp] theorem State.updSlot_ports : (s.updSlot i f).ports = s.ports := rfl
@[simp] theorem State.updSlot_scanner : (s.updSlot i f).scanner = s.scanner := rfl
@[simp] theorem State.updSlot_lamps : (s.updSlot i f).lamps = s.lamps := rfl
@[simp] theorem State.updSlot_agent : (s.updSlot i f).agent = s.agent := rfl
@[simp] theorem State.updSlot_core : (s.updSlot i f).core = s.core := rfl
@[simp] theorem State.updSlot_slotCounters : (s.updSlot i f).slotCounters = s.slotCounters := rfl
@[simp] theorem State.updSlot_micros : (s.updSlot i f).micros = s.micros := rfl
@[simp] theorem State.updSlot_freeDraws : (s.updSlot i f).freeDraws = s.freeDraws := rfl
@[simp] theorem State.updSlot_pending : (s.updSlot i f).pending = s.pending := rfl

end updSlot

section updPool

variable (p : PoolIx) (f : PoolRecord → PoolRecord)

@[simp] theorem State.updPool_slots : (s.updPool p f).slots = s.slots := rfl
@[simp] theorem State.updPool_pools : (s.updPool p f).pools = s.pools.modify p f := rfl
@[simp] theorem State.updPool_engines : (s.updPool p f).engines = s.engines := rfl
@[simp] theorem State.updPool_arbiter : (s.updPool p f).arbiter = s.arbiter := rfl
@[simp] theorem State.updPool_egress : (s.updPool p f).egress = s.egress := rfl
@[simp] theorem State.updPool_upstream : (s.updPool p f).upstream = s.upstream := rfl
@[simp] theorem State.updPool_links : (s.updPool p f).links = s.links := rfl
@[simp] theorem State.updPool_monitors : (s.updPool p f).monitors = s.monitors := rfl
@[simp] theorem State.updPool_ports : (s.updPool p f).ports = s.ports := rfl
@[simp] theorem State.updPool_scanner : (s.updPool p f).scanner = s.scanner := rfl
@[simp] theorem State.updPool_lamps : (s.updPool p f).lamps = s.lamps := rfl
@[simp] theorem State.updPool_agent : (s.updPool p f).agent = s.agent := rfl
@[simp] theorem State.updPool_core : (s.updPool p f).core = s.core := rfl
@[simp] theorem State.updPool_slotCounters : (s.updPool p f).slotCounters = s.slotCounters := rfl
@[simp] theorem State.updPool_micros : (s.updPool p f).micros = s.micros := rfl
@[simp] theorem State.updPool_freeDraws : (s.updPool p f).freeDraws = s.freeDraws := rfl
@[simp] theorem State.updPool_pending : (s.updPool p f).pending = s.pending := rfl

end updPool

section updBin

variable (p : PoolIx) (b : BinIx) (f : BinRecord → BinRecord)

@[simp] theorem State.updBin_slots : (s.updBin p b f).slots = s.slots := rfl
@[simp] theorem State.updBin_pools :
    (s.updBin p b f).pools = s.pools.modify p fun r => { r with bins := r.bins.modify b f } := rfl
@[simp] theorem State.updBin_engines : (s.updBin p b f).engines = s.engines := rfl
@[simp] theorem State.updBin_arbiter : (s.updBin p b f).arbiter = s.arbiter := rfl
@[simp] theorem State.updBin_egress : (s.updBin p b f).egress = s.egress := rfl
@[simp] theorem State.updBin_upstream : (s.updBin p b f).upstream = s.upstream := rfl
@[simp] theorem State.updBin_links : (s.updBin p b f).links = s.links := rfl
@[simp] theorem State.updBin_monitors : (s.updBin p b f).monitors = s.monitors := rfl
@[simp] theorem State.updBin_ports : (s.updBin p b f).ports = s.ports := rfl
@[simp] theorem State.updBin_scanner : (s.updBin p b f).scanner = s.scanner := rfl
@[simp] theorem State.updBin_lamps : (s.updBin p b f).lamps = s.lamps := rfl
@[simp] theorem State.updBin_agent : (s.updBin p b f).agent = s.agent := rfl
@[simp] theorem State.updBin_core : (s.updBin p b f).core = s.core := rfl
@[simp] theorem State.updBin_slotCounters : (s.updBin p b f).slotCounters = s.slotCounters := rfl
@[simp] theorem State.updBin_micros : (s.updBin p b f).micros = s.micros := rfl
@[simp] theorem State.updBin_freeDraws : (s.updBin p b f).freeDraws = s.freeDraws := rfl
@[simp] theorem State.updBin_pending : (s.updBin p b f).pending = s.pending := rfl

end updBin

section setEngine

variable (e : EngineIx) (m : Option MoveRecord)

@[simp] theorem State.setEngine_slots : (s.setEngine e m).slots = s.slots := rfl
@[simp] theorem State.setEngine_pools : (s.setEngine e m).pools = s.pools := rfl
@[simp] theorem State.setEngine_engines : (s.setEngine e m).engines = s.engines.set e m := rfl
@[simp] theorem State.setEngine_arbiter : (s.setEngine e m).arbiter = s.arbiter := rfl
@[simp] theorem State.setEngine_egress : (s.setEngine e m).egress = s.egress := rfl
@[simp] theorem State.setEngine_upstream : (s.setEngine e m).upstream = s.upstream := rfl
@[simp] theorem State.setEngine_links : (s.setEngine e m).links = s.links := rfl
@[simp] theorem State.setEngine_monitors : (s.setEngine e m).monitors = s.monitors := rfl
@[simp] theorem State.setEngine_ports : (s.setEngine e m).ports = s.ports := rfl
@[simp] theorem State.setEngine_scanner : (s.setEngine e m).scanner = s.scanner := rfl
@[simp] theorem State.setEngine_lamps : (s.setEngine e m).lamps = s.lamps := rfl
@[simp] theorem State.setEngine_agent : (s.setEngine e m).agent = s.agent := rfl
@[simp] theorem State.setEngine_core : (s.setEngine e m).core = s.core := rfl
@[simp] theorem State.setEngine_slotCounters : (s.setEngine e m).slotCounters = s.slotCounters := rfl
@[simp] theorem State.setEngine_micros : (s.setEngine e m).micros = s.micros := rfl
@[simp] theorem State.setEngine_freeDraws : (s.setEngine e m).freeDraws = s.freeDraws := rfl
@[simp] theorem State.setEngine_pending : (s.setEngine e m).pending = s.pending := rfl

end setEngine

section setEgress

variable (i : SlotIx) (q : List EgressEntry)

@[simp] theorem State.setEgress_slots : (s.setEgress i q).slots = s.slots := rfl
@[simp] theorem State.setEgress_pools : (s.setEgress i q).pools = s.pools := rfl
@[simp] theorem State.setEgress_engines : (s.setEgress i q).engines = s.engines := rfl
@[simp] theorem State.setEgress_arbiter : (s.setEgress i q).arbiter = s.arbiter := rfl
@[simp] theorem State.setEgress_egress : (s.setEgress i q).egress = s.egress.set i q := rfl
@[simp] theorem State.setEgress_upstream : (s.setEgress i q).upstream = s.upstream := rfl
@[simp] theorem State.setEgress_links : (s.setEgress i q).links = s.links := rfl
@[simp] theorem State.setEgress_monitors : (s.setEgress i q).monitors = s.monitors := rfl
@[simp] theorem State.setEgress_ports : (s.setEgress i q).ports = s.ports := rfl
@[simp] theorem State.setEgress_scanner : (s.setEgress i q).scanner = s.scanner := rfl
@[simp] theorem State.setEgress_lamps : (s.setEgress i q).lamps = s.lamps := rfl
@[simp] theorem State.setEgress_agent : (s.setEgress i q).agent = s.agent := rfl
@[simp] theorem State.setEgress_core : (s.setEgress i q).core = s.core := rfl
@[simp] theorem State.setEgress_slotCounters : (s.setEgress i q).slotCounters = s.slotCounters := rfl
@[simp] theorem State.setEgress_micros : (s.setEgress i q).micros = s.micros := rfl
@[simp] theorem State.setEgress_freeDraws : (s.setEgress i q).freeDraws = s.freeDraws := rfl
@[simp] theorem State.setEgress_pending : (s.setEgress i q).pending = s.pending := rfl

end setEgress

section updUpstream

variable (i : SlotIx) (f : UpstreamRecord → UpstreamRecord)

@[simp] theorem State.updUpstream_slots : (s.updUpstream i f).slots = s.slots := rfl
@[simp] theorem State.updUpstream_pools : (s.updUpstream i f).pools = s.pools := rfl
@[simp] theorem State.updUpstream_engines : (s.updUpstream i f).engines = s.engines := rfl
@[simp] theorem State.updUpstream_arbiter : (s.updUpstream i f).arbiter = s.arbiter := rfl
@[simp] theorem State.updUpstream_egress : (s.updUpstream i f).egress = s.egress := rfl
@[simp] theorem State.updUpstream_upstream : (s.updUpstream i f).upstream = s.upstream.modify i f := rfl
@[simp] theorem State.updUpstream_links : (s.updUpstream i f).links = s.links := rfl
@[simp] theorem State.updUpstream_monitors : (s.updUpstream i f).monitors = s.monitors := rfl
@[simp] theorem State.updUpstream_ports : (s.updUpstream i f).ports = s.ports := rfl
@[simp] theorem State.updUpstream_scanner : (s.updUpstream i f).scanner = s.scanner := rfl
@[simp] theorem State.updUpstream_lamps : (s.updUpstream i f).lamps = s.lamps := rfl
@[simp] theorem State.updUpstream_agent : (s.updUpstream i f).agent = s.agent := rfl
@[simp] theorem State.updUpstream_core : (s.updUpstream i f).core = s.core := rfl
@[simp] theorem State.updUpstream_slotCounters : (s.updUpstream i f).slotCounters = s.slotCounters := rfl
@[simp] theorem State.updUpstream_micros : (s.updUpstream i f).micros = s.micros := rfl
@[simp] theorem State.updUpstream_freeDraws : (s.updUpstream i f).freeDraws = s.freeDraws := rfl
@[simp] theorem State.updUpstream_pending : (s.updUpstream i f).pending = s.pending := rfl

end updUpstream

section updLink

variable (i : SlotIx) (f : LinkRecord → LinkRecord)

@[simp] theorem State.updLink_slots : (s.updLink i f).slots = s.slots := rfl
@[simp] theorem State.updLink_pools : (s.updLink i f).pools = s.pools := rfl
@[simp] theorem State.updLink_engines : (s.updLink i f).engines = s.engines := rfl
@[simp] theorem State.updLink_arbiter : (s.updLink i f).arbiter = s.arbiter := rfl
@[simp] theorem State.updLink_egress : (s.updLink i f).egress = s.egress := rfl
@[simp] theorem State.updLink_upstream : (s.updLink i f).upstream = s.upstream := rfl
@[simp] theorem State.updLink_links : (s.updLink i f).links = s.links.modify i f := rfl
@[simp] theorem State.updLink_monitors : (s.updLink i f).monitors = s.monitors := rfl
@[simp] theorem State.updLink_ports : (s.updLink i f).ports = s.ports := rfl
@[simp] theorem State.updLink_scanner : (s.updLink i f).scanner = s.scanner := rfl
@[simp] theorem State.updLink_lamps : (s.updLink i f).lamps = s.lamps := rfl
@[simp] theorem State.updLink_agent : (s.updLink i f).agent = s.agent := rfl
@[simp] theorem State.updLink_core : (s.updLink i f).core = s.core := rfl
@[simp] theorem State.updLink_slotCounters : (s.updLink i f).slotCounters = s.slotCounters := rfl
@[simp] theorem State.updLink_micros : (s.updLink i f).micros = s.micros := rfl
@[simp] theorem State.updLink_freeDraws : (s.updLink i f).freeDraws = s.freeDraws := rfl
@[simp] theorem State.updLink_pending : (s.updLink i f).pending = s.pending := rfl

end updLink

section updMonitor

variable (i : SlotIx) (f : MonitorRecord → MonitorRecord)

@[simp] theorem State.updMonitor_slots : (s.updMonitor i f).slots = s.slots := rfl
@[simp] theorem State.updMonitor_pools : (s.updMonitor i f).pools = s.pools := rfl
@[simp] theorem State.updMonitor_engines : (s.updMonitor i f).engines = s.engines := rfl
@[simp] theorem State.updMonitor_arbiter : (s.updMonitor i f).arbiter = s.arbiter := rfl
@[simp] theorem State.updMonitor_egress : (s.updMonitor i f).egress = s.egress := rfl
@[simp] theorem State.updMonitor_upstream : (s.updMonitor i f).upstream = s.upstream := rfl
@[simp] theorem State.updMonitor_links : (s.updMonitor i f).links = s.links := rfl
@[simp] theorem State.updMonitor_monitors : (s.updMonitor i f).monitors = s.monitors.modify i f := rfl
@[simp] theorem State.updMonitor_ports : (s.updMonitor i f).ports = s.ports := rfl
@[simp] theorem State.updMonitor_scanner : (s.updMonitor i f).scanner = s.scanner := rfl
@[simp] theorem State.updMonitor_lamps : (s.updMonitor i f).lamps = s.lamps := rfl
@[simp] theorem State.updMonitor_agent : (s.updMonitor i f).agent = s.agent := rfl
@[simp] theorem State.updMonitor_core : (s.updMonitor i f).core = s.core := rfl
@[simp] theorem State.updMonitor_slotCounters : (s.updMonitor i f).slotCounters = s.slotCounters := rfl
@[simp] theorem State.updMonitor_micros : (s.updMonitor i f).micros = s.micros := rfl
@[simp] theorem State.updMonitor_freeDraws : (s.updMonitor i f).freeDraws = s.freeDraws := rfl
@[simp] theorem State.updMonitor_pending : (s.updMonitor i f).pending = s.pending := rfl

end updMonitor

section updPort

variable (i : SlotIx) (f : PortRecord → PortRecord)

@[simp] theorem State.updPort_slots : (s.updPort i f).slots = s.slots := rfl
@[simp] theorem State.updPort_pools : (s.updPort i f).pools = s.pools := rfl
@[simp] theorem State.updPort_engines : (s.updPort i f).engines = s.engines := rfl
@[simp] theorem State.updPort_arbiter : (s.updPort i f).arbiter = s.arbiter := rfl
@[simp] theorem State.updPort_egress : (s.updPort i f).egress = s.egress := rfl
@[simp] theorem State.updPort_upstream : (s.updPort i f).upstream = s.upstream := rfl
@[simp] theorem State.updPort_links : (s.updPort i f).links = s.links := rfl
@[simp] theorem State.updPort_monitors : (s.updPort i f).monitors = s.monitors := rfl
@[simp] theorem State.updPort_ports : (s.updPort i f).ports = s.ports.modify i f := rfl
@[simp] theorem State.updPort_scanner : (s.updPort i f).scanner = s.scanner := rfl
@[simp] theorem State.updPort_lamps : (s.updPort i f).lamps = s.lamps := rfl
@[simp] theorem State.updPort_agent : (s.updPort i f).agent = s.agent := rfl
@[simp] theorem State.updPort_core : (s.updPort i f).core = s.core := rfl
@[simp] theorem State.updPort_slotCounters : (s.updPort i f).slotCounters = s.slotCounters := rfl
@[simp] theorem State.updPort_micros : (s.updPort i f).micros = s.micros := rfl
@[simp] theorem State.updPort_freeDraws : (s.updPort i f).freeDraws = s.freeDraws := rfl
@[simp] theorem State.updPort_pending : (s.updPort i f).pending = s.pending := rfl

end updPort

section updScanner

variable (f : ScannerRecord → ScannerRecord)

@[simp] theorem State.updScanner_slots : (s.updScanner f).slots = s.slots := rfl
@[simp] theorem State.updScanner_pools : (s.updScanner f).pools = s.pools := rfl
@[simp] theorem State.updScanner_engines : (s.updScanner f).engines = s.engines := rfl
@[simp] theorem State.updScanner_arbiter : (s.updScanner f).arbiter = s.arbiter := rfl
@[simp] theorem State.updScanner_egress : (s.updScanner f).egress = s.egress := rfl
@[simp] theorem State.updScanner_upstream : (s.updScanner f).upstream = s.upstream := rfl
@[simp] theorem State.updScanner_links : (s.updScanner f).links = s.links := rfl
@[simp] theorem State.updScanner_monitors : (s.updScanner f).monitors = s.monitors := rfl
@[simp] theorem State.updScanner_ports : (s.updScanner f).ports = s.ports := rfl
@[simp] theorem State.updScanner_scanner : (s.updScanner f).scanner = f s.scanner := rfl
@[simp] theorem State.updScanner_lamps : (s.updScanner f).lamps = s.lamps := rfl
@[simp] theorem State.updScanner_agent : (s.updScanner f).agent = s.agent := rfl
@[simp] theorem State.updScanner_core : (s.updScanner f).core = s.core := rfl
@[simp] theorem State.updScanner_slotCounters : (s.updScanner f).slotCounters = s.slotCounters := rfl
@[simp] theorem State.updScanner_micros : (s.updScanner f).micros = s.micros := rfl
@[simp] theorem State.updScanner_freeDraws : (s.updScanner f).freeDraws = s.freeDraws := rfl
@[simp] theorem State.updScanner_pending : (s.updScanner f).pending = s.pending := rfl

end updScanner

section updLamps

variable (f : LampRecord → LampRecord)

@[simp] theorem State.updLamps_slots : (s.updLamps f).slots = s.slots := rfl
@[simp] theorem State.updLamps_pools : (s.updLamps f).pools = s.pools := rfl
@[simp] theorem State.updLamps_engines : (s.updLamps f).engines = s.engines := rfl
@[simp] theorem State.updLamps_arbiter : (s.updLamps f).arbiter = s.arbiter := rfl
@[simp] theorem State.updLamps_egress : (s.updLamps f).egress = s.egress := rfl
@[simp] theorem State.updLamps_upstream : (s.updLamps f).upstream = s.upstream := rfl
@[simp] theorem State.updLamps_links : (s.updLamps f).links = s.links := rfl
@[simp] theorem State.updLamps_monitors : (s.updLamps f).monitors = s.monitors := rfl
@[simp] theorem State.updLamps_ports : (s.updLamps f).ports = s.ports := rfl
@[simp] theorem State.updLamps_scanner : (s.updLamps f).scanner = s.scanner := rfl
@[simp] theorem State.updLamps_lamps : (s.updLamps f).lamps = f s.lamps := rfl
@[simp] theorem State.updLamps_agent : (s.updLamps f).agent = s.agent := rfl
@[simp] theorem State.updLamps_core : (s.updLamps f).core = s.core := rfl
@[simp] theorem State.updLamps_slotCounters : (s.updLamps f).slotCounters = s.slotCounters := rfl
@[simp] theorem State.updLamps_micros : (s.updLamps f).micros = s.micros := rfl
@[simp] theorem State.updLamps_freeDraws : (s.updLamps f).freeDraws = s.freeDraws := rfl
@[simp] theorem State.updLamps_pending : (s.updLamps f).pending = s.pending := rfl

end updLamps

section updAgent

variable (f : AgentRecord → AgentRecord)

@[simp] theorem State.updAgent_slots : (s.updAgent f).slots = s.slots := rfl
@[simp] theorem State.updAgent_pools : (s.updAgent f).pools = s.pools := rfl
@[simp] theorem State.updAgent_engines : (s.updAgent f).engines = s.engines := rfl
@[simp] theorem State.updAgent_arbiter : (s.updAgent f).arbiter = s.arbiter := rfl
@[simp] theorem State.updAgent_egress : (s.updAgent f).egress = s.egress := rfl
@[simp] theorem State.updAgent_upstream : (s.updAgent f).upstream = s.upstream := rfl
@[simp] theorem State.updAgent_links : (s.updAgent f).links = s.links := rfl
@[simp] theorem State.updAgent_monitors : (s.updAgent f).monitors = s.monitors := rfl
@[simp] theorem State.updAgent_ports : (s.updAgent f).ports = s.ports := rfl
@[simp] theorem State.updAgent_scanner : (s.updAgent f).scanner = s.scanner := rfl
@[simp] theorem State.updAgent_lamps : (s.updAgent f).lamps = s.lamps := rfl
@[simp] theorem State.updAgent_agent : (s.updAgent f).agent = f s.agent := rfl
@[simp] theorem State.updAgent_core : (s.updAgent f).core = s.core := rfl
@[simp] theorem State.updAgent_slotCounters : (s.updAgent f).slotCounters = s.slotCounters := rfl
@[simp] theorem State.updAgent_micros : (s.updAgent f).micros = s.micros := rfl
@[simp] theorem State.updAgent_freeDraws : (s.updAgent f).freeDraws = s.freeDraws := rfl
@[simp] theorem State.updAgent_pending : (s.updAgent f).pending = s.pending := rfl

end updAgent

section updCore

variable (f : CorePort → CorePort)

@[simp] theorem State.updCore_slots : (s.updCore f).slots = s.slots := rfl
@[simp] theorem State.updCore_pools : (s.updCore f).pools = s.pools := rfl
@[simp] theorem State.updCore_engines : (s.updCore f).engines = s.engines := rfl
@[simp] theorem State.updCore_arbiter : (s.updCore f).arbiter = s.arbiter := rfl
@[simp] theorem State.updCore_egress : (s.updCore f).egress = s.egress := rfl
@[simp] theorem State.updCore_upstream : (s.updCore f).upstream = s.upstream := rfl
@[simp] theorem State.updCore_links : (s.updCore f).links = s.links := rfl
@[simp] theorem State.updCore_monitors : (s.updCore f).monitors = s.monitors := rfl
@[simp] theorem State.updCore_ports : (s.updCore f).ports = s.ports := rfl
@[simp] theorem State.updCore_scanner : (s.updCore f).scanner = s.scanner := rfl
@[simp] theorem State.updCore_lamps : (s.updCore f).lamps = s.lamps := rfl
@[simp] theorem State.updCore_agent : (s.updCore f).agent = s.agent := rfl
@[simp] theorem State.updCore_core : (s.updCore f).core = f s.core := rfl
@[simp] theorem State.updCore_slotCounters : (s.updCore f).slotCounters = s.slotCounters := rfl
@[simp] theorem State.updCore_micros : (s.updCore f).micros = s.micros := rfl
@[simp] theorem State.updCore_freeDraws : (s.updCore f).freeDraws = s.freeDraws := rfl
@[simp] theorem State.updCore_pending : (s.updCore f).pending = s.pending := rfl

end updCore

end Sys2Proof.Machine
end

