-- ==== Sys2Proof/Laws/Ops.lean ====
section
/-! SUPPORT. Each shared operation's whole effect, said once: counters, flags and notices, state changes, control
frames, egress queues, the request queue and the processing of a request. -/

namespace Sys2Proof.Machine

@[simp] theorem forEach_nil {ι σ : Type} (f : ι → σ → σ) (s : σ) : forEach f [] s = s := rfl

@[simp] theorem forEach_cons {ι σ : Type} (f : ι → σ → σ) (i : ι) (is : List ι) (s : σ) :
    forEach f (i :: is) s = forEach f is (f i s) := rfl

/-- What every step of a loop keeps, the loop keeps. -/
theorem forEach_keeps {ι σ : Type} {f : ι → σ → σ} {P : σ → Prop} (h : ∀ i s, P s → P (f i s)) :
    ∀ (is : List ι) (s : σ), P s → P (forEach f is s)
  | [], _, hs => hs
  | i :: is, s, hs => forEach_keeps h is (f i s) (h i s hs)

/-- A relation that every step of a loop respects, and that is reflexive and transitive, holds from its start to its
end. -/
theorem forEach_relates {ι σ : Type} {f : ι → σ → σ} {R : σ → σ → Prop} (refl : ∀ s, R s s)
    (trans : ∀ a b c, R a b → R b c → R a c) (h : ∀ i s, R s (f i s)) (is : List ι) (s : σ) :
    R s (forEach f is s) :=
  forEach_keeps (P := R s) (fun i t ht => trans s t _ ht (h i t)) is s (refl s)

/-- A counter takes what it is raised by, up to its largest value (R3). -/
theorem counterAdd_toNat (c : Counter) (n : Nat) : (counterAdd c n).toNat = min (c.toNat + n) 0xFFFFFFFF := by
  have h : min (c.toNat + n) 0xFFFFFFFF < 2 ^ 32 := by omega
  simp only [counterAdd, BitVec.toNat_ofNat, Nat.mod_eq_of_lt h]

/-- Raising a counter never lowers it (R3). -/
theorem le_counterAdd (c : Counter) (n : Nat) : c.toNat ≤ (counterAdd c n).toNat := by
  rw [counterAdd_toNat]
  have := c.isLt
  omega

/-- The three things an offered notice can do (R188). -/
theorem offerNotice_cases (p : List Byte) (s : State) :
    (s.agent.noticesEnabled = false ∧ offerNotice p s = s)
      ∨ (s.agent.noticesEnabled = true ∧ s.agent.transmit.length < Config.transmitCapacity
          ∧ offerNotice p s = s.updAgent fun a => { a with transmit := a.transmit ++ [p] })
      ∨ (s.agent.noticesEnabled = true ∧ ¬ s.agent.transmit.length < Config.transmitCapacity
          ∧ offerNotice p s = bumpAgent .noticeDrops s) := by
  unfold offerNotice
  split
  · next h =>
    split
    · next h' => exact .inr (.inl ⟨h, h', rfl⟩)
    · next h' => exact .inr (.inr ⟨h, h', rfl⟩)
  · next h => exact .inl ⟨by simpa using h, rfl⟩

/-- An offered notice touches the agent alone. -/
theorem offerNotice_frame (p : List Byte) (s : State) : ∃ a, offerNotice p s = { s with agent := a } := by
  obtain ⟨-, h⟩ | ⟨-, -, h⟩ | ⟨-, -, h⟩ := offerNotice_cases p s <;> exact ⟨_, h⟩

@[simp] theorem offerNotice_slots (p : List Byte) (s : State) : (offerNotice p s).slots = s.slots := by
  obtain ⟨a, h⟩ := offerNotice_frame p s
  rw [h]

@[simp] theorem offerNotice_links (p : List Byte) (s : State) : (offerNotice p s).links = s.links := by
  obtain ⟨a, h⟩ := offerNotice_frame p s
  rw [h]

@[simp] theorem offerNotice_pools (p : List Byte) (s : State) : (offerNotice p s).pools = s.pools := by
  obtain ⟨a, h⟩ := offerNotice_frame p s
  rw [h]

@[simp] theorem offerNotice_engines (p : List Byte) (s : State) : (offerNotice p s).engines = s.engines := by
  obtain ⟨a, h⟩ := offerNotice_frame p s
  rw [h]

@[simp] theorem offerNotice_egress (p : List Byte) (s : State) : (offerNotice p s).egress = s.egress := by
  obtain ⟨a, h⟩ := offerNotice_frame p s
  rw [h]

/-- Raising a slot flag (R34): nothing when it is set, otherwise the flag and the offer. -/
theorem raiseFlag_cases (i : SlotIx) (f : SlotFlag) (s : State) :
    (flagSet s i f = true ∧ raiseFlag i f s = s)
      ∨ (flagSet s i f = false ∧ ∃ a, raiseFlag i f s =
          { s.updSlot i fun r => { r with attention := r.attention ||| flagMask f } with agent := a }) := by
  unfold raiseFlag
  split
  · next h => exact .inl ⟨h, rfl⟩
  · next h =>
    obtain ⟨a, ha⟩ := offerNotice_frame (slotNotice i (flagBit f) (s.slots.get i).state (s.slots.get i).state)
      (s.updSlot i fun r => { r with attention := r.attention ||| flagMask f })
    exact .inr ⟨by simpa using h, a, ha⟩

/-- A raised flag is set. -/
theorem flagSet_raiseFlag (i : SlotIx) (f : SlotFlag) (s : State) : flagSet (raiseFlag i f s) i f = true := by
  obtain ⟨h, e⟩ | ⟨-, a, e⟩ := raiseFlag_cases i f s
  · rw [e, h]
  · rw [e]
    cases f <;> simp [flagSet, flagMask, flagBit, State.updSlot]

/-- A change of state (R34): nothing to the state the slot is in, otherwise the record and the offer. -/
theorem changeState_cases (i : SlotIx) (new : SlotState) (s : State) :
    ((s.slots.get i).state = new ∧ changeState i new s = s)
      ∨ ((s.slots.get i).state ≠ new ∧ ∃ a, changeState i new s =
          { s.updSlot i fun r =>
              { r.stopTimers with state := new, attention := r.attention ||| flagMask .stateChanged } with
            agent := a }) := by
  simp only [changeState]
  split
  · next h => exact .inl ⟨h, rfl⟩
  · next h =>
    obtain ⟨a, ha⟩ := offerNotice_frame
      (slotNotice i (flagBit .stateChanged) (s.slots.get i).state new)
      (s.updSlot i fun r =>
        { r.stopTimers with state := new, attention := r.attention ||| flagMask .stateChanged })
    exact .inr ⟨h, a, ha⟩

/-- The slot is in the state it has entered. -/
@[simp] theorem changeState_state (i : SlotIx) (new : SlotState) (s : State) :
    ((changeState i new s).slots.get i).state = new := by
  obtain ⟨h, e⟩ | ⟨-, a, e⟩ := changeState_cases i new s
  · rw [e, h]
  · rw [e]
    simp [State.updSlot]

/-- No other slot's record changes with a slot's state. -/
theorem changeState_get_of_ne {i j : SlotIx} (h : j ≠ i) (new : SlotState) (s : State) :
    (changeState i new s).slots.get j = s.slots.get j := by
  obtain ⟨-, e⟩ | ⟨-, a, e⟩ := changeState_cases i new s
  · rw [e]
  · rw [e]
    simp [State.updSlot, Table.get_modify_of_ne _ h]

/-- A control frame asked for joins the list of a link that carries frames, and is discarded otherwise (R132). -/
theorem askControl_cases (i : SlotIx) (f : ControlFrame) (s : State) :
    ((s.links.get i).carries = true
        ∧ askControl i f s = s.updLink i fun l => { l with control := joinControl f l.control })
      ∨ ((s.links.get i).carries = false ∧ askControl i f s = s) := by
  unfold askControl
  split
  · next h => exact .inl ⟨h, rfl⟩
  · next h => exact .inr ⟨by simpa using h, rfl⟩

/-- A frame offered to an egress queue (R93): it joins at the tail, raising its bin's count if steered, or it is
dropped and counted. -/
theorem offerEgress_cases (i : SlotIx) (entry : EgressEntry) (s : State) :
    ((s.egress.get i).length < Config.egressCapacity ∧
        ((entry.steered = none ∧ offerEgress i entry s = s.setEgress i (s.egress.get i ++ [entry]))
          ∨ ∃ p b, entry.steered = some (p, b) ∧ offerEgress i entry s =
              (s.setEgress i (s.egress.get i ++ [entry])).updBin p b fun r => { r with inflight := r.inflight + 1 }))
      ∨ (¬ (s.egress.get i).length < Config.egressCapacity ∧ offerEgress i entry s = bumpSlot i .egressFull s) := by
  unfold offerEgress
  split
  · next h =>
    refine .inl ⟨h, ?_⟩
    cases hs : entry.steered with
    | none => exact .inl ⟨rfl, by simp⟩
    | some pb => exact .inr ⟨pb.1, pb.2, rfl, by simp⟩
  · next h => exact .inr ⟨h, rfl⟩

/-- The head request is answered (R184): it leaves the queue, and its owner's answer is taken. -/
theorem processRequest_of_head {c : Instr} {owner : State → Answer} {s : State} {r : QueuedRequest}
    {rest : List QueuedRequest} (hq : s.agent.requests = r :: rest) (hd : decodeRequest r.entry = c)
    (hr : s.agent.transmit.length < Config.transmitCapacity) :
    processRequest c owner s = answerRequest r.entry (owner (dropRequest s)) (dropRequest s) := by
  simp [processRequest, hq, hd, hasRoom, hr]

/-- A request that is not at the head of the queue, or that finds no room for its response, is not processed
(log entry 2). -/
theorem processRequest_waits {c : Instr} {owner : State → Answer} {s : State}
    (h : ∀ r rest, s.agent.requests = r :: rest → decodeRequest r.entry = c →
      ¬ s.agent.transmit.length < Config.transmitCapacity) :
    processRequest c owner s = s := by
  unfold processRequest
  split
  · rfl
  · next r rest hq =>
    split
    · next hc => exact absurd (by simpa [hasRoom] using hc.1) (h r rest hq hc.2)
    · rfl

/-- No command stops the part: every one answers a next state. -/
theorem exec_next (c : Instr) (s : State) : ∃ t, exec c s = .next t := by
  cases c <;> exact ⟨_, rfl⟩

/-- Every step answers a next state. -/
theorem step_next (s : State) : ∃ t, step s = .next t := by
  unfold step
  split
  · exact exec_next _ _
  · exact ⟨_, rfl⟩

end Sys2Proof.Machine
end

