-- ==== Sys2Proof/Laws/Effects.lean ====
section
/-! SUPPORT. Which parts of the state each shared operation can touch: the pools and moves, the queues, the links and
the lifecycle. A proof about a command cites these and opens no definition. -/

namespace Sys2Proof.Machine

/-- Only slots, links and the agent may differ. -/
def TouchesMembers (s t : State) : Prop :=
  ∃ slots links agent, t = { s with slots := slots, links := links, agent := agent }

/-- Only slots, links, the agent and pools may differ. -/
def TouchesPools (s t : State) : Prop :=
  ∃ slots links agent pools, t = { s with slots := slots, links := links, agent := agent, pools := pools }

/-- Only bins and what frames pass through may differ: pools, engines, egress queues and slot counters. -/
def TouchesFrames (s t : State) : Prop :=
  ∃ pools engines egress counts,
    t = { s with pools := pools, engines := engines, egress := egress, slotCounters := counts }

/-- Only slots, links, the agent, pools, engines, egress queues and slot counters may differ. -/
def TouchesTraffic (s t : State) : Prop :=
  ∃ slots links agent pools engines egress counts,
    t = { s with
      slots := slots, links := links, agent := agent, pools := pools, engines := engines, egress := egress
      slotCounters := counts }

/-- Only traffic, upstream queues, monitors and the core link may differ: ports, scanner, lamps, the engine arbiter, the
waiting commands, the free values and the clock stand. -/
def TouchesSlots (s t : State) : Prop :=
  ∃ slots links agent pools engines egress counts upstream monitors core,
    t = { s with
      slots := slots, links := links, agent := agent, pools := pools, engines := engines, egress := egress
      slotCounters := counts, upstream := upstream, monitors := monitors, core := core }

/-- Only links, upstream queues, monitors and slot counters may differ. -/
def TouchesLinks (s t : State) : Prop :=
  ∃ links counts upstream monitors,
    t = { s with links := links, slotCounters := counts, upstream := upstream, monitors := monitors }

theorem TouchesMembers.refl (s : State) : TouchesMembers s s := ⟨_, _, _, rfl⟩
theorem TouchesPools.refl (s : State) : TouchesPools s s := ⟨_, _, _, _, rfl⟩
theorem TouchesFrames.refl (s : State) : TouchesFrames s s := ⟨_, _, _, _, rfl⟩
theorem TouchesTraffic.refl (s : State) : TouchesTraffic s s := ⟨_, _, _, _, _, _, _, rfl⟩
theorem TouchesSlots.refl (s : State) : TouchesSlots s s := ⟨_, _, _, _, _, _, _, _, _, _, rfl⟩
theorem TouchesLinks.refl (s : State) : TouchesLinks s s := ⟨_, _, _, _, rfl⟩

theorem TouchesMembers.trans {a b c : State} : TouchesMembers a b → TouchesMembers b c → TouchesMembers a c := by
  rintro ⟨_, _, _, rfl⟩ ⟨_, _, _, rfl⟩
  exact ⟨_, _, _, rfl⟩

theorem TouchesPools.trans {a b c : State} : TouchesPools a b → TouchesPools b c → TouchesPools a c := by
  rintro ⟨_, _, _, _, rfl⟩ ⟨_, _, _, _, rfl⟩
  exact ⟨_, _, _, _, rfl⟩

theorem TouchesFrames.trans {a b c : State} : TouchesFrames a b → TouchesFrames b c → TouchesFrames a c := by
  rintro ⟨_, _, _, _, rfl⟩ ⟨_, _, _, _, rfl⟩
  exact ⟨_, _, _, _, rfl⟩

theorem TouchesTraffic.trans {a b c : State} : TouchesTraffic a b → TouchesTraffic b c → TouchesTraffic a c := by
  rintro ⟨_, _, _, _, _, _, _, rfl⟩ ⟨_, _, _, _, _, _, _, rfl⟩
  exact ⟨_, _, _, _, _, _, _, rfl⟩

theorem TouchesSlots.trans {a b c : State} : TouchesSlots a b → TouchesSlots b c → TouchesSlots a c := by
  rintro ⟨_, _, _, _, _, _, _, _, _, _, rfl⟩ ⟨_, _, _, _, _, _, _, _, _, _, rfl⟩
  exact ⟨_, _, _, _, _, _, _, _, _, _, rfl⟩

theorem TouchesLinks.trans {a b c : State} : TouchesLinks a b → TouchesLinks b c → TouchesLinks a c := by
  rintro ⟨_, _, _, _, rfl⟩ ⟨_, _, _, _, rfl⟩
  exact ⟨_, _, _, _, rfl⟩

theorem TouchesMembers.pools {s t : State} : TouchesMembers s t → TouchesPools s t := by
  rintro ⟨_, _, _, rfl⟩
  exact ⟨_, _, _, _, rfl⟩

theorem TouchesPools.traffic {s t : State} : TouchesPools s t → TouchesTraffic s t := by
  rintro ⟨_, _, _, _, rfl⟩
  exact ⟨_, _, _, _, _, _, _, rfl⟩

theorem TouchesMembers.traffic {s t : State} (h : TouchesMembers s t) : TouchesTraffic s t := h.pools.traffic

theorem TouchesFrames.traffic {s t : State} : TouchesFrames s t → TouchesTraffic s t := by
  rintro ⟨_, _, _, _, rfl⟩
  exact ⟨_, _, _, _, _, _, _, rfl⟩

theorem TouchesTraffic.slots {s t : State} : TouchesTraffic s t → TouchesSlots s t := by
  rintro ⟨_, _, _, _, _, _, _, rfl⟩
  exact ⟨_, _, _, _, _, _, _, _, _, _, rfl⟩

theorem TouchesMembers.slots {s t : State} (h : TouchesMembers s t) : TouchesSlots s t := h.traffic.slots

theorem TouchesLinks.slots {s t : State} : TouchesLinks s t → TouchesSlots s t := by
  rintro ⟨_, _, _, _, rfl⟩
  exact ⟨_, _, _, _, _, _, _, _, _, _, rfl⟩

/-! Flags, states and reports. -/

theorem offerNotice_members (p : List Byte) (s : State) : TouchesMembers s (offerNotice p s) := by
  obtain ⟨a, h⟩ := offerNotice_frame p s
  exact ⟨_, _, _, h⟩

theorem raiseFlag_members (i : SlotIx) (f : SlotFlag) (s : State) : TouchesMembers s (raiseFlag i f s) := by
  obtain ⟨-, h⟩ | ⟨-, a, h⟩ := raiseFlag_cases i f s <;> exact ⟨_, _, _, h⟩

theorem changeState_members (i : SlotIx) (new : SlotState) (s : State) : TouchesMembers s (changeState i new s) := by
  obtain ⟨-, h⟩ | ⟨-, a, h⟩ := changeState_cases i new s <;> exact ⟨_, _, _, h⟩

theorem askControl_members (i : SlotIx) (f : ControlFrame) (s : State) : TouchesMembers s (askControl i f s) := by
  obtain ⟨-, h⟩ | ⟨-, h⟩ := askControl_cases i f s <;> exact ⟨_, _, _, h⟩

theorem updSlot_members (i : SlotIx) (f : SlotRecord → SlotRecord) (s : State) : TouchesMembers s (s.updSlot i f) :=
  ⟨_, _, _, rfl⟩

/-- Entry to phase CONFIRMING touches the slot, its link and the agent (R18). -/
theorem enterConfirming_members (i : SlotIx) (s : State) : TouchesMembers s (enterConfirming i s) :=
  ((changeState_members i _ s).trans (askControl_members i _ _)).trans (updSlot_members i _ _)

theorem evaluateConfirmation_members (i : SlotIx) (s : State) : TouchesMembers s (evaluateConfirmation i s) := by
  unfold evaluateConfirmation
  split
  · exact enterConfirming_members i s
  · exact .refl s

theorem evaluateAdmission_members (i : SlotIx) (s : State) : TouchesMembers s (evaluateAdmission i s) := by
  unfold evaluateAdmission
  split
  · exact changeState_members i _ s
  · exact .refl s

/-- A report of holdings touches slots, links and the agent alone (R7). -/
theorem reportHoldings_members (i : SlotIx) (s : State) : TouchesMembers s (reportHoldings i s) :=
  (evaluateAdmission_members i s).trans (evaluateConfirmation_members i _)

theorem forEach_reportHoldings_members (is : List SlotIx) (s : State) :
    TouchesMembers s (forEach reportHoldings is s) :=
  forEach_relates .refl (fun _ _ _ => .trans) reportHoldings_members is s

/-! Pools. -/

theorem updPool_pools (p : PoolIx) (f : PoolRecord → PoolRecord) (s : State) : TouchesPools s (s.updPool p f) :=
  ⟨_, _, _, _, rfl⟩

theorem updBin_pools (p : PoolIx) (b : BinIx) (f : BinRecord → BinRecord) (s : State) :
    TouchesPools s (s.updBin p b f) :=
  updPool_pools p _ s

theorem giveBins_pools (p : PoolIx) (gifts : List (BinIx × SlotIx)) (s : State) :
    TouchesPools s (giveBins p gifts s) :=
  (forEach_relates .refl (fun _ _ _ => .trans) (fun g s => updBin_pools p g.1 _ s) gifts s).trans
    (updPool_pools p _ _)

/-- Recomputing a pool's tables touches pools alone or with their members (R44). -/
theorem recomputeTables_pools (p : PoolIx) (s : State) : TouchesPools s (recomputeTables p s) :=
  ((updPool_pools p _ s).trans (giveBins_pools p _ _)).trans (updPool_pools p _ _)

theorem recompute_pools (p : PoolIx) (s : State) : TouchesPools s (recompute p s) := by
  unfold recompute
  split
  · exact (recomputeTables_pools p s).trans (forEach_reportHoldings_members _ _).pools
  · exact .refl s

theorem adoptBins_pools (p : PoolIx) (i : SlotIx) (s : State) : TouchesPools s (adoptBins p i s) := by
  simp only [adoptBins]
  split
  · exact (updPool_pools p _ s).trans (updPool_pools p _ _)
  · exact updPool_pools p _ s

/-- A gain of eligibility touches pools, slots, links and the agent (R48). -/
theorem gainEligibility_pools (i : SlotIx) (s : State) : TouchesPools s (gainEligibility i s) := by
  unfold gainEligibility
  split
  · split
    · split
      · exact (adoptBins_pools _ i s).trans (recompute_pools _ _)
      · exact recompute_pools _ s
    · exact .refl s
  · exact .refl s

/-! Moves. -/

theorem offerEgress_frames (i : SlotIx) (entry : EgressEntry) (s : State) :
    TouchesFrames s (offerEgress i entry s) := by
  obtain ⟨-, ⟨-, h⟩ | ⟨p, b, -, h⟩⟩ | ⟨-, h⟩ := offerEgress_cases i entry s <;> exact ⟨_, _, _, _, h⟩

theorem releaseHold_frames (i : SlotIx) (p : PoolIx) (b : BinIx) (hold : List FrameBytes) (s : State) :
    TouchesFrames s (releaseHold i p b hold s) :=
  forEach_relates .refl (fun _ _ _ => .trans) (fun bytes s => offerEgress_frames i ⟨bytes, some (p, b)⟩ s) hold s

theorem updPool_frames (p : PoolIx) (f : PoolRecord → PoolRecord) (s : State) : TouchesFrames s (s.updPool p f) :=
  ⟨_, _, _, _, rfl⟩

/-- A commit touches pools, engines, egress queues and slot counters (R71). -/
theorem commitMove_frames (e : EngineIx) (m : MoveRecord) (s : State) : TouchesFrames s (commitMove e m s) := by
  have h := (updPool_frames m.pool (fun r => { r with bins := r.bins.modify m.bin fun b =>
    { b with owner := .owned m.destination } }) s).trans (releaseHold_frames m.destination m.pool m.bin m.hold _)
  exact h.trans ⟨_, _, _, _, rfl⟩

/-- An abort touches pools, engines, egress queues and slot counters (R74). -/
theorem abortMove_frames (e : EngineIx) (m : MoveRecord) (s : State) : TouchesFrames s (abortMove e m s) :=
  (releaseHold_frames m.source m.pool m.bin m.hold s).trans ⟨_, _, _, _, rfl⟩

theorem abortDiscard_frames (e : EngineIx) (m : MoveRecord) (s : State) : TouchesFrames s (abortDiscard e m s) :=
  ⟨_, _, _, _, rfl⟩

theorem onMoves_frames {q : MoveRecord → Bool} {f : EngineIx → MoveRecord → State → State}
    (h : ∀ e m s, TouchesFrames s (f e m s)) (s : State) : TouchesFrames s (onMoves q f s) := by
  refine forEach_relates .refl (fun _ _ _ => .trans) (fun e s => ?_) _ s
  split
  · split
    · exact h _ _ _
    · exact .refl s
  · exact .refl s

theorem afterCommit_pools (m : MoveRecord) (s : State) : TouchesPools s (afterCommit m s) := by
  unfold afterCommit
  split
  · exact recompute_pools _ s
  · exact ((reportHoldings_members _ s).trans (reportHoldings_members _ _)).pools

/-- A commit with its report touches the traffic alone (R71, R73). -/
theorem engineCommit_traffic (e : EngineIx) (m : MoveRecord) (s : State) : TouchesTraffic s (engineCommit e m s) :=
  (commitMove_frames e m s).traffic.trans (afterCommit_pools m _).traffic

theorem drainEnd_traffic (e : EngineIx) (m : MoveRecord) (s : State) : TouchesTraffic s (drainEnd e m s) := by
  unfold drainEnd
  split
  · exact engineCommit_traffic e m s
  · exact ⟨_, _, _, _, _, _, _, rfl⟩

/-- What a steered frame's leaving its queue touches (R40, R67). -/
theorem lowerInflight_traffic (p : PoolIx) (b : BinIx) (s : State) : TouchesTraffic s (lowerInflight p b s) := by
  have h := (updBin_pools p b (fun r => { r with inflight := r.inflight - 1 }) s).traffic
  simp only [lowerInflight]
  split
  · exact h
  · split
    · exact h
    · split
      · exact h.trans (drainEnd_traffic _ _ _)
      · exact h

/-- A loss of eligibility touches the traffic alone (R49). -/
theorem loseEligibility_traffic (i : SlotIx) (s : State) : TouchesTraffic s (loseEligibility i s) := by
  unfold loseEligibility
  split
  · split
    · exact (onMoves_frames abortMove_frames s).traffic.trans (recompute_pools _ _).traffic
    · exact .refl s
  · exact .refl s

theorem giveAway_pools (p : PoolIx) (i : SlotIx) (s : State) : TouchesPools s (giveAway p i s) := by
  unfold giveAway
  split
  · exact updPool_pools p _ s
  · exact giveBins_pools p _ s

/-- An evacuation touches the traffic alone (R50, R75). -/
theorem evacuate_traffic (i : SlotIx) (s : State) : TouchesTraffic s (evacuate i s) := by
  unfold evacuate
  split
  · exact .refl s
  · exact ((onMoves_frames commitMove_frames s).trans (onMoves_frames abortMove_frames _)).traffic.trans
      (((giveAway_pools _ i _).trans (updPool_pools _ _ _)).trans
        (forEach_reportHoldings_members _ _).pools).traffic

theorem releaseBins_pools (i : SlotIx) (s : State) : TouchesPools s (releaseBins i s) := by
  unfold releaseBins
  split
  · exact .refl s
  · exact (updPool_pools _ _ s).trans (reportHoldings_members i _).pools

/-! Queues. -/

theorem flushOne_traffic (i : SlotIx) (entry : EgressEntry) (s : State) : TouchesTraffic s (flushOne i entry s) := by
  have h : TouchesTraffic s (bumpSlot i .flushed (popEgress i s)) := ⟨_, _, _, _, _, _, _, rfl⟩
  unfold flushOne reportLeft
  split
  · exact h.trans (lowerInflight_traffic _ _ _)
  · exact h

/-- A flush of an egress queue touches the traffic alone (R96). -/
theorem flushEgress_traffic (i : SlotIx) (s : State) : TouchesTraffic s (flushEgress i s) := by
  have h : TouchesTraffic s (abortData i s) := by
    unfold abortData
    split
    · exact ⟨_, _, _, _, _, _, _, rfl⟩
    · exact .refl s
  exact (h.trans (forEach_relates .refl (fun _ _ _ => .trans) (flushOne_traffic i) _ _)).trans
    (evaluateConfirmation_members i _).traffic

theorem bumpSlotBy_links (i : SlotIx) (c : SlotCounter) (n : Nat) (s : State) : TouchesLinks s (bumpSlotBy i c n s) :=
  ⟨_, _, _, _, rfl⟩

theorem askControl_links (i : SlotIx) (f : ControlFrame) (s : State) : TouchesLinks s (askControl i f s) := by
  obtain ⟨-, h⟩ | ⟨-, h⟩ := askControl_cases i f s <;> exact ⟨_, _, _, _, h⟩

/-- PAUSE(T) touches the link, the upstream queue's pause and a counter (R109). -/
theorem sendPause_links (i : SlotIx) (s : State) : TouchesLinks s (sendPause i s) :=
  (askControl_links i _ s).trans ⟨_, _, _, _, rfl⟩

theorem sendResume_links (i : SlotIx) (s : State) : TouchesLinks s (sendResume i s) :=
  (askControl_links i _ s).trans ⟨_, _, _, _, rfl⟩

theorem pauseAtArrival_links (i : SlotIx) (s : State) : TouchesLinks s (pauseAtArrival i s) := by
  unfold pauseAtArrival
  split
  · split
    · exact sendPause_links i s
    · exact .refl s
  all_goals exact .refl s

theorem pauseAtTxEnd_links (i : SlotIx) (s : State) : TouchesLinks s (pauseAtTxEnd i s) := by
  unfold pauseAtTxEnd
  split
  · split
    · exact sendPause_links i s
    · exact .refl s
  · split
    · exact sendResume_links i s
    · exact .refl s
  · exact .refl s

theorem pauseAtRefresh_links (i : SlotIx) (s : State) : TouchesLinks s (pauseAtRefresh i s) := by
  unfold pauseAtRefresh
  split
  · split
    · exact sendResume_links i s
    · exact sendPause_links i s
  all_goals exact .refl s

theorem pauseAtFlush_links (i : SlotIx) (s : State) : TouchesLinks s (pauseAtFlush i s) := by
  unfold pauseAtFlush
  split
  · exact .refl s
  · split
    · exact sendResume_links i s
    · exact ⟨_, _, _, _, rfl⟩

/-- A flush of an upstream queue (R114). -/
theorem flushUpstream_slots (i : SlotIx) (s : State) : TouchesSlots s (flushUpstream i s) := by
  have h : TouchesSlots s (abortUpstream i s) := by
    unfold abortUpstream
    split
    · exact ⟨_, _, _, _, _, _, _, _, _, _, rfl⟩
    · exact .refl s
  exact (h.trans ⟨_, _, _, _, _, _, _, _, _, _, rfl⟩).trans (pauseAtFlush_links i _).slots

theorem flushQueues_slots (i : SlotIx) (s : State) : TouchesSlots s (flushQueues i s) :=
  (flushEgress_traffic i s).slots.trans (flushUpstream_slots i _)

/-! Links. -/

theorem cutReception_links (i : SlotIx) (s : State) : TouchesLinks s (cutReception i s) := by
  unfold cutReception
  split
  · exact .refl s
  · exact ⟨_, _, _, _, rfl⟩

theorem updLink_links (i : SlotIx) (f : LinkRecord → LinkRecord) (s : State) : TouchesLinks s (s.updLink i f) :=
  ⟨_, _, _, _, rfl⟩

theorem reportLeftUp_links (i : SlotIx) (s : State) : TouchesLinks s (reportLeftUp i s) := ⟨_, _, _, _, rfl⟩

theorem dropLink_links (i : SlotIx) (s : State) : TouchesLinks s (dropLink i s) := by
  unfold dropLink
  split
  · exact ((cutReception_links i s).trans (updLink_links i _ _)).trans (reportLeftUp_links i _)
  · exact cutReception_links i s
  all_goals exact .refl s

/-- The four link requests touch links, monitors, local pauses and slot counters alone (R121). -/
theorem linkTrain_links (i : SlotIx) (s : State) : TouchesLinks s (linkTrain i s) :=
  (dropLink_links i s).trans (updLink_links i _ _)

theorem linkGoDark_links (i : SlotIx) (s : State) : TouchesLinks s (linkGoDark i s) := by
  unfold linkGoDark
  split
  · exact .refl s
  all_goals exact (dropLink_links i s).trans (updLink_links i _ _)

theorem linkPark_links (i : SlotIx) (s : State) : TouchesLinks s (linkPark i s) := by
  unfold linkPark
  split
  · exact .refl s
  · exact .refl s
  · exact linkGoDark_links i s
  · exact (updLink_links i _ s).trans (reportLeftUp_links i _)

theorem linkResume_links (i : SlotIx) (s : State) : TouchesLinks s (linkResume i s) := by
  unfold linkResume
  split
  · exact linkTrain_links i s
  · exact .refl s
  · exact .refl s
  · exact ⟨_, _, _, _, rfl⟩

/-! Lifecycle. -/

/-- A departure with its evacuation and flushes (R7). -/
theorem depart_slots (i : SlotIx) (old : SlotState) (s : State) : TouchesSlots s (depart i old s) := by
  have h1 : TouchesTraffic s (if old.eligible then loseEligibility i s else s) := by
    split
    · exact loseEligibility_traffic i s
    · exact .refl s
  have h2 : ∀ t, TouchesTraffic t (if old.holding ∧ slotHolds t i then evacuate i t else t) := by
    intro t
    split
    · exact evacuate_traffic i t
    · exact .refl t
  exact (h1.trans (h2 _)).slots.trans (flushQueues_slots i _)

/-- Entry to FAULTED (R8–R11, R24–R26). -/
theorem enterFaulted_slots (i : SlotIx) (cause : FaultCause) (s : State) : TouchesSlots s (enterFaulted i cause s) :=
  ((((changeState_members i _ s).trans (updSlot_members i _ _)).trans (raiseFlag_members i _ _)).slots.trans
    (linkGoDark_links i _).slots).trans (depart_slots i _ _)

theorem beginProbing_slots (i : SlotIx) (s : State) : TouchesSlots s (beginProbing i s) :=
  (show TouchesSlots s _ from ⟨_, _, _, _, _, _, _, _, _, _, rfl⟩).trans
    (forEach_relates (R := TouchesLinks) .refl (fun _ _ _ => .trans) (fun n s => askControl_links i (.probe n) s)
      _ _).slots

theorem clearProgress_members (i : SlotIx) (s : State) : TouchesMembers s (clearProgress i s) :=
  updSlot_members i _ s

/-- An entry to PROBING (R4, R9). -/
theorem checkClass_slots (i : SlotIx) (s : State) : TouchesSlots s (checkClass i s) := by
  have h := (clearProgress_members i s).slots
  rw [checkClass]
  split
  · exact h.trans (beginProbing_slots i _)
  · exact h.trans (enterFaulted_slots i _ _)

/-- Admission (R13). -/
theorem admitToPool_pools (i : SlotIx) (s : State) : TouchesPools s (admitToPool i s) :=
  ((((changeState_members i _ s).trans (askControl_members i _ _)).pools.trans
    (gainEligibility_pools i _))).trans (evaluateAdmission_members i _).pools

theorem completeQualification_pools (i : SlotIx) (s : State) : TouchesPools s (completeQualification i s) := by
  unfold completeQualification
  split
  · exact admitToPool_pools i s
  · exact (changeState_members i _ s).pools

theorem evaluateQualification_pools (i : SlotIx) (s : State) : TouchesPools s (evaluateQualification i s) := by
  unfold evaluateQualification
  split
  · exact completeQualification_pools i s
  · exact .refl s

/-- Entry to RETIRING (R15), where its flags touch members and its release touches traffic. -/
theorem enterRetiring_traffic {flags release : State → State} (hf : ∀ s, TouchesMembers s (flags s))
    (hr : ∀ s, TouchesTraffic s (release s)) (i : SlotIx) (s : State) :
    TouchesTraffic s (enterRetiring i flags release s) :=
  (((((changeState_members i _ s).trans (hf _)).trans (updSlot_members i _ _)).traffic.trans
    (loseEligibility_traffic i _)).trans (hr _)).trans (evaluateConfirmation_members i _).traffic

theorem retireAutomatically_traffic {flags : State → State} (hf : ∀ s, TouchesMembers s (flags s)) (i : SlotIx)
    (s : State) : TouchesTraffic s (retireAutomatically i flags s) := by
  have hl : ∀ t, TouchesMembers t
      (let u := flags t; if isLastMember s i then raiseFlag i .lastMember u else u) := by
    intro t
    dsimp only
    split
    · exact (hf t).trans (raiseFlag_members i _ _)
    · exact hf t
  rw [retireAutomatically]
  exact enterRetiring_traffic hl (fun t => TouchesTraffic.refl t) i s

theorem enterDrained_slots {flags : State → State} (hf : ∀ s, TouchesMembers s (flags s)) (i : SlotIx) (s : State) :
    TouchesSlots s (enterDrained i flags s) :=
  ((changeState_members i _ s).trans (hf _)).slots.trans (linkPark_links i _).slots

end Sys2Proof.Machine
end

