-- ==== Sys2Proof/Tests/Slice0.lean ====
section
/-! SUPPORT. Tests of the model on fixed values: the spec's worked cases, the smoke tests of the checks, and for each
statement a state and operands that meet its hypotheses. -/

set_option Elab.async false

namespace Sys2Proof.Tests

open Sys2Proof.Machine

/-- The state a command leads to. -/
def run (c : Instr) (s : State) : State :=
  match exec c s with
  | .next t => t
  | .fault _ | .refused _ => s

/-- The state with one request waiting, at the head of its queue. -/
def ask (c : Instr) (s : State) : State :=
  s.updAgent fun a => { a with requests := (encodeRequest c).toList.map fun e => ⟨[], e⟩ }

/-- A request is asked and processed. -/
def done (c : Instr) (s : State) : State := run c (ask c s)

/-- A frame as it travels, with a source of 0. -/
def frame (kind : FrameKind) (target : Byte) (key : BitVec 32) (payload : List Byte) : FrameBytes :=
  withCrc (header kind target 0 key payload.length ++ payload)

/-- Slot 1 in a state, its link UP with lock. -/
def slotIn (st : SlotState) : State :=
  (State.reset.updSlot 0 fun r => { r with state := st }).updLink 0 fun l =>
    { l with state := .up, lock := true, train := some ⟨.full, 1, 3, .auto⟩ }

/-- Slot 1 in service as the only member of pool 0. -/
def served : State := done (.admitSlot 1 1 0 5) (done (.poolEnable 1 0) (slotIn .standby))

/-- Slot 2 in a state, its link UP with lock. -/
def withSecond (st : SlotState) (s : State) : State :=
  (s.updSlot 1 fun r => { r with state := st }).updLink 1 fun l =>
    { l with state := .up, lock := true, train := some ⟨.full, 1, 3, .auto⟩ }

/-- Slots 1 and 2 in pool 0, slot 2 being admitted and its bins planned. -/
def paired : State := done (.admitSlot 1 2 0 5) (withSecond .standby served)

/-- The first planned move, of bin 63 from slot 1 to slot 2, in progress on engine 0. -/
def moving : State := run .engineGrant paired

/-- A core reception that took a cell is in progress. -/
def receiving (s : State) : State := s.updCore fun k => { k with rx := some true }

/-- A reception that took a cell is in progress on the link of slot 1. -/
def slotReceiving (s : State) : State := s.updLink 0 fun l => { l with rx := some true }

/-- A slot whose record a test changes: slot 1. -/
def slot1 (f : SlotRecord → SlotRecord) (s : State) : State := s.updSlot 0 f

/-- The link of slot 1, changed. -/
def link1 (f : LinkRecord → LinkRecord) (s : State) : State := s.updLink 0 f

/-- The monitor of slot 1, changed. -/
def monitor1 (f : MonitorRecord → MonitorRecord) (s : State) : State := s.updMonitor 0 f

/-- The port of slot 1, changed. -/
def port1 (f : PortRecord → PortRecord) (s : State) : State := s.updPort 0 f

/-- A transmit queue of 16. -/
def transmitFull (s : State) : State := s.updAgent fun a => { a with transmit := List.replicate 16 [] }

/-- A slot's egress queue of `n` frames of no pool. -/
def egressOf (n : Nat) (s : State) : State := s.setEgress 0 (List.replicate n ⟨[], none⟩)

/-- What a check that passes gives. -/
theorem checked {bytes : FrameBytes} {info : FrameInfo} (h : (checkFrame bytes).toOption = some info) :
    checkFrame bytes = .ok info := by
  cases hc : checkFrame bytes with
  | error e => rw [hc] at h; exact absurd h (by simp [Except.toOption])
  | ok a => rw [hc] at h; simpa [Except.toOption] using h

/-- The law of moves, as a check on one state. -/
def moveCheck (s : State) : Bool :=
  decide (∀ e : EngineIx, (s.engines.get e).all fun m =>
      ((s.pools.get m.pool).bins.get m.bin).engine = some e
        ∧ ((s.pools.get m.pool).bins.get m.bin).owner = .owned m.source
        ∧ isEligible s m.pool m.destination = true ∧ (s.pools.get m.pool).enabled = true)
    && decide (∀ p b, ((s.pools.get p).bins.get b).engine.all fun e =>
      (s.engines.get e).any fun m => m.pool = p ∧ m.bin = b)
    && decide (∀ p, (s.pools.get p).plan.all fun entry =>
      ((s.pools.get p).bins.get entry.bin).engine = none
        ∧ ((s.pools.get p).bins.get entry.bin).owner = .owned entry.source
        ∧ isEligible s p entry.destination = true)
    && decide (∀ p, ((s.pools.get p).plan.map PlanEntry.bin).Nodup)
    && decide (∀ p, activeMoves s p ≤ (s.pools.get p).width)

theorem moveLaw_of_check {s : State} (h : moveCheck s = true) : MoveLaw s := by
  simp only [moveCheck, Bool.and_eq_true, decide_eq_true_eq] at h
  obtain ⟨⟨⟨⟨h1, h2⟩, h3⟩, h4⟩, h5⟩ := h
  refine ⟨fun e m he => ?_, fun p b e he => ?_, fun p entry hm => ?_, h4, h5⟩
  · simpa [he] using h1 e
  · have := h2 p b
    rw [he] at this
    simpa [Option.any_eq_true] using this
  · have := List.all_eq_true.mp (h3 p) entry hm
    simpa using this

/-- What an owner asks of the state, as a check. -/
def ownerCheck (s : State) (p : PoolIx) : Owner → Bool
  | .owned i => (s.pools.get p).enabled && isHolding s p i && decide ((s.slots.get i).state ≠ .retiring .confirming)
  | .unowned => !(s.pools.get p).enabled || isDark s p || windowOpen s p
  | .stale _ => !(s.pools.get p).enabled || windowOpen s p

/-- The laws of the Bin Table, as a check on one state. -/
def binCheck (s : State) : Bool :=
  moveCheck s
    && decide (∀ i, (s.slots.get i).state.holding = true →
      (s.slots.get i).pool.any fun p => (s.pools.get p).enabled)
    && decide (∀ i, 1 ≤ (s.slots.get i).weight)
    && decide (∀ p, (s.pools.get p).enabled = true →
      ∀ i, (s.pools.get p).targets.get i = targetOf (eligibleWeight s p) i)
    && decide (∀ p b, ownerCheck s p ((s.pools.get p).bins.get b).owner = true)

theorem binLaws_of_check {s : State} (h : binCheck s = true) : BinLaws s := by
  simp only [binCheck, Bool.and_eq_true, decide_eq_true_eq] at h
  obtain ⟨⟨⟨⟨h1, h2⟩, h3⟩, h4⟩, h5⟩ := h
  refine ⟨moveLaw_of_check h1, fun i hi => ?_, h3, fun p i hp => h4 p hp i, fun i hi p b ho => ?_,
    fun p b i ho => ?_, fun p b ho hp => ?_, fun p b i ho hp => ?_⟩
  · simpa [Option.any_eq_true] using h2 i hi
  · have := h5 p b
    rw [ho] at this
    simp [ownerCheck, hi] at this
  · have := h5 p b
    rw [ho] at this
    simp only [ownerCheck, Bool.and_eq_true] at this
    exact this.1
  · have := h5 p b
    rw [ho] at this
    simpa [ownerCheck, hp] using this
  · have := h5 p b
    rw [ho] at this
    simpa [ownerCheck, hp] using this

/-- The law of a link record, as a check. -/
def linkFine (l : LinkRecord) : Bool :=
  decide ((l.state = .dark → l.train = none ∧ l.lock = false)
    ∧ (l.attemptTimer ≠ none ∨ l.lockedInAttempt = true → l.state = .training)
    ∧ (l.lockLossTimer ≠ none → l.lock = false ∧ (l.inAttempt = true ∨ l.carries = true))
    ∧ (l.carries = true → (l.lockLossTimer ≠ none ↔ l.lock = false))
    ∧ (l.state ≠ .up → l.control = [] ∧ l.remotePause = none) ∧ (l.carries = false → l.tx = none)
    ∧ (l.rx ≠ none → l.receives = true)
    ∧ l.control.Nodup ∧ (l.control.filter ControlFrame.isPause).length ≤ 1 ∧ l.control.length ≤ 11)
    && (decide (l.state = .dark) || l.train.any fun tr => 1 ≤ tr.attempt ∧ tr.attempt ≤ tr.limit ∧ tr.limit ≤ 7)

theorem linkLaw_of_fine {l : LinkRecord} (h : linkFine l = true) : LinkLaw l := by
  simp only [linkFine, Bool.and_eq_true, decide_eq_true_eq] at h
  obtain ⟨⟨h1, h2, h3, h4, h5, h6, h7, h8⟩, h9⟩ := h
  refine ⟨h1, fun hd => ?_, h2, h3, h4, h5, h6, h7, h8⟩
  simpa [hd, Option.any_eq_true] using h9

/-- The law of a monitor record, as a check. -/
def monitorFine (m : MonitorRecord) : Bool :=
  decide (m.divisor ∈ [1, 2, 4, 8]
    ∧ (m.lowLimit ≤ 255 ∧ m.highLimit ≤ 255 ∧ 1 ≤ m.alarmLimit ∧ m.alarmLimit ≤ 255)
    ∧ (m.phase = .counting → m.linkRunning = true)
    ∧ (m.phase = .idle → m.runningCount = 0 ∧ m.tickRemainder = 0)
    ∧ (m.runningCount ≤ 255 ∧ m.tickRemainder < m.divisor ∧ m.latchedCount ≤ 255 ∧ m.run ≤ 4)
    ∧ (m.latchedSaturated = true → m.latchedCount = 255)
    ∧ (m.phase = .counting → m.mode = .alarm → m.runningCount < m.alarmLimit))

theorem monitorLaw_of_fine {m : MonitorRecord} (h : monitorFine m = true) : MonitorLaw m := by
  simp only [monitorFine, decide_eq_true_eq] at h
  obtain ⟨h1, h2, h3, h4, h5, h6, h7⟩ := h
  exact ⟨h1, h2, h3, h4, h5, h6, h7⟩

/-- The laws of the links and monitors, as a check on one state. -/
def linkCheck (s : State) : Bool :=
  decide (1 ≤ s.agent.trainingAttempts ∧ s.agent.trainingAttempts ≤ 7)
    && decide (∀ i, linkFine (s.links.get i) = true ∧ monitorFine (s.monitors.get i) = true
      ∧ (s.monitors.get i).linkRunning = (s.links.get i).carries
      ∧ ((s.slots.get i).state = .drained → (s.links.get i).state = .parked ∨ (s.links.get i).state = .dark))

theorem linkLaws_of_check {s : State} (h : linkCheck s = true) : LinkLaws s := by
  simp only [linkCheck, Bool.and_eq_true, decide_eq_true_eq] at h
  exact ⟨h.1, fun i => linkLaw_of_fine (h.2 i).1, fun i => monitorLaw_of_fine (h.2 i).2.1, fun i => (h.2 i).2.2.1,
    fun i => (h.2 i).2.2.2⟩

/-- Every timer of a state has more than one tick to go, and every count more than one tick to its limit, but for what `c`
ends. -/
def quietCheck (c : Option Instr) (s : State) : Bool :=
  let long (t : Timer) : Bool := t.all fun n => decide (1 < n)
  let far (limit : Nat) (m : MonitorRecord) : Bool :=
    decide (1 < (limit - m.runningCount) * m.divisor - m.tickRemainder)
  decide (∀ i,
    let l := s.links.get i
    let r := s.slots.get i
    let m := s.monitors.get i
    (long l.lockLossTimer ∧ long l.attemptTimer ∧ long l.remotePause ∧ long (s.upstream.get i).pause
      ∧ long r.probeTimer ∧ long r.qualifyTimer ∧ long r.deadlineTimer)
    ∧ (some (.acknowledgmentExpiry i) = c ∨ long r.ackTimer = true)
    ∧ (some (.saturationLatch i) = c ∨ m.phase ≠ .counting ∨ far 255 m = true)
    ∧ (m.phase ≠ .counting ∨ m.mode ≠ .alarm))
  && decide (∀ e, (s.engines.get e).all fun m => decide (1 < m.timer))
  && decide (∀ p, long (s.pools.get p).rampTimer ∧ long (s.pools.get p).adoptionTimer)

theorem quiet_of_check {c : Option Instr} {s : State} (h : quietCheck c s = true) : QuietBut c s := by
  simp only [quietCheck, Bool.and_eq_true, decide_eq_true_eq] at h
  obtain ⟨⟨hi, he⟩, hp⟩ := h
  intro c' unit n hr hc
  suffices h : 1 < n by split <;> omega
  have long {t : Timer} {k : Nat} (h1 : t.all (fun n => decide (1 < n)) = true) (h2 : t = some k) : 1 < k := by
    subst h2; simpa using h1
  cases hr with
  | trainingLockLoss i n _ h => exact long (hi i).1.1 h
  | attemptTimer i n h => exact long (hi i).1.2.1 h
  | lockLoss i n _ h => exact long (hi i).1.1 h
  | remotePause i n h => exact long (hi i).1.2.2.1 h
  | refresh i n h => exact long (hi i).1.2.2.2.1 h
  | probeWindow i n h => exact long (hi i).1.2.2.2.2.1 h
  | qualify i n h => exact long (hi i).1.2.2.2.2.2.1 h
  | deadline i n h => exact long (hi i).1.2.2.2.2.2.2 h
  | acknowledgment i n h => exact long ((hi i).2.1.resolve_left hc) h
  | drain e m h _ => simpa [h] using he e
  | settle e m h _ => simpa [h] using he e
  | ramp p n h => exact long (hp p).1 h
  | adoption p n h => exact long (hp p).2 h
  | saturation i h _ _ => simpa [h] using (hi i).2.2.1.resolve_left hc
  | alarm i h h2 => exact absurd h2 ((hi i).2.2.2.resolve_left (not_not.mpr h))

theorem served_laws : BinLaws served := binLaws_of_check (by decide +kernel)

theorem moving_laws : BinLaws moving := binLaws_of_check (by decide +kernel)

/-! The checks of WellFormed, each with a term it refuses. -/

theorem test_map_of_eleven_refused : wellFormed (.setLampMap 0 (List.replicate 11 (0, 0))) = false := by decide

theorem test_known_request_is_not_unknown : wellFormed (.unknownRequest ⟨7, some 0x01, [], false⟩) = false := by
  decide

theorem test_unknown_code_is_well_formed : wellFormed (.unknownRequest ⟨7, some 0x20, [], false⟩) = true := by
  decide

/-! Requests written out from the layouts of R201, and what is read from them. -/

theorem test_decode_plain :
    decodeRequest ⟨7, some 0x01, [], false⟩ = .identify 7
      ∧ decodeRequest ⟨7, some 0x02, [12], false⟩ = .readSlot 7 12
      ∧ decodeRequest ⟨7, some 0x05, [3, 2, 9], false⟩ = .admitSlot 7 3 2 9
      ∧ decodeRequest ⟨7, some 0x1A, [3, 0x04, 0x01], false⟩ = .clearAttention 7 3 0x0401
      ∧ decodeRequest ⟨7, some 0x1F, [], false⟩ = .restart 7 := by decide

theorem test_decode_optional :
    decodeRequest ⟨1, some 0x0D, [3, 0x12, 0x01, 0xF4, 2], false⟩
        = .poolSet 1 3 none (some 0x01F4) none none (some 2) none
      ∧ decodeRequest ⟨1, some 0x0C, [4, 0x11, 1, 200], false⟩ = .setBeacon 1 4 (some 1) none none none (some 200)
      ∧ decodeRequest ⟨1, some 0x13, [0x21, 2, 5], false⟩ = .setScan 1 (some 2) none none none none (some 5)
      ∧ decodeRequest ⟨1, some 0x03, [9, 1, 2, 4, 0x10, 128], false⟩
        = .setPolicy 1 9 1 2 4 none none none none (some 128)
      ∧ decodeRequest ⟨1, some 0x1D, [0x03, 0x01, 0xF4, 0x00, 0x64], false⟩
        = .setDevice 1 (some 500) (some 100) none none none := by decide

theorem test_decode_lamps :
    decodeRequest ⟨1, some 0x16, [2, 0x07, 4, 100, 4, 0x00, 0x03], false⟩
        = .setLampPattern 1 2 (some 4) (some 100) (some (4, 3))
      ∧ decodeRequest ⟨1, some 0x17, [2, 5, 1, 8, 4], false⟩ = .setLampMap 1 [(5, 1), (8, 4)]
      ∧ decodeRequest ⟨1, some 0x18, [3, 0xFF], false⟩ = .lampOverride 1 3 0xFF := by decide

/-- R201: an unset presence bit's field, a byte too many, a presence bit past the last field, an overlength payload. -/
theorem test_decode_malformed :
    decodeRequest ⟨1, some 0x0D, [3, 0x02, 0x01], false⟩ = .unknownRequest ⟨1, some 0x0D, [3, 0x02, 0x01], false⟩
      ∧ decodeRequest ⟨1, some 0x01, [0], false⟩ = .unknownRequest ⟨1, some 0x01, [0], false⟩
      ∧ decodeRequest ⟨1, some 0x0C, [4, 0x20], false⟩ = .unknownRequest ⟨1, some 0x0C, [4, 0x20], false⟩
      ∧ decodeRequest ⟨1, some 0x01, [], true⟩ = .unknownRequest ⟨1, some 0x01, [], true⟩
      ∧ decodeRequest ⟨0, none, [], false⟩ = .unknownRequest ⟨0, none, [], false⟩ := by decide

/-! The spec's worked cases. -/

/-- The check value of the CRC of R199, over the digits 1 to 9: FC891918 hex. -/
theorem test_crc_of_the_digits :
    crc32 [0x31, 0x32, 0x33, 0x34, 0x35, 0x36, 0x37, 0x38, 0x39] = 0xFC891918#32 := by decide +kernel

/-- R41, the worked case: key 1234ABCD under three salts. -/
theorem test_bins_of_the_worked_key :
    binOf 0x1234ABCD#32 0 = 1 ∧ binOf 0x1234ABCD#32 0x5A = 26 ∧ binOf 0x1234ABCD#32 0xC3 = 1 := by decide +kernel

/-- The weights of R42's worked case: slots 3 and 7 at 5, slot 9 at 3. -/
def workedWeights (i : SlotIx) : Nat := if i = 2 ∨ i = 6 then 5 else if i = 8 then 3 else 0

/-- R42, the worked case: 25, 24 and 15. -/
theorem test_targets_of_the_worked_pool :
    targetOf workedWeights 2 = 25 ∧ targetOf workedWeights 6 = 24 ∧ targetOf workedWeights 8 = 15
      ∧ targetOf workedWeights 0 = 0 := by decide +kernel

/-- R134: probe 2 for slot 5 carries 37 · 1 + 32 + 5 = 74 and 37 · 2 + 32 + 5 = 111 at positions 1 and 2. -/
theorem test_probe_pattern : probePattern 4 2 1 = 74 ∧ probePattern 4 2 2 = 111 := by decide

/-- Slot 1 ADMITTING to pool 0 with target 15 and the first `n` bins. -/
def admittingWith (n : Nat) : State :=
  (slot1 (fun r => { r with state := .admitting, pool := some 0 }) State.reset).updPool 0 fun r =>
    { r with
      enabled := true
      targets := r.targets.set 0 15
      bins := Table.tab fun b => ⟨if b.val < n then .owned 0 else .unowned, 0, none⟩ }

/-- R107, the worked case: Q = 64 and target 15, with 2, 6 and 10 bins held. -/
theorem test_quota_through_an_admission :
    effectiveQuota (admittingWith 0) 0 = some 4 ∧ effectiveQuota (admittingWith 2) 0 = some 8
      ∧ effectiveQuota (admittingWith 6) 0 = some 25 ∧ effectiveQuota (admittingWith 10) 0 = some 42 := by
  decide +kernel

/-- R42, the second worked case: slot 1 at weight 1 and the others at 15. -/
theorem test_targets_of_a_full_shelf :
    (List.finRange 12).map (targetOf fun i => if i = 0 then 1 else 15) = [0, 6, 6, 6, 6, 6, 6, 6, 6, 6, 5, 5] := by
  decide +kernel

/-- R46's worked case: slots 3 and 7 hold 32 bins each and slot 9 joins at weight 3. -/
def thirdMember : State :=
  { State.reset with
    slots := Table.tab fun i =>
      { SlotRecord.powerOn with
        state := if i = 2 ∨ i = 6 ∨ i = 8 then .inService else .empty
        pool := some 0
        weight := max 1 (workedWeights i) }
    pools := State.reset.pools.modify 0 fun r =>
      { r with enabled := true, bins := Table.tab fun b => ⟨.owned (if b.val < 32 then 2 else 6), 0, none⟩ } }

theorem test_plan_for_a_third_member :
    ((recomputeTables 0 thirdMember).pools.get 0).plan.map (fun e => (e.bin.val, e.source, e.destination))
      = [(31, 2, 8), (30, 2, 8), (29, 2, 8), (28, 2, 8), (27, 2, 8), (26, 2, 8), (25, 2, 8), (63, 6, 8), (62, 6, 8),
         (61, 6, 8), (60, 6, 8), (59, 6, 8), (58, 6, 8), (57, 6, 8), (56, 6, 8)] := by decide +kernel

/-- R199, the worked header: 11 01 00 CB 12 34 AB CD 00 64. -/
theorem test_worked_header :
    header .dataPool 1 0 0x1234ABCD#32 100 = [0x11, 0x01, 0x00, 0xCB, 0x12, 0x34, 0xAB, 0xCD, 0x00, 0x64] := by
  decide +kernel

/-- Chapter 5's arbiter round: the pointer at slot 5, frames waiting at slots 2, 5 and 9. -/
def arbiterRound : State :=
  ((State.reset.updUpstream 1 fun u => { u with queue := [[], []] }).updUpstream 4
    fun u => { u with queue := [[]] }).updUpstream 8 (fun u => { u with queue := [[]] })
    |>.updCore fun k => { k with pointer := 4 }

theorem test_round_robin :
    let s1 := run .coreArbiterChoice arbiterRound
    let s2 := run .coreArbiterChoice (run .upstreamTxEnd s1)
    s1.core.pointer = 8 ∧ s2.core.pointer = 1
      ∧ (run .coreArbiterChoice (run .upstreamTxEnd s2)).core.pointer = 4 := by decide +kernel

/-- Chapter 6's three attempts: FULL, HALF, FULL, then TRAIN_TIMEOUT. -/
def trainingSlot : State :=
  link1 (fun l => l.startAttempt .auto 3 1) (slot1 (fun r => { r with state := .seated }) State.reset)

theorem test_three_attempts :
    let s2 := run (.attemptTimerExpiry 0) trainingSlot
    let s3 := run (.trainingLockLoss 0) (run (.lockLost 0) (run (.lockGained 0) s2))
    let s4 := run (.attemptTimerExpiry 0) s3
    ((s2.links.get 0).train.map fun t => (t.rate, t.attempt)) = some (.half, 2)
      ∧ ((s3.links.get 0).train.map fun t => (t.rate, t.attempt)) = some (.full, 3)
      ∧ s4.slotCount 0 .lockLosses = 1 ∧ (s4.slots.get 0).lastFault = some .trainTimeout
      ∧ (s4.links.get 0).train = none := by decide +kernel

/-- R123: a lock that stands when an attempt ends does not bring the next attempt to its success. -/
theorem test_lock_of_an_earlier_attempt_does_not_count :
    let s := run (.attemptTimerExpiry 0) (run (.lockGained 0) trainingSlot)
    (s.links.get 0).lock = true ∧ ((run (.attemptSuccess 0) s).links.get 0).state = .training
      ∧ ((run (.attemptSuccess 0) (run (.lockGained 0) s)).links.get 0).state = .up := by decide +kernel

/-- Slot 1 just come UP, its eight PROBEs waiting. -/
def upSlot : State := run (.attemptSuccess 0) (run (.lockGained 0) trainingSlot)

/-- Slot 1 UP and its monitor COUNTING at divisor 4, at a count and a remainder, one µs before a monitor tick. -/
def countingAt (count remainder : Nat) : State :=
  { monitor1 (fun m =>
      { m with phase := .counting, divisor := 4, runningCount := count, tickRemainder := remainder }) upSlot with
    micros := 9 }

/-- R142: the latch comes as the count reaches 255, and at 255 the remainder goes on counting with no further latch. -/
theorem test_saturation_latches_once :
    let latched := step (countingAt 254 3)
    let later := step (countingAt 255 1)
    (match latched with
      | .next t => (t.monitors.get 0).latchedSaturated && decide ((t.monitors.get 0).runningCount = 255)
      | .fault _ | .refused _ => false) = true
      ∧ (match later with
        | .next t => !(t.monitors.get 0).latchedSaturated && decide ((t.monitors.get 0).tickRemainder = 2)
        | .fault _ | .refused _ => false) = true := by decide +kernel

/-- R204: bytes 48 to 59 of a READ_SLOT record, where no signal has a candidate. -/
theorem test_absent_candidates_read_FF :
    ((slotRecordBytes State.reset 0).drop 48).take 12
      = [0, 0xFF, 0xFF, 0, 0xFF, 0xFF, 0, 0xFF, 0xFF, 0, 0xFF, 0xFF] := by decide +kernel

/-- Chapter 9's FAST pattern: dark at S = 1,004 and lit at 1,008. -/
theorem test_fast_pattern :
    (defaultPatterns.get 3).levelAt 1004#32 = false ∧ (defaultPatterns.get 3).levelAt 1008#32 = true
      ∧ (defaultPatterns.get 3).levelAt 1016#32 = false ∧ (defaultPatterns.get 4).levelAt 4#32 = true
      ∧ (defaultPatterns.get 4).levelAt 6#32 = false := by decide +kernel

theorem test_served_is_in_service :
    (served.slots.get 0).state = .inService ∧ slotHeld served 0 = 64 ∧ slotTarget served 0 = 64 := by decide +kernel

theorem test_grant_starts_the_highest_bin :
    ((moving.engines.get 0).map fun m => (m.bin, m.source, m.destination, m.phase, m.timer))
      = some (63, 0, 1, .settling, 10) := by decide +kernel

theorem test_settled_move_commits :
    (((run (.settleTimerExpiry 0) moving).pools.get 0).bins.get 63).owner = .owned 1 := by decide +kernel

/-! Witnesses: for each statement with hypotheses, states and operands that meet them, clause by clause. -/

/-- A frame of pool 0 for bin `n`, and what its checks give. -/
def poolFrame (n : Nat) : FrameBytes := frame .dataPool 0 (BitVec.ofNat 32 n) [1]

theorem poolFrame_checked : checkFrame (poolFrame 63) = .ok ⟨.dataPool, 0, 63, [1]⟩ := checked (by decide +kernel)

def slotFrame1 : FrameBytes := frame .dataSlot 1 0 [1]

theorem slotFrame_checked : checkFrame slotFrame1 = .ok ⟨.dataSlot, 1, 0, [1]⟩ := checked (by decide +kernel)

/-- A link control frame from the blade. -/
def controlFrame (subcode : Byte) (payload : List Byte) : FrameBytes := frame .linkCtrl subcode 0 payload

theorem witness_PinResetKeepsSettingsAndClearsTheRest :
    State.reset.scanner.mode = .scan ∧ (State.reset.updScanner fun c => { c with mode := .off }).scanner.mode ≠ .scan
      ∧ ((served.pools.get 0).bins.get 63).owner = .owned 0
      ∧ (((run .pinReset served).pools.get 0).bins.get 63).owner = .stale 0
      ∧ ((State.reset.pools.get 3).bins.get 0).owner = .unowned := by decide +kernel

theorem witness_ReceptionStartTakesAFreeCell :
    State.reset.core.rx = none ∧ cellsInUse State.reset < 2048
      ∧ ¬ cellsInUse { State.reset with
          egress := Table.tab fun i => List.replicate (if i.val < 8 then 256 else 0) ⟨[], none⟩ } < 2048
      ∧ (let l := (slotIn .standby).links.get 0
        l.lock = true ∧ l.rx = none ∧ l.state = .up ∧ l.lost = false)
      ∧ (let l := (link1 (fun l => { l with state := .parked }) (slotIn .drained)).links.get 0
        l.lock = true ∧ l.rx = none ∧ l.state = .parked) := by decide +kernel

theorem witness_UnstoredAndAbortedFramesAreOnlyCounted :
    (receiving State.reset).core.rx = some true
      ∧ (State.reset.updCore fun k => { k with rx := some false }).core.rx = some false
      ∧ ((slotReceiving State.reset).links.get 0).rx = some true
      ∧ ((link1 (fun l => { l with rx := some false }) State.reset).links.get 0).rx = some false := by decide +kernel

/-- One frame for each clause of the five checks, at the lengths 2,049 and 13, and one that passes. -/
theorem witness_FrameChecksAreMadeInOrder :
    (receiving (slotReceiving State.reset)).core.rx = some true
      ∧ ((receiving (slotReceiving State.reset)).links.get 0).rx = some true
      ∧ (List.replicate 2049 (0 : Byte)).length = 2049 ∧ (List.replicate 13 (0 : Byte)).length = 13
      ∧ (let f := List.replicate 14 (0 : Byte)
        ¬ f.length < 14 ∧ ((f.take 10).map BitVec.toNat).sum % 256 ≠ 255)
      ∧ (let f := header .mgmt 0 0 0 0 ++ [0, 0, 0, 0]
        f.length = 14 ∧ ((f.take 10).map BitVec.toNat).sum % 256 = 255
          ∧ f.drop 10 ≠ bytes32 (crc32 (f.take 10)))
      ∧ (let f := withCrc (header .mgmt 0 0 0 1)
        f.drop 10 = bytes32 (crc32 (f.take 10)) ∧ (f.getD 8 0).toNat * 256 + (f.getD 9 0).toNat + 14 ≠ f.length)
      ∧ (checkFrame (withCrc (header .mgmt 0 0 0 0))).toOption = some ⟨.mgmt, 0, 0, []⟩ := by decide +kernel

theorem witness_PoolFramesFollowTheBinTable :
    (CoreFrame (receiving State.reset) (poolFrame 63) ⟨.dataPool, 0, 63, [1]⟩)
      ∧ (State.reset.pools.get 0).enabled = false
      ∧ (let s := done (.poolEnable 1 0) State.reset
        (s.pools.get 0).enabled = true ∧ ((s.pools.get 0).bins.get 63).owner = .unowned)
      ∧ (let s := done (.poolEnable 1 0) (run .pinReset served)
        (s.pools.get 0).enabled = true ∧ ((s.pools.get 0).bins.get 63).owner = .stale 0)
      ∧ (let s := egressOf 255 served
        (s.pools.get 0).enabled = true ∧ ((s.pools.get 0).bins.get 63).owner = .owned 0
          ∧ ((s.pools.get 0).bins.get 63).engine = none ∧ (s.egress.get 0).length = 255)
      ∧ ((egressOf 256 served).egress.get 0).length = 256 :=
  ⟨⟨rfl, poolFrame_checked⟩, by decide +kernel⟩

/-- The move of `moving` with a hold list of `n`. -/
def holding (n : Nat) : State :=
  receiving (moving.setEngine 0 ((moving.engines.get 0).map fun m => { m with hold := List.replicate n [] }))

theorem witness_MovingBinsHoldTheirFrames :
    ∃ m, (holding 32).engines.get 0 = some m ∧ CoreFrame (holding 32) (poolFrame 63) ⟨.dataPool, 0, 63, [1]⟩
      ∧ m.pool = 0 ∧ ((holding 32).pools.get 0).enabled = true
      ∧ binOf 63 ((holding 32).pools.get 0).salt = m.bin
      ∧ (((holding 32).pools.get 0).bins.get m.bin).engine = some 0
      ∧ (((holding 32).pools.get 0).bins.get m.bin).owner = .owned m.source ∧ m.hold.length = 32
      ∧ ((holding 32).egress.get m.destination).length ≤ 223
      ∧ (((holding 31).engines.get 0).map fun m => m.hold.length) = some 31 :=
  ⟨⟨0, 63, 0, 1, 20, 10, .settling, 10, List.replicate 32 []⟩, by decide +kernel,
    ⟨by decide +kernel, poolFrame_checked⟩, by decide +kernel⟩

theorem witness_SlotFramesFollowTheSlotState :
    CoreFrame (receiving (slotIn .standby)) slotFrame1 ⟨.dataSlot, 1, 0, [1]⟩
      ∧ ((slotIn .standby).slots.get 0).state = .standby
      ∧ ((egressOf 255 (slotIn .standby)).egress.get 0).length = 255
      ∧ ((egressOf 256 (slotIn .standby)).egress.get 0).length = 256
      ∧ ((slotIn (.retiring .confirming)).slots.get 0).state = .retiring .confirming :=
  ⟨⟨by decide +kernel, slotFrame_checked⟩, by decide +kernel⟩

/-- A request queue of `n`. -/
def requestsOf (n : Nat) (s : State) : State :=
  s.updAgent fun a => { a with requests := List.replicate n ⟨[], ⟨0, none, [], false⟩⟩ }

theorem witness_RequestsAreHandedOffAndBadTargetsDropped :
    (receiving (requestsOf 7 State.reset)).core.rx = some true
      ∧ (requestsOf 7 State.reset).agent.requests.length = 7 ∧ (requestsOf 8 State.reset).agent.requests.length = 8
      ∧ (checkFrame (frame .mgmt 0 0 [7, 1])).toOption = some ⟨.mgmt, 0, 0, [7, 1]⟩
      ∧ (checkFrame (frame .mgmt 1 0 [7, 1])).toOption = some ⟨.mgmt, 1, 0, [7, 1]⟩
      ∧ (checkFrame (frame .linkCtrl 1 0 [])).toOption = some ⟨.linkCtrl, 1, 0, []⟩
      ∧ (checkFrame (frame .dataPool 4 0 [])).toOption = some ⟨.dataPool, 4, 0, []⟩
      ∧ (checkFrame (frame .dataSlot 0 0 [])).toOption = some ⟨.dataSlot, 0, 0, []⟩
      ∧ (checkFrame (frame .dataSlot 13 0 [])).toOption = some ⟨.dataSlot, 13, 0, []⟩ := by decide +kernel

theorem witness_TargetsApportionSixtyFourBins :
    0 < ((List.finRange 12).map workedWeights).sum ∧ ((List.finRange 12).map fun _ : SlotIx => 0).sum = 0 := by
  decide +kernel

/-- An upstream queue of `n` at slot 1, its pause state as given. -/
def upstreamOf (n : Nat) (pause : Timer) (s : State) : State :=
  s.updUpstream 0 fun _ => ⟨List.replicate n [], pause⟩

theorem witness_UpstreamAdmissionKeepsTheQuota :
    SlotFrame (slotReceiving (slotIn .standby)) 0 slotFrame1 ⟨.dataSlot, 1, 0, [1]⟩
      ∧ ((slotIn .drained).slots.get 0).state = .drained
      ∧ effectiveQuota (slotIn .standby) 0 = some 4
      ∧ ((upstreamOf 2 none (slotIn .standby)).upstream.get 0).queue.length + 1 < 4
      ∧ ((upstreamOf 3 (some 9) (slotIn .standby)).upstream.get 0).pause ≠ none
      ∧ (let s := upstreamOf 3 none (slotIn .standby)
        (s.upstream.get 0).queue.length + 1 = 4 ∧ (s.upstream.get 0).pause = none
          ∧ (s.links.get 0).state = .up ∧ (s.links.get 0).lost = false)
      ∧ 4 ≤ ((upstreamOf 4 none (slotIn .standby)).upstream.get 0).queue.length :=
  ⟨⟨by decide +kernel, slotFrame_checked⟩, by decide +kernel⟩

theorem witness_EffectiveQuotaFollowsTheSlotState :
    8 ≤ ((admittingWith 0).slots.get 0).quota ∧ ((admittingWith 0).slots.get 0).state = .admitting
      ∧ 0 < slotTarget (admittingWith 0) 0 ∧ slotHeld (admittingWith 15) 0 = slotTarget (admittingWith 15) 0
      ∧ slotTarget (slot1 (fun r => { r with state := .admitting }) State.reset) 0 = 0
      ∧ ((slotIn .probing).slots.get 0).state = .probing ∧ ((slotIn .standby).slots.get 0).state = .standby
      ∧ ((slotIn .inService).slots.get 0).state = .inService
      ∧ ((slotIn (.retiring .moving)).slots.get 0).state = .retiring .moving := by decide +kernel

/-- Slot 1 with all echoes but the last, its beacons qualified. -/
def sevenEchoes (s : State) : State := slot1 (fun r => { r with echoes := 0x7F, beaconsQualified := true }) s

/-- The same under AUTO_ADMIT, its pool enabled and dark, a reception in progress. -/
def autoAdmitted : State :=
  slotReceiving (slot1 (fun r => { r with policy := 1, pool := some 0 })
    (done (.poolEnable 1 0) (sevenEchoes (slotIn .probing))))

theorem witness_ProbeEchoesAreJudged :
    BinLaws autoAdmitted ∧ ((slotReceiving (slotIn .probing)).links.get 0).rx = some true
      ∧ (checkFrame (controlFrame 3 (probePayload 0 7))).toOption = some ⟨.linkCtrl, 3, 0, probePayload 0 7⟩
      ∧ probePayload 0 7 = BitVec.ofNat 8 7 ::
          ((List.range 63).map fun k => BitVec.ofNat 8 (37 * (k + 1) + 16 * 7 + (0 + 1)))
      ∧ (checkFrame (controlFrame 3 [])).toOption = some ⟨.linkCtrl, 3, 0, []⟩
      ∧ ((slotIn .probing).slots.get 0).state = .probing
      ∧ ((slotIn .probing).slots.get 0).beaconsQualified = false
      ∧ ((slotIn .standby).slots.get 0).state ≠ .probing
      ∧ (let r := (sevenEchoes (slotIn .probing)).slots.get 0
        r.echoes ||| 1#8 <<< 7 = 0xFF#8 ∧ r.beaconsQualified = true ∧ r.autoAdmit = false)
      ∧ (let r := autoAdmitted.slots.get 0
        r.state = .probing ∧ r.echoes ||| 1#8 <<< 7 = 0xFF#8 ∧ r.beaconsQualified = true ∧ r.autoAdmit = true
          ∧ r.pool = some 0 ∧ (autoAdmitted.pools.get 0).enabled = true ∧ (autoAdmitted.links.get 0).rx = some true) :=
  ⟨binLaws_of_check (by decide +kernel), by decide +kernel⟩

theorem witness_BeaconsMeasureIntervals :
    ((slotReceiving (slotIn .standby)).links.get 0).rx = some true
      ∧ (checkFrame (controlFrame 1 [])).toOption = some ⟨.linkCtrl, 1, 0, []⟩
      ∧ ((slotIn .standby).links.get 0).state = .up ∧ ((slotIn .standby).slots.get 0).state ≠ .probing
      ∧ (let s := link1 (fun l => { l with state := .parked }) (slotReceiving (slotIn .drained))
        (s.links.get 0).rx = some true ∧ (s.links.get 0).state = .parked)
      ∧ (let s := slotReceiving (monitor1 (fun m => { m with phase := .counting, run := 2 }) (slotIn .probing))
        (s.links.get 0).rx = some true ∧ (s.slots.get 0).state = .probing ∧ (s.slots.get 0).beaconsQualified = false
          ∧ (s.monitors.get 0).phase = .counting ∧ (s.monitors.get 0).run ≠ 3)
      ∧ ((slotIn .standby).monitors.get 0).phase = .idle
      ∧ ((monitor1 (fun m => { m with phase := .frozen }) (slotIn .standby)).monitors.get 0).phase = .frozen
      ∧ (let m := (monitor1 (fun m => { m with phase := .counting, runningCount := 50 }) (slotIn .standby)).monitors.get 0
        m.phase = .counting ∧ m.lowLimit ≤ max 1 m.runningCount ∧ max 1 m.runningCount ≤ m.highLimit
          ∧ m.runningCount ≠ 255)
      ∧ (let m := (monitor1 (fun m => { m with phase := .counting, runningCount := 151 }) (slotIn .standby)).monitors.get 0
        m.runningCount ≤ 255 ∧ m.highLimit < max 1 m.runningCount) := by decide +kernel

theorem witness_TheFourthIntervalQualifies :
    let s := slotReceiving (monitor1 (fun m => { m with phase := .counting, runningCount := 150, run := 3 })
      (slot1 (fun r => { r with echoes := 0xFF }) (slotIn .probing)))
    (s.links.get 0).rx = some true ∧ (s.links.get 0).state = .up ∧ (s.slots.get 0).state = .probing
      ∧ (s.slots.get 0).beaconsQualified = false ∧ (s.monitors.get 0).phase = .counting ∧ (s.monitors.get 0).run = 3
      ∧ (s.monitors.get 0).runningCount < 255
      ∧ (s.monitors.get 0).lowLimit ≤ max 1 (s.monitors.get 0).runningCount
      ∧ max 1 (s.monitors.get 0).runningCount ≤ (s.monitors.get 0).highLimit
      ∧ (s.slots.get 0).echoes = 0xFF#8 ∧ (s.slots.get 0).autoAdmit = false
      ∧ ((slotIn .probing).slots.get 0).echoes ≠ 0xFF#8
      ∧ (let u := monitor1 (fun m => { m with phase := .counting, runningCount := 50, run := 3 })
          (slot1 (fun r => { r with echoes := 0xFF, beaconsQualified := false }) autoAdmitted)
        binCheck u = true ∧ (u.slots.get 0).echoes = 0xFF#8 ∧ (u.slots.get 0).beaconsQualified = false
          ∧ (u.slots.get 0).autoAdmit = true ∧ (u.slots.get 0).pool = some 0
          ∧ (u.pools.get 0).enabled = true) := by decide +kernel

theorem witness_BladeFramesWithNoConsumerAreOnlyCounted :
    ((slotReceiving (slotIn .standby)).links.get 0).rx = some true
      ∧ (checkFrame (frame .mgmt 0 0 [1])).toOption = some ⟨.mgmt, 0, 0, [1]⟩
      ∧ (checkFrame (controlFrame 2 [])).toOption = some ⟨.linkCtrl, 2, 0, []⟩
      ∧ (checkFrame (controlFrame 6 [])).toOption = some ⟨.linkCtrl, 6, 0, []⟩
      ∧ ((slotIn .standby).slots.get 0).state ≠ .retiring .confirming
      ∧ ((slotIn (.retiring .confirming)).slots.get 0).state = .retiring .confirming
      ∧ ((slotIn (.retiring .confirming)).links.get 0).state = .up := by decide +kernel

theorem witness_RemotePauseHaltsTheLink :
    ((slotReceiving (slotIn .standby)).links.get 0).rx = some true
      ∧ (checkFrame (controlFrame 7 [0, 0])).toOption = some ⟨.linkCtrl, 7, 0, [0, 0]⟩
      ∧ (checkFrame (controlFrame 7 [0xFF, 0xFF])).toOption = some ⟨.linkCtrl, 7, 0, [0xFF, 0xFF]⟩
      ∧ (checkFrame (controlFrame 7 [1])).toOption = some ⟨.linkCtrl, 7, 0, [1]⟩
      ∧ ((slotIn .standby).links.get 0).state = .up
      ∧ ((link1 (fun l => { l with state := .parked }) (slotIn .drained)).links.get 0).state = .parked := by
  decide +kernel

theorem witness_LockFollowsTheReceiver :
    (State.reset.links.get 0).state = .dark ∧ (State.reset.links.get 0).lock = false
      ∧ (trainingSlot.links.get 0).state = .training
      ∧ (let l := (run (.lockGained 0) trainingSlot).links.get 0
        l.lock = true ∧ l.rx = none ∧ l.state = .training ∧ l.attemptTimer ≠ none ∧ l.lockedInAttempt = true)
      ∧ (let l := (link1 (fun l => { l with lock := true }) trainingSlot).links.get 0
        l.lock = true ∧ l.rx = none ∧ l.lockedInAttempt = false)
      ∧ (let l := (slotIn .standby).links.get 0
        l.lock = true ∧ l.rx = none ∧ l.state = .up ∧ l.lost = false)
      ∧ (let l := (link1 (fun l => { l with lost := true }) (slotIn .fenced)).links.get 0
        l.lock = true ∧ l.state = .up ∧ l.lost = true)
      ∧ (let l := (slotReceiving (link1 (fun l => { l with state := .parked }) (slotIn .drained))).links.get 0
        l.lock = true ∧ l.rx = some true ∧ l.state = .parked)
      ∧ (let l := (link1 (fun l => { l with rx := some false }) (slotIn .standby)).links.get 0
        l.lock = true ∧ l.rx = some false ∧ l.state = .up ∧ l.lost = false) := by decide +kernel

theorem witness_AttemptSuccessBeginsProbing :
    let s := run (.lockGained 0) trainingSlot
    (s.links.get 0).state = .training ∧ (s.links.get 0).attemptTimer ≠ none ∧ (s.links.get 0).lock = true
      ∧ (s.links.get 0).lockedInAttempt = true ∧ (trainingSlot.links.get 0).lockedInAttempt = false
      ∧ (s.slots.get 0).state = .seated ∧ (s.slots.get 0).expectedClass = 0
      ∧ ((slot1 (fun r => { r with expectedClass := 15 }) s).slots.get 0).expectedClass
        ≠ (s.ports.get 0).bladeClass.accepted.toNat := by decide +kernel

theorem witness_FailedAttemptsRetryOrFault :
    let s := link1 (fun l => l.startAttempt .auto 3 3) trainingSlot
    (trainingSlot.links.get 0).state = .training ∧ (trainingSlot.links.get 0).attemptTimer ≠ none
      ∧ (trainingSlot.links.get 0).train = some ⟨.full, 1, 3, .auto⟩
      ∧ ((run (.lockLost 0) (run (.lockGained 0) trainingSlot)).links.get 0).lockLossTimer ≠ none
      ∧ (s.links.get 0).train = some ⟨.full, 3, 3, .auto⟩ ∧ (s.links.get 0).attemptTimer ≠ none
      ∧ (s.slots.get 0).state = .seated ∧ (s.links.get 0).tx = none
      ∧ (let u := run (.lockLost 0) (run (.lockGained 0) s)
        (u.links.get 0).train = some ⟨.full, 3, 3, .auto⟩ ∧ (u.links.get 0).attemptTimer ≠ none
          ∧ (u.links.get 0).lockLossTimer ≠ none ∧ (u.slots.get 0).state = .seated
          ∧ (u.links.get 0).state = .training) := by decide +kernel

theorem witness_LockLossIsReportedByState :
    let lossOf (st : SlotState) : State := run (.lockLost 0) (slotIn st)
    ((lossOf .inService).links.get 0).state = .up ∧ ((lossOf .inService).links.get 0).lost = false
      ∧ ((lossOf .inService).links.get 0).lockLossTimer ≠ none
      ∧ ((lossOf .inService).slots.get 0).state = .inService
      ∧ ((lossOf (.retiring .confirming)).slots.get 0).state = .retiring .confirming
      ∧ ((lossOf (.retiring .confirming)).links.get 0).lockLossTimer ≠ none
      ∧ ((lossOf .fenced).slots.get 0).state = .fenced
      ∧ ((lossOf .fenced).links.get 0).lockLossTimer ≠ none := by decide +kernel

theorem witness_SlotLinksSendControlFramesFirst :
    let s := link1 (fun l => { l with control := [.pause 5] }) (slotIn .standby)
    (s.links.get 0).state = .up ∧ (s.links.get 0).lost = false ∧ (s.links.get 0).lock = true
      ∧ (s.links.get 0).tx = none ∧ (s.links.get 0).control = [.pause 5]
      ∧ (let t := egressOf 1 (slotIn .standby)
        (t.links.get 0).control = [] ∧ (t.links.get 0).remotePause = none ∧ t.egress.get 0 ≠ [])
      ∧ (let t := link1 (fun l => { l with remotePause := some 1 }) (egressOf 1 (slotIn .standby))
        (t.links.get 0).control = [] ∧ (t.links.get 0).remotePause ≠ none)
      ∧ (slotIn .standby).egress.get 0 = []
      ∧ ((link1 (fun l => { l with tx := some (.control []) }) (slotIn .standby)).links.get 0).tx
        = some (.control []) := by decide +kernel

/-- Slot 1 sending the one frame of its egress queue. -/
def sending (steered : Option (PoolIx × BinIx)) (s : State) : State :=
  link1 (fun l => { l with tx := some .data }) (s.setEgress 0 [⟨[], steered⟩])

theorem witness_EgressTransmissionEndsAreDelivered :
    (sending none (slotIn .standby)).egress.get 0 = [⟨[], none⟩]
      ∧ ((sending none (slotIn .standby)).links.get 0).tx = some .data
      ∧ ((sending none (slotIn .standby)).slots.get 0).state ≠ .retiring .moving
      ∧ (((sending (some (0, 63)) served).pools.get 0).bins.get 63).engine = none
      ∧ ((sending (some (0, 63)) served).slots.get 0).state ≠ .retiring .moving
      ∧ (let s := sending none (slotIn (.retiring .moving))
        (s.slots.get 0).state = .retiring .moving ∧ slotHeld s 0 = 0 ∧ inActiveMove s 0 = false)
      ∧ (let s := sending (some (0, 63)) (slotIn (.retiring .moving))
        (s.slots.get 0).state = .retiring .moving ∧ slotHeld s 0 = 0 ∧ inActiveMove s 0 = false
          ∧ ((s.pools.get 0).bins.get 63).engine = none)
      ∧ (let s := sending (some (0, 63)) (done (.retire 1 1 0) moving)
        (s.slots.get 0).state = .retiring .moving ∧ slotHeld s 0 ≠ 0
          ∧ ((s.pools.get 0).bins.get 63).engine = some 0
          ∧ (s.engines.get 0).map (fun m => m.phase) = some .settling) := by
  decide +kernel

/-- The move of `moving` DRAINING, the last frame of its bin being sent. -/
def lastFrame (settle : Nat) : State :=
  sending (some (0, 63)) ((moving.updBin 0 63 fun b => { b with inflight := 1 }).setEngine 0
    (some ⟨0, 63, 0, 1, 20, settle, .draining, 20, []⟩))

theorem witness_TheLastDecrementEndsTheDrain :
    (lastFrame 0).egress.get 0 = [⟨[], some (0, 63)⟩] ∧ ((lastFrame 0).links.get 0).tx = some .data
      ∧ (lastFrame 0).engines.get 0 = some ⟨0, 63, 0, 1, 20, 0, .draining, 20, []⟩
      ∧ (((lastFrame 0).pools.get 0).bins.get 63).engine = some 0
      ∧ (((lastFrame 0).pools.get 0).bins.get 63).inflight = 1
      ∧ (lastFrame 1).engines.get 0 = some ⟨0, 63, 0, 1, 20, 1, .draining, 20, []⟩ := by decide +kernel

theorem witness_TheCoreArbiterGoesRound :
    arbiterRound.core.tx = .idle ∧ arbiterRound.agent.transmit = []
      ∧ (arbiterRound.upstream.get (arbiterRound.core.pointer + 1 + 3)).queue = [[]]
      ∧ (∀ j : Fin 12, j < 3 → (arbiterRound.upstream.get (arbiterRound.core.pointer + 1 + j)).queue = [])
      ∧ (∀ j, (State.reset.upstream.get j).queue = [])
      ∧ (transmitFull State.reset).agent.transmit ≠ [] := by decide +kernel

theorem witness_CoreTransmissionEndsLeaveTheirQueue :
    let on (n : Nat) (pause : Timer) : State :=
      (upstreamOf n pause (slotIn .standby)).updCore fun k => { k with tx := .upstream 0 [] }
    (on 1 none).core.tx = .upstream 0 [] ∧ effectiveQuota (on 1 none) 0 = some 4
      ∧ ((on 4 none).upstream.get 0).queue.tail.length < 4 ∧ ((on 4 none).upstream.get 0).pause = none
      ∧ 4 / 2 < ((on 4 (some 1)).upstream.get 0).queue.tail.length
      ∧ ((on 3 (some 1)).upstream.get 0).queue.tail.length ≤ 4 / 2
      ∧ ((on 3 (some 1)).upstream.get 0).pause ≠ none
      ∧ ((on 3 (some 1)).links.get 0).state = .up ∧ ((on 3 (some 1)).links.get 0).lost = false
      ∧ 4 ≤ ((on 5 none).upstream.get 0).queue.tail.length ∧ ((on 5 none).upstream.get 0).pause = none
      ∧ ((on 5 none).links.get 0).state = .up ∧ ((on 5 none).links.get 0).lost = false
      ∧ (let s := (upstreamOf 1 none (slotIn .drained)).updCore fun k => { k with tx := .upstream 0 [] }
        s.core.tx = .upstream 0 [] ∧ effectiveQuota s 0 = none)
      ∧ (let s := (transmitFull State.reset).updCore fun k => { k with tx := .mgmt [] }
        s.core.tx = .mgmt [] ∧ s.agent.transmit ≠ []) := by decide +kernel

theorem witness_RefreshExpiryRepeatsOrEndsThePause :
    let s := upstreamOf 3 (some 0) (slotIn .standby)
    let t := upstreamOf 2 (some 0) (slotIn .standby)
    (s.upstream.get 0).pause ≠ none ∧ effectiveQuota s 0 = some 4 ∧ (s.links.get 0).state = .up
      ∧ (s.links.get 0).lost = false ∧ 4 / 2 < (s.upstream.get 0).queue.length
      ∧ (t.upstream.get 0).pause ≠ none ∧ (t.upstream.get 0).queue.length ≤ 4 / 2 := by decide +kernel

theorem witness_SentFramesPassTheFrameChecks :
    (List.replicate 2034 (0 : Byte)).length ≤ 2034
      ∧ (checkFrame slotFrame1).toOption = some ⟨.dataSlot, 1, 0, [1]⟩ := by decide +kernel

theorem witness_ProbingExpiriesFaultTheSlot :
    MoveLaw (slot1 (fun r => { r with probeTimer := some 0, qualifyTimer := some 0 }) (slotIn .probing))
      ∧ (let r := (slot1 (fun r => { r with probeTimer := some 0, qualifyTimer := some 0 }) (slotIn .probing)).slots.get 0
        r.state = .probing ∧ r.probeTimer ≠ none ∧ r.qualifyTimer ≠ none) :=
  ⟨moveLaw_of_check (by decide +kernel), by decide +kernel⟩

/-- Slot 1 RETIRING under FORCE_ON_DEADLINE, its deadline timer running. -/
def forcedIn (s : State) : State := slot1 (fun r => { r with policy := 4, deadlineTimer := some 0 }) s

/-- Slot 1 RETIRING with its bins, slot 2 being eligible. -/
def leaving : State := forcedIn (done (.retire 1 1 0) moving)

/-- Slot 1 RETIRING by itself as the last member, with its bins. -/
def leavingDark : State := forcedIn (retireAutomatically 0 id served)

theorem witness_RetirementTimersExpire_forced :
    (BinLaws leaving ∧ (leaving.slots.get 0).state = .retiring .moving ∧ (leaving.slots.get 0).forceOnDeadline = true
      ∧ (leaving.slots.get 0).pool = some 0 ∧ ((leaving.pools.get 0).bins.get 0).owner = .owned 0
      ∧ isDark leaving 0 = false)
      ∧ (BinLaws leavingDark ∧ (leavingDark.slots.get 0).state = .retiring .moving
        ∧ (leavingDark.slots.get 0).forceOnDeadline = true ∧ (leavingDark.slots.get 0).pool = some 0
        ∧ ((leavingDark.pools.get 0).bins.get 63).owner = .owned 0 ∧ isDark leavingDark 0 = true) :=
  ⟨⟨binLaws_of_check (by decide +kernel), by decide +kernel⟩, ⟨binLaws_of_check (by decide +kernel), by decide +kernel⟩⟩

theorem witness_RetirementTimersExpire :
    let r1 := slot1 (fun r => { r with deadlineTimer := some 0 }) (slotIn (.retiring .moving))
    let r2 := slot1 (fun r => { r with policy := 4 }) r1
    let r3 := slot1 (fun r => { r with ackTimer := some 0 }) (slotIn (.retiring .confirming))
    MoveLaw r2 ∧ (r1.slots.get 0).state = .retiring .moving ∧ (r1.slots.get 0).deadlineTimer ≠ none
      ∧ (r1.slots.get 0).forceOnDeadline = false ∧ (r2.slots.get 0).forceOnDeadline = true ∧ slotHeld r2 0 = 0
      ∧ inActiveMove r2 0 = false ∧ (r3.slots.get 0).state = .retiring .confirming
      ∧ (r3.slots.get 0).ackTimer ≠ none ∧ (r3.links.get 0).state = .up :=
  ⟨moveLaw_of_check (by decide +kernel), by decide +kernel⟩

/-- A pool whose adoption window is open, and one of its members in service. -/
def adopting : State :=
  done (.admitSlot 1 2 0 5) (withSecond .standby (done (.poolEnable 1 0) (run .pinReset served)))

theorem witness_MoveAndPoolTimersExpire :
    BinLaws adopting
      ∧ moving.engines.get 0 = some ⟨0, 63, 0, 1, 20, 10, .settling, 10, []⟩
      ∧ (lastFrame 0).engines.get 0 = some ⟨0, 63, 0, 1, 20, 0, .draining, 20, []⟩
      ∧ windowOpen adopting 0 = true ∧ (adopting.pools.get 0).enabled = true ∧ isDark adopting 0 = false :=
  ⟨binLaws_of_check (by decide +kernel), by decide +kernel⟩

theorem witness_TheEngineArbiterGrantsAPlansHead :
    paired.engines.get 0 = none ∧ (∀ e' : EngineIx, e' < 0 → paired.engines.get e' ≠ none)
      ∧ (0 : PoolIx) = paired.arbiter + 1 + 0
      ∧ (paired.pools.get 0).enabled = true ∧ (paired.pools.get 0).plan ≠ [] ∧ (paired.pools.get 0).rampTimer = none
      ∧ activeMoves paired 0 < (paired.pools.get 0).width
      ∧ ((paired.pools.get 0).plan.head?.map PlanEntry.bin) = some 63
      ∧ ((paired.pools.get 0).bins.get 63).inflight = 0 ∧ 0 < (paired.pools.get 0).settleTime
      ∧ (∀ q, (State.reset.pools.get q).enabled = false) := by decide +kernel

/-- A rotation cycle of slot 1, in a state of the port and the bus. -/
def cycling (f : ScannerRecord → ScannerRecord) (s : State) : State :=
  s.updScanner fun c => f { c with cycle := some ⟨0, false, .scan, 50, true⟩ }

/-- R155, R161: a cycle keeps the mode and divisor it began with when SET_SCAN changes both, and the bus is IDLE after it. -/
theorem test_a_cycle_keeps_what_it_began_with :
    let c := .setScan 1 (some 2) (some 250) none none none none
    let t := run c (ask c (run .powerOn State.reset))
    t.scanner.cycle = some ⟨0, false, .scan, 50, true⟩ ∧ t.scanner.mode = .off ∧ t.scanner.divisor = 250
      ∧ (run (.readCycleEnd false 0 0) t).scanner.cycle = none := by decide +kernel

theorem witness_ReadCyclesEndWithASampleAndAChoice :
    (cycling id State.reset).scanner.cycle = some ⟨0, false, .scan, 50, true⟩
      ∧ (cycling id State.reset).scanner.waitingRead = none ∧ (cycling id State.reset).scanner.mode = .scan
      ∧ (let c := (cycling id State.reset).scanner
        c.firstAddress ≤ 1 ∧ (1 : SlotIx) ≤ c.lastAddress ∧ (0 : SlotIx) < 1
          ∧ ∀ a' : SlotIx, c.firstAddress ≤ a' → 0 < a' → 1 ≤ a')
      ∧ (cycling (fun c => { c with lastAddress := 0 }) State.reset).scanner.lastAddress ≤ 0
      ∧ (cycling (fun c => { c with mode := .single }) State.reset).scanner.mode ≠ .scan
      ∧ (cycling (fun c => { c with pendingRead := some ⟨3, 1, none⟩ }) State.reset).scanner.waitingRead = some 3
      ∧ ((port1 (fun r => { r with noResponse := 7 }) State.reset).ports.get 0).noResponse = 7
      ∧ (State.reset.ports.get 0).noResponse < 7
      ∧ (let c := (cycling (fun c =>
          { c with cycle := some ⟨0, true, .scan, 50, true⟩, pendingRead := some ⟨0, 1, none⟩ }) State.reset).scanner
        c.cycle = some ⟨0, true, .scan, 50, true⟩ ∧ c.pendingRead = some ⟨0, 1, none⟩
          ∧ c.mode = .scan) := by decide +kernel

/-- A port whose accepted values are given, under debounce 1. -/
def portOf (presence power handle : Bool) (st : SlotState) : State :=
  cycling (fun c => { c with debounce := 1 })
    (port1 (fun r => { r with presence := ⟨presence, none⟩, power := ⟨power, none⟩, handle := ⟨handle, none⟩ })
      (slotIn st))

/-- The values a status word would have accepted on a port under debounce 1. -/
def acceptedBy (s : State) (word : Byte) : Bool × Bool × Bool :=
  let q := s.ports.get 0
  ((q.presence.judge 1 (word.getLsbD 7)).accepted, (q.power.judge 1 (word.getLsbD 6)).accepted,
    (q.handle.judge 1 (word.getLsbD 5)).accepted)

theorem witness_AcceptedChangesMoveTheSlot :
    BinLaws (cycling id served) ∧ (portOf false false true .empty).scanner.cycle = some ⟨0, false, .scan, 50, true⟩
      ∧ acceptedBy (portOf true true true .standby) 0xE0 = (true, true, true)
      ∧ acceptedBy (portOf false false true .empty) 0xC0 = (true, true, false)
      ∧ acceptedBy (portOf true true true .inService) 0x60 = (false, true, true)
      ∧ acceptedBy (portOf true true true .inService) 0xA0 = (true, false, true)
      ∧ acceptedBy (portOf true true true .inService) 0xC0 = (true, true, false)
      ∧ acceptedBy (portOf true true false .drained) 0xE0 = (true, true, true)
      ∧ ((portOf true true false .drained).slots.get 0).expectedClass = 0
      ∧ ((slot1 (fun r => { r with policy := 2 }) (portOf true true true .inService)).slots.get 0).autoRetire = true
      ∧ (let s := slot1 (fun r => { r with policy := 2 }) served
        isLastMember s 0 = true ∧ (s.slots.get 0).autoRetire = true ∧ (s.slots.get 0).state.eligible = true
          ∧ isLastMember moving 0 = false) :=
  ⟨binLaws_of_check (by decide +kernel), by decide +kernel⟩

theorem witness_SignalsAreDebounced :
    true ≠ (⟨false, none⟩ : Signal Bool).accepted
      ∧ readTimes 3 true 2 ⟨false, none⟩ = ⟨false, some (true, 2)⟩
      ∧ readTimes 3 true 3 ⟨false, none⟩ = ⟨true, none⟩ ∧ readTimes 1 true 1 ⟨false, none⟩ = ⟨true, none⟩ := by
  decide

theorem witness_ScannerSettingsAndRestart :
    Heads (.setScan 1 (some 2) (some 250) (some 0) (some 12) (some 12) (some 7))
        (ask (.setScan 1 (some 2) (some 250) (some 0) (some 12) (some 12) (some 7)) State.reset)
      ∧ Heads (.setScan 1 (some 3) none none none none none)
        (ask (.setScan 1 (some 3) none none none none none) State.reset)
      ∧ Heads (.setScan 1 none none none (some 2) (some 1) none)
        (ask (.setScan 1 none none none (some 2) (some 1) none) State.reset)
      ∧ Heads (.scanRestart 1) (ask (.scanRestart 1) State.reset)
      ∧ State.reset.scanner.waitingRead = none ∧ State.reset.scanner.mode = .scan
      ∧ (State.reset.updScanner fun c => { c with mode := .off }).scanner.mode ≠ .scan
      ∧ (State.reset.updScanner fun c => { c with pendingRead := some ⟨3, 1, none⟩ }).scanner.waitingRead = some 3
      ∧ (let s := ask (.setScan 1 (some 0) none none none none none)
          (State.reset.updScanner fun c => { c with mode := .single, pointer := some 11 })
        Heads (.setScan 1 (some 0) none none none none none) s ∧ s.scanner.cycle = none ∧ s.scanner.mode ≠ .scan
          ∧ s.scanner.waitingRead = none ∧ s.scanner.pointer = some 11) := by
  decide +kernel

theorem witness_SingleReadsWaitForTheirCycle :
    Heads (.scanRead 9 12) (ask (.scanRead 9 12) State.reset) ∧ (12 : Byte).toNat = (11 : SlotIx).val + 1
      ∧ State.reset.scanner.mode ≠ .off ∧ State.reset.scanner.pendingRead = none ∧ State.reset.scanner.cycle = none
      ∧ (run .powerOn State.reset).scanner.cycle ≠ none
      ∧ (let s := State.reset.updScanner fun c =>
          { c with cycle := some ⟨3, true, .scan, 50, true⟩, pendingRead := some ⟨3, 9, none⟩ }
        s.scanner.cycle = some ⟨3, true, .scan, 50, true⟩ ∧ s.scanner.pendingRead = some ⟨3, 9, none⟩
          ∧ s.agent.noticesEnabled = false ∧ s.agent.transmit.length < 16
          ∧ 16 ≤ (transmitFull s).agent.transmit.length)
      ∧ (State.reset.updScanner fun c =>
          { c with pendingRead := some ⟨3, 9, some ⟨none, PortRecord.powerOn⟩⟩ }).scanner.pendingRead
        = some ⟨3, 9, some ⟨none, PortRecord.powerOn⟩⟩
      ∧ (let s := ask (.scanRead 9 12) (State.reset.updScanner fun c => { c with mode := .off })
        Heads (.scanRead 9 12) s ∧ s.scanner.mode = .off)
      ∧ (let s := ask (.scanRead 9 12) (State.reset.updScanner fun c => { c with pendingRead := some ⟨3, 9, none⟩ })
        Heads (.scanRead 9 12) s ∧ s.scanner.mode ≠ .off ∧ s.scanner.pendingRead ≠ none) := by decide +kernel

theorem witness_MonitorsSaturateAlarmAndClear :
    (let m := (monitor1 (fun m => { m with phase := .counting, runningCount := 255 }) State.reset).monitors.get 0;
      m.phase = .counting ∧ m.mode = .poll ∧ m.runningCount = 255)
      ∧ (let s := monitor1 (fun m => { m with phase := .counting, mode := .alarm, runningCount := 200 }) served
        let m := s.monitors.get 0
        m.phase = .counting ∧ m.mode = .alarm ∧ m.runningCount = m.alarmLimit ∧ isLastMember s 0 = true
          ∧ (s.slots.get 0).state.holding = true ∧ (s.slots.get 0).state.eligible = true
          ∧ (s.slots.get 0).alarmEvacuate = false ∧ (s.slots.get 0).alarmRetire = false
          ∧ ((slot1 (fun r => { r with policy := 16 }) s).slots.get 0).alarmEvacuate = true
          ∧ ((slot1 (fun r => { r with policy := 8 }) s).slots.get 0).alarmRetire = true)
      ∧ Heads (.clearAlarm 1 1) (ask (.clearAlarm 1 1) State.reset) ∧ (1 : Byte).toNat = (0 : SlotIx).val + 1
      ∧ ((monitor1 (fun m => { m with phase := .frozen }) State.reset).monitors.get 0).phase = .frozen
      ∧ (State.reset.monitors.get 0).phase = .idle := by decide +kernel

theorem witness_RunningCountsDivideTheMonitorTick :
    (let m : MonitorRecord := { MonitorRecord.powerOn with phase := .counting, divisor := 2 };
      m.phase = .counting ∧ 1 ≤ m.divisor ∧ m.runningCount = 0 ∧ m.tickRemainder = 0
        ∧ (ticksOf 5 m).runningCount = 2 ∧ (ticksOf 5 m).tickRemainder = 1)
      ∧ MonitorRecord.powerOn.phase ≠ .counting := by decide

/-- Slot 1 in phase CONFIRMING, its acknowledgment timer at its last tick, before the 25 ms tick. -/
def acknowledging : State :=
  { slot1 (fun r => { r with state := .retiring .confirming, ackTimer := some 1 }) State.reset with micros := 24999 }

theorem witness_RunningCountsDivideTheMonitorTick_idle :
    (LinkLaws upSlot ∧ upSlot.pending = [] ∧ QuietBut none upSlot)
      ∧ (LinkLaws acknowledging ∧ Runs acknowledging (.acknowledgmentExpiry 0) 1000 1
        ∧ QuietBut (some (.acknowledgmentExpiry 0)) acknowledging
        ∧ acknowledging.pending = [] ∧ 0 < acknowledging.agent.ackTimeout ∧ TickFalls 1000 acknowledging)
      ∧ (LinkLaws (countingAt 254 3) ∧ TickFalls 10 (countingAt 254 3)
        ∧ Runs (countingAt 254 3) (.saturationLatch 0) 10 1
        ∧ QuietBut (some (.saturationLatch 0)) (countingAt 254 3)) :=
  ⟨⟨linkLaws_of_check (by decide +kernel), by decide +kernel, quiet_of_check (by decide +kernel)⟩,
    ⟨linkLaws_of_check (by decide +kernel), .acknowledgment 0 1 (by decide +kernel),
      quiet_of_check (by decide +kernel), by decide +kernel⟩,
    ⟨linkLaws_of_check (by decide +kernel), by decide +kernel,
      by
        have h := Runs.saturation (s := countingAt 254 3) 0 (by decide +kernel) (by decide +kernel) (by decide +kernel)
        have e : (255 - ((countingAt 254 3).monitors.get 0).runningCount) * ((countingAt 254 3).monitors.get 0).divisor
            - ((countingAt 254 3).monitors.get 0).tickRemainder = 1 := by decide +kernel
        rwa [e] at h,
      quiet_of_check (by decide +kernel)⟩⟩

theorem witness_LampsStepThroughTheirPatterns :
    (∀ k, (defaultPatterns.get k).levels ≠ [] ∧ (defaultPatterns.get k).levels.length ∈ [2, 4, 8, 16]
      ∧ (defaultPatterns.get k).width ∈ [1, 2, 4, 8]) := by decide +kernel

theorem witness_LampRequestsWriteTheTables :
    Heads (.setLampPattern 1 7 (some 16) (some 200) (some (16, 0xFFFF)))
        (ask (.setLampPattern 1 7 (some 16) (some 200) (some (16, 0xFFFF))) State.reset)
      ∧ Heads (.setLampPattern 1 0 (some 2) (some 25) (some (3, 1)))
        (ask (.setLampPattern 1 0 (some 2) (some 25) (some (3, 1))) State.reset)
      ∧ Heads (.setLampPattern 1 8 (some 2) (some 25) (some (2, 1)))
        (ask (.setLampPattern 1 8 (some 2) (some 25) (some (2, 1))) State.reset)
      ∧ Heads (.setLampPattern 1 8 none none none) (ask (.setLampPattern 1 8 none none none) State.reset)
      ∧ Heads (.setLampPattern 1 7 none none none) (ask (.setLampPattern 1 7 none none none) State.reset)
      ∧ (State.reset.lamps.patterns.get 7).levels.length ≤ 16
      ∧ Heads (.setLampPattern 1 0 (some 2) none none) (ask (.setLampPattern 1 0 (some 2) none none) State.reset)
      ∧ Heads (.setLampMap 1 [(9, 7)]) (ask (.setLampMap 1 [(9, 7)]) State.reset)
      ∧ Heads (.setLampMap 1 [(10, 0)]) (ask (.setLampMap 1 [(10, 0)]) State.reset)
      ∧ Heads (.setLampMap 1 [(9, 7), (9, 7)]) (ask (.setLampMap 1 [(9, 7), (9, 7)]) State.reset)
      ∧ Heads (.lampOverride 1 12 7) (ask (.lampOverride 1 12 7) State.reset)
      ∧ Heads (.lampOverride 1 12 8) (ask (.lampOverride 1 12 8) State.reset)
      ∧ Heads (.lampOverride 1 12 0xFF) (ask (.lampOverride 1 12 0xFF) State.reset) := by decide +kernel

theorem witness_ReadsReportAndChangeNothing :
    Heads (.identify 1) (ask (.identify 1) served) ∧ Heads (.readSlot 1 12) (ask (.readSlot 1 12) served)
      ∧ Heads (.readPool 1 3) (ask (.readPool 1 3) served) ∧ Heads (.readBins 1 3) (ask (.readBins 1 3) served)
      ∧ Heads (.readMoves 1 0) (ask (.readMoves 1 0) served)
      ∧ Heads (.readAttention 1) (ask (.readAttention 1) served) ∧ Heads (.readCause 1) (ask (.readCause 1) served)
      ∧ Heads (.readCounters 1) (ask (.readCounters 1) served)
      ∧ (12 : Byte).toNat = (11 : SlotIx).val + 1 ∧ (3 : Byte).toNat = (3 : PoolIx).val := by decide +kernel

theorem witness_RefusedRequestsChangeOnlyTheQueues :
    Heads (.unknownRequest ⟨7, some 0x20, [], false⟩) (ask (.unknownRequest ⟨7, some 0x20, [], false⟩) State.reset)
      ∧ Heads (.readSlot 1 0) (ask (.readSlot 1 0) State.reset) ∧ Heads (.fence 1 13) (ask (.fence 1 13) State.reset)
      ∧ Heads (.readPool 1 4) (ask (.readPool 1 4) State.reset)
      ∧ Heads (.admitSlot 1 12 4 1) (ask (.admitSlot 1 12 4 1) State.reset)
      ∧ (encodeRequest (.identify 1)).isSome = true ∧ ¬ Heads (.identify 1) State.reset
      ∧ ¬ Heads (.identify 1) (transmitFull (ask (.identify 1) State.reset)) := by decide +kernel

theorem witness_SettingsAreTakenClamped :
    Heads (.setPolicy 1 1 0 0x1F 0 (some 3) (some 15) (some 255) (some 2) (some 0))
        (ask (.setPolicy 1 1 0 0x1F 0 (some 3) (some 15) (some 255) (some 2) (some 0)) State.reset)
      ∧ Heads (.setPolicy 1 1 0 0 0 (some 4) none none none none)
        (ask (.setPolicy 1 1 0 0 0 (some 4) none none none none) State.reset)
      ∧ Heads (.setPolicy 1 1 0 0 0 none (some 16) none none none)
        (ask (.setPolicy 1 1 0 0 0 none (some 16) none none none) State.reset)
      ∧ Heads (.setPolicy 1 1 0 0 0 (some 0xFF) none none none none)
        (ask (.setPolicy 1 1 0 0 0 (some 0xFF) none none none none) served)
      ∧ (served.slots.get 0).state.holding = true ∧ (served.slots.get 0).pool = some 0
      ∧ Heads (.poolSet 1 0 (some 1) (some 0) (some 255) (some 0) (some 9) (some 61))
        (ask (.poolSet 1 0 (some 1) (some 0) (some 255) (some 0) (some 9) (some 61)) State.reset)
      ∧ Heads (.poolSet 1 0 (some 1) none none none none none)
        (ask (.poolSet 1 0 (some 1) none none none none none) served)
      ∧ Heads (.setDevice 1 (some 0) (some 9) (some 2551) (some 8) (some 1))
        (ask (.setDevice 1 (some 0) (some 9) (some 2551) (some 8) (some 1)) State.reset)
      ∧ Heads (.setDevice 1 none none none none (some 2)) (ask (.setDevice 1 none none none none (some 2)) State.reset)
      ∧ Heads (.setBeacon 1 1 (some 1) (some 8) (some 0) (some 255) (some 0))
        (ask (.setBeacon 1 1 (some 1) (some 8) (some 0) (some 255) (some 0)) State.reset)
      ∧ Heads (.setBeacon 1 1 (some 2) none none none none)
        (ask (.setBeacon 1 1 (some 2) none none none none) State.reset) := by decide +kernel

/-- After a pin reset the pool that slot 1 served is enabled, and slot 1 waits in STANDBY: every bin is its STALE bin, the
window open. -/
def returning : State := done (.poolEnable 1 0) ((run .pinReset served).updSlot 0 (fun r => { r with state := .standby }))

/-- The last STALE bins go home and the window closes (R48, R54). -/
theorem test_last_adoption_closes_the_window :
    let t := done (.admitSlot 1 1 0 5) returning
    windowOpen returning 0 = true ∧ windowOpen t 0 = false ∧ slotHeld t 0 = 64 ∧ (t.slots.get 0).state = .inService := by
  decide +kernel

/-- R45, R46's worked case: the 64 UNOWNED bins of slots 3 and 7 at weight 5 go to them in order, each counted. -/
theorem test_immediate_assignment_fills_in_order :
    let s := recompute 0 ((thirdMember.updSlot 8 fun r => { r with state := .standby }).updPool 0 fun r =>
      { r with bins := Table.fill 64 ⟨.unowned, 0, none⟩ })
    ((s.pools.get 0).bins.get 31).owner = .owned 2 ∧ ((s.pools.get 0).bins.get 32).owner = .owned 6
      ∧ slotHeld s 2 = 32 ∧ slotHeld s 6 = 32 ∧ s.poolCount 0 .immediateAssigns = 64 := by decide +kernel

theorem witness_WeightsAndAdmissions :
    BinLaws (ask (.admitSlot 1 2 0 15) (withSecond .standby served)) ∧ BinLaws (ask (.setWeight 1 1 16) served)
      ∧ BinLaws (ask (.admitSlot 1 1 0 5) returning)
      ∧ (let s := ask (.admitSlot 1 1 0 5) returning
        Heads (.admitSlot 1 1 0 5) s ∧ (s.slots.get 0).state = .standby ∧ windowOpen s 0 = true
          ∧ ((s.pools.get 0).bins.get 63).owner = .stale 0)
      ∧ (let s := ask (.setWeight 1 1 16) served;
      Heads (.setWeight 1 1 16) s ∧ isEligible s 0 0 = true ∧ (s.pools.get 0).enabled = true)
      ∧ Heads (.setWeight 1 1 0) (ask (.setWeight 1 1 0) State.reset)
      ∧ (State.reset.slots.get 0).state.eligible = false
      ∧ (let s := withSecond .standby served
        Heads (.admitSlot 1 2 0 15) (ask (.admitSlot 1 2 0 15) s) ∧ (s.slots.get 1).state = .standby
          ∧ (s.pools.get 1).enabled = false ∧ (s.links.get 1).state = .up ∧ (s.links.get 1).lost = false) :=
  ⟨binLaws_of_check (by decide +kernel), binLaws_of_check (by decide +kernel), binLaws_of_check (by decide +kernel),
    by decide +kernel⟩

/-- `moving` with a frame held for its moving bin. -/
def movingHeld : State :=
  moving.setEngine 0 ((moving.engines.get 0).map fun m => { m with hold := [[7]] })

/-- The destination of a move retires: the move aborts, its held frame goes to the source (R74), and the slot, left with
nothing, is told by RETIRE_NOTICE (R18). -/
theorem test_retirement_aborts_the_moves_toward_the_slot :
    let t := done (.retire 1 2 0) movingHeld
    t.engines.get 0 = none ∧ t.poolCount 0 .abortedMoves = 1 ∧ t.egress.get 0 = [⟨[7], some (0, 63)⟩]
      ∧ ((t.pools.get 0).bins.get 63) = ⟨.owned 0, 1, none⟩ ∧ (t.slots.get 1).state = .retiring .confirming
      ∧ .retireNotice ∈ (t.links.get 1).control := by decide +kernel

theorem witness_RetirementKeepsTheLastMember :
    BinLaws (ask (.retire 1 1 1) served) ∧ BinLaws (ask (.retire 1 1 0) moving)
      ∧ BinLaws (ask (.retire 1 2 0) movingHeld)
      ∧ (let s := ask (.retire 1 2 0) movingHeld
        Heads (.retire 1 2 0) s ∧ (s.slots.get 1).state.eligible = true ∧ isLastMember s 1 = false
          ∧ (s.slots.get 1).pool = some 0 ∧ (s.engines.get 0).any (fun m => m.destination = 1 ∧ m.source = 0) = true
          ∧ (s.links.get 1).state = .up ∧ (s.links.get 1).lost = false)
      ∧ Heads (.retire 1 1 1) (ask (.retire 1 1 1) served) ∧ Heads (.retire 1 1 0) (ask (.retire 1 1 0) moving)
      ∧ isLastMember (ask (.retire 1 1 1) served) 0 = true ∧ isLastMember (ask (.retire 1 1 0) moving) 0 = false
      ∧ ((ask (.retire 1 1 1) served).slots.get 0).state.eligible = true
      ∧ ((ask (.retire 1 1 0) moving).slots.get 0).state.eligible = true
      ∧ ((slotIn (.retiring .moving)).slots.get 0).state = .retiring .moving :=
  ⟨binLaws_of_check (by decide +kernel), binLaws_of_check (by decide +kernel), binLaws_of_check (by decide +kernel),
    by decide +kernel⟩

theorem witness_FenceAndResetEmptyTheSlot :
    (let s := ask (.fence 1 1) moving;
      BinLaws s ∧ Heads (.fence 1 1) s ∧ (s.slots.get 0).state ≠ .empty ∧ (s.slots.get 0).state ≠ .fenced
        ∧ (s.links.get 0).state = .up)
      ∧ (let s := ask (.slotReset 1 1 1) (port1 (fun r => { r with power := ⟨true, none⟩ }) moving)
        BinLaws s ∧ Heads (.slotReset 1 1 1) s ∧ (s.slots.get 0).state ≠ .empty
          ∧ (s.ports.get 0).power.accepted = true ∧ 0 < slotHeld s 0 ∧ (1 : Byte) ≠ 0)
      ∧ (let s := ask (.fence 1 2) movingHeld
        BinLaws s ∧ Heads (.fence 1 2) s ∧ (s.slots.get 1).state = .admitting
          ∧ (s.engines.get 0).any (fun m => m.destination = 1 ∧ m.source = 0) = true) :=
  ⟨⟨binLaws_of_check (by decide +kernel), by decide +kernel⟩,
    ⟨binLaws_of_check (by decide +kernel), by decide +kernel⟩,
    ⟨binLaws_of_check (by decide +kernel), by decide +kernel⟩⟩

theorem witness_UnfenceAndRequalifyBringTheSlotBack :
    let powered (st : SlotState) (l : LinkState) : State :=
      link1 (fun r => { r with state := l }) (port1 (fun r => { r with power := ⟨true, none⟩ }) (slotIn st))
    Heads (.unfence 1 1) (ask (.unfence 1 1) (powered .fenced .parked))
      ∧ ((powered .fenced .parked).slots.get 0).state = .fenced
      ∧ ((powered .fenced .parked).ports.get 0).power.accepted = true
      ∧ Heads (.requalify 1 1) (ask (.requalify 1 1) (powered .faulted .dark))
      ∧ ((powered .faulted .dark).slots.get 0).state = .faulted
      ∧ ((slotIn .fenced).ports.get 0).power.accepted = false
      ∧ Heads (.requalify 1 1) (ask (.requalify 1 1) (powered .drained .parked))
      ∧ ((powered .drained .parked).slots.get 0).state = .drained
      ∧ ((powered .drained .parked).links.get 0).state = .parked
      ∧ ((powered .drained .parked).slots.get 0).expectedClass = 0
      ∧ ((slot1 (fun r => { r with expectedClass := 1 }) (powered .drained .parked)).slots.get 0).expectedClass
        ≠ ((powered .drained .parked).ports.get 0).bladeClass.accepted.toNat := by decide +kernel

theorem witness_PoolsAreEnabledAndDisabled :
    BinLaws (ask (.poolEnable 1 0) (run .pinReset served)) ∧ BinLaws (ask (.poolEnable 1 3) State.reset)
      ∧ (let s := ask (.poolEnable 1 0) (run .pinReset served)
        Heads (.poolEnable 1 0) s ∧ (s.pools.get 0).enabled = false
          ∧ ((s.pools.get 0).bins.get 63).owner = .stale 0 ∧ (s.pools.get 0).adoptionWindow ≠ 0)
      ∧ (let s := ask (.poolEnable 1 3) State.reset
        Heads (.poolEnable 1 3) s ∧ (s.pools.get 3).enabled = false ∧ (s.pools.get 3).adoptionTimer = none
          ∧ (∀ b i, ((s.pools.get 3).bins.get b).owner ≠ .stale i))
      ∧ Heads (.poolDisable 1 0) (ask (.poolDisable 1 0) served) ∧ isHolding served 0 0 = true
      ∧ (let s := done (.poolEnable 1 3) State.reset
        (∀ i, isHolding s 3 i = false) ∧ (s.pools.get 3).enabled = true) :=
  ⟨binLaws_of_check (by decide +kernel), binLaws_of_check (by decide +kernel), by decide +kernel⟩

theorem witness_ClearsClearWhatTheyName :
    Heads (.clearAttention 1 12 0x07FF) (ask (.clearAttention 1 12 0x07FF) State.reset)
      ∧ Heads (.clearAttention 1 12 0x0800) (ask (.clearAttention 1 12 0x0800) State.reset)
      ∧ Heads (.clearAttention 1 0 3) (ask (.clearAttention 1 0 3) State.reset)
      ∧ Heads (.clearAttention 1 0 4) (ask (.clearAttention 1 0 4) State.reset)
      ∧ Heads (.clearCounters 1) (ask (.clearCounters 1) State.reset) := by decide +kernel

theorem witness_RestartEmptiesTheTraffic :
    Heads (.restart 1) (ask (.restart 1) (sending (some (0, 0)) moving))
      ∧ ((sending (some (0, 0)) moving).links.get 0).tx = some .data
      ∧ (let s := ask (.restart 1) ((done (.setDevice 1 none none none none (some 1)) served).updUpstream 0 fun u =>
          { u with pause := some 250 })
        Heads (.restart 1) s ∧ (s.upstream.get 0).pause ≠ none ∧ (s.slots.get 0).state.accepting = true
          ∧ (s.links.get 0).state = .up ∧ (s.links.get 0).lost = false
          ∧ s.agent.noticesEnabled = true ∧ s.agent.deviceFlags.getLsbD 0 = false) := by decide +kernel

theorem witness_StepRunsTheFrontCommand :
    ({ State.reset with pending := [.lampBaseStep, .powerOn] } : State).pending = .lampBaseStep :: [.powerOn]
      ∧ State.reset.pending = [] := by decide

theorem witness_EveryRequestIsReadAsItWasWritten :
    wellFormed (.setLampMap 1 (List.replicate 10 (0, 0))) = true
      ∧ (encodeRequest (.setLampMap 1 (List.replicate 10 (0, 0)))).isSome = true
      ∧ wellFormed (.unknownRequest ⟨0, none, [], false⟩) = true := by decide

theorem witness_NoticesReportNewFlagsAndChanges :
    flagSet served 0 .stateChanged = true ∧ flagSet served 0 .fault = false
      ∧ (served.slots.get 0).state ≠ .faulted ∧ served.agent.noticesEnabled = false
      ∧ (let s := done (.setDevice 1 none none none none (some 1)) State.reset
        s.agent.noticesEnabled = true ∧ s.agent.transmit.length < 16
          ∧ s.agent.deviceFlags.getLsbD (deviceBit .restarted) = false
          ∧ (run .pinReset s).agent.deviceFlags.getLsbD (deviceBit .pinReset) = true ∧ 16 ≤ (transmitFull s).agent.transmit.length) := by decide +kernel

theorem witness_StepsKeepTheBinLaws : BinLaws moving ∧ ∃ t, step moving = .next t := ⟨moving_laws, step_next moving⟩

/-- The law of in-flight counts, as a check on one state. -/
theorem witness_StepsKeepTheInflightLaw : InflightLaw moving := by
  have h : ∀ p b, ((moving.pools.get p).bins.get b).inflight = steeredFrames moving p b := by decide +kernel
  exact h

theorem witness_StepsStayWithinBounds_links : LinkLaws upSlot ∧ ∃ t, step upSlot = .next t :=
  ⟨linkLaws_of_check (by decide +kernel), step_next upSlot⟩

theorem witness_StepsStayWithinBounds : WithinBounds moving := by
  have sizes : cellsInUse moving ≤ 2048 ∧ (∀ i, (moving.egress.get i).length ≤ 256 ∧ (moving.slots.get i).quota ≤ 128
      ∧ (moving.upstream.get i).queue.length ≤ 128)
      ∧ moving.agent.requests.length ≤ 8 ∧ moving.agent.transmit.length ≤ 16 := by decide +kernel
  have holds : ∀ e, (moving.engines.get e).all fun m => decide (m.hold.length ≤ 32) := by decide +kernel
  obtain ⟨cells, queues, requests, transmit⟩ := sizes
  refine ⟨cells, fun i => (queues i).1, fun i => (queues i).2.1, fun i => (queues i).2.2, fun e m hm => ?_, requests,
    transmit⟩
  simpa [hm] using holds e

theorem witness_CountersFlagsAndEmptySlotsStand :
    exec .lampBaseStep moving = .next (run .lampBaseStep moving)
      ∧ flagSet moving 0 .stateChanged = true ∧ (moving.slots.get 11).state = .empty :=
  ⟨rfl, by decide +kernel, by decide +kernel⟩

end Sys2Proof.Tests
end

section
/-! SUPPORT. Largest remainder (R42): the order of remainders and its ranks, the bins left after the whole parts, and the
targets in these terms. O11 is settled here. -/

namespace Sys2Proof.Machine

/-- A total over the slots, as a sum over a finite type. -/
theorem totalWeight_eq_sum (w : SlotIx → Nat) : totalWeight w = ∑ i, w i := (Fin.sum_univ_def w).symm

/-- A count over the slots, as the size of a finite set. -/
theorem length_filter_slots (p : SlotIx → Prop) [DecidablePred p] :
    ((List.finRange 12).filter p).length = (Finset.univ.filter p).card := by
  rw [← List.toFinset_card_of_nodup ((List.nodup_finRange 12).filter _), List.toFinset_filter, List.toFinset_finRange]
  simp

variable {w : SlotIx → Nat} {i j k : SlotIx}

/-! The order of remainders is a strict total order, so its ranks are 0 to 11, each once. -/

/-- Slot `j` comes before slot `i` in the order in which R42 gives out the bins left. -/
abbrev ComesBefore (w : SlotIx → Nat) (j i : SlotIx) : Prop :=
  remainderOf w i < remainderOf w j ∨ remainderOf w j = remainderOf w i ∧ j < i

theorem remainderRank_eq_card (w : SlotIx → Nat) (i : SlotIx) :
    remainderRank w i = (Finset.univ.filter (ComesBefore w · i)).card :=
  length_filter_slots (ComesBefore w · i)

theorem not_comesBefore_self : ¬ ComesBefore w i i := by simp

theorem ComesBefore.trans (hij : ComesBefore w i j) (hjk : ComesBefore w j k) : ComesBefore w i k := by
  simp only [ComesBefore, Fin.lt_def] at *
  omega

theorem comesBefore_or_comesBefore_of_ne (hne : i ≠ j) : ComesBefore w i j ∨ ComesBefore w j i := by
  have hval : i.val ≠ j.val := Fin.val_ne_of_ne hne
  simp only [ComesBefore, Fin.lt_def]
  omega

theorem remainderRank_lt_of_comesBefore (h : ComesBefore w j i) : remainderRank w j < remainderRank w i := by
  rw [remainderRank_eq_card, remainderRank_eq_card]
  apply Finset.card_lt_card
  refine Finset.ssubset_iff_of_subset (fun k hk => ?_) |>.mpr ⟨j, by simpa using h, by simp [not_comesBefore_self]⟩
  have hkj : ComesBefore w k j := by simpa using hk
  simpa using hkj.trans h

theorem remainderRank_injective (w : SlotIx → Nat) : Function.Injective (remainderRank w) := by
  intro i j hij
  by_contra hne
  obtain h | h := comesBefore_or_comesBefore_of_ne (w := w) hne
  · exact (remainderRank_lt_of_comesBefore h).ne hij
  · exact (remainderRank_lt_of_comesBefore h).ne' hij

theorem comesBefore_of_remainderRank_lt (h : remainderRank w j < remainderRank w i) : ComesBefore w j i := by
  have hne : j ≠ i := fun heq => h.ne (congrArg _ heq)
  exact (comesBefore_or_comesBefore_of_ne hne).resolve_right fun hij =>
    h.asymm (remainderRank_lt_of_comesBefore hij)

theorem remainderRank_lt_twelve (w : SlotIx → Nat) (i : SlotIx) : remainderRank w i < 12 := by
  rw [remainderRank_eq_card]
  exact Finset.card_lt_univ_of_notMem (x := i) (by simp [not_comesBefore_self])

theorem image_remainderRank (w : SlotIx → Nat) : Finset.univ.image (remainderRank w) = Finset.range 12 := by
  apply Finset.eq_of_subset_of_card_le
  · intro n hn
    obtain ⟨i, -, rfl⟩ := Finset.mem_image.mp hn
    exact Finset.mem_range.mpr (remainderRank_lt_twelve w i)
  · simp [Finset.card_image_of_injective _ (remainderRank_injective w)]

theorem card_remainderRank_lt {n : Nat} (hn : n ≤ 12) :
    (Finset.univ.filter (remainderRank w · < n)).card = n := by
  calc (Finset.univ.filter (remainderRank w · < n)).card
      = ((Finset.univ.filter (remainderRank w · < n)).image (remainderRank w)).card :=
        (Finset.card_image_of_injective _ (remainderRank_injective w)).symm
    _ = ((Finset.range 12).filter (· < n)).card := by rw [← image_remainderRank w, Finset.filter_image]
    _ = (Finset.range n).card := by
        congr 1
        ext m
        simp only [Finset.mem_filter, Finset.mem_range]
        omega
    _ = n := Finset.card_range n

/-! The remainders add up to W for each bin left, and each is below W: so the bins left are no more than the slots
with a remainder, and only such slots get one. -/

theorem shareOf_mul_add_remainderOf (w : SlotIx → Nat) (i : SlotIx) :
    shareOf w i * totalWeight w + remainderOf w i = 64 * w i :=
  Nat.div_add_mod' _ _

theorem totalWeight_shareOf_mul_add (w : SlotIx → Nat) :
    totalWeight (shareOf w) * totalWeight w + totalWeight (remainderOf w) = 64 * totalWeight w := by
  have h := Finset.sum_congr rfl fun i (_ : i ∈ Finset.univ) => shareOf_mul_add_remainderOf w i
  rwa [Finset.sum_add_distrib, ← Finset.sum_mul, ← Finset.mul_sum, ← totalWeight_eq_sum, ← totalWeight_eq_sum,
    ← totalWeight_eq_sum] at h

theorem binsLeft_add_totalWeight_shareOf (hW : 0 < totalWeight w) : binsLeft w + totalWeight (shareOf w) = 64 := by
  have hsum := totalWeight_shareOf_mul_add w
  have hle : totalWeight (shareOf w) ≤ 64 := Nat.le_of_mul_le_mul_right (by omega) hW
  exact Nat.sub_add_cancel hle

theorem binsLeft_mul_totalWeight (hW : 0 < totalWeight w) :
    binsLeft w * totalWeight w = totalWeight (remainderOf w) := by
  have hsum := totalWeight_shareOf_mul_add w
  rw [← binsLeft_add_totalWeight_shareOf hW, add_mul] at hsum
  omega

theorem remainderOf_lt_totalWeight (hW : 0 < totalWeight w) (i : SlotIx) : remainderOf w i < totalWeight w :=
  Nat.mod_lt _ hW

theorem binsLeft_le_card_remainderOf_pos (hW : 0 < totalWeight w) :
    binsLeft w ≤ (Finset.univ.filter (0 < remainderOf w ·)).card := by
  apply Nat.le_of_mul_le_mul_right _ hW
  calc binsLeft w * totalWeight w
      = ∑ i with 0 < remainderOf w i, remainderOf w i := by
        rw [binsLeft_mul_totalWeight hW, totalWeight_eq_sum, Finset.sum_filter]
        exact Finset.sum_congr rfl fun i _ => by split <;> omega
    _ ≤ (Finset.univ.filter (0 < remainderOf w ·)).card * totalWeight w :=
        Finset.sum_le_card_nsmul _ _ _ fun i _ => (remainderOf_lt_totalWeight hW i).le

theorem binsLeft_le_twelve (hW : 0 < totalWeight w) : binsLeft w ≤ 12 :=
  (binsLeft_le_card_remainderOf_pos hW).trans (Finset.card_le_univ _)

theorem remainderOf_pos_of_remainderRank_lt (hW : 0 < totalWeight w) (h : remainderRank w i < binsLeft w) :
    0 < remainderOf w i := by
  by_contra hzero
  have hsub : Finset.univ.filter (0 < remainderOf w ·) ⊆ Finset.univ.filter (ComesBefore w · i) :=
    Finset.monotone_filter_right _ fun j _ hj => Or.inl (by omega)
  have hrank := Finset.card_le_card hsub
  rw [← remainderRank_eq_card] at hrank
  exact absurd (binsLeft_le_card_remainderOf_pos hW) (by omega)

/-! The target of a slot: its whole part, and one bin more exactly while its rank is below the bins left. -/

theorem shareOf_of_weight_zero (hi : w i = 0) : shareOf w i = 0 := by simp [shareOf, hi]

theorem remainderOf_of_weight_zero (hi : w i = 0) : remainderOf w i = 0 := by simp [remainderOf, hi]

theorem targetOf_of_totalWeight_zero (hW : totalWeight w = 0) : targetOf w i = 0 := if_pos hW

/-- The model's test for weight 0 decides nothing: a slot without weight has no remainder and ranks too late. -/
theorem targetOf_eq (hW : 0 < totalWeight w) (i : SlotIx) :
    targetOf w i = shareOf w i + if remainderRank w i < binsLeft w then 1 else 0 := by
  have hweight : remainderRank w i < binsLeft w → w i ≠ 0 := fun hrank hi =>
    (remainderOf_pos_of_remainderRank_lt hW hrank).ne' (remainderOf_of_weight_zero hi)
  simp only [targetOf, if_neg hW.ne', and_iff_right_of_imp hweight]

theorem targetOf_eq_succ_iff (hW : 0 < totalWeight w) :
    targetOf w i = shareOf w i + 1 ↔ remainderRank w i < binsLeft w := by
  rw [targetOf_eq hW]
  split <;> simp_all

theorem targetOf_eq_shareOf_iff (hW : 0 < totalWeight w) :
    targetOf w i = shareOf w i ↔ binsLeft w ≤ remainderRank w i := by
  rw [targetOf_eq hW, ← not_lt]
  split <;> simp_all

theorem targetOf_eq_or (hW : 0 < totalWeight w) (i : SlotIx) :
    targetOf w i = shareOf w i ∨ targetOf w i = shareOf w i + 1 := by
  rw [targetOf_eq_shareOf_iff hW, targetOf_eq_succ_iff hW]
  exact le_or_gt _ _

theorem targetOf_of_weight_zero (hi : w i = 0) : targetOf w i = 0 := by
  simp [targetOf, hi, shareOf_of_weight_zero hi]

theorem card_targetOf_eq_succ (hW : 0 < totalWeight w) :
    (Finset.univ.filter fun i => targetOf w i = shareOf w i + 1).card = binsLeft w := by
  simp only [targetOf_eq_succ_iff hW]
  exact card_remainderRank_lt (binsLeft_le_twelve hW)

theorem comesBefore_of_targetOf (hW : 0 < totalWeight w) (hi : targetOf w i = shareOf w i + 1)
    (hj : targetOf w j = shareOf w j) : ComesBefore w i j :=
  comesBefore_of_remainderRank_lt <|
    ((targetOf_eq_succ_iff hW).mp hi).trans_le ((targetOf_eq_shareOf_iff hW).mp hj)

theorem totalWeight_targetOf (hW : 0 < totalWeight w) : totalWeight (targetOf w) = 64 := by
  calc totalWeight (targetOf w)
      = totalWeight (shareOf w) + (Finset.univ.filter (remainderRank w · < binsLeft w)).card := by
        simp only [totalWeight_eq_sum, targetOf_eq hW, Finset.sum_add_distrib, Finset.card_filter]
    _ = totalWeight (shareOf w) + binsLeft w := by rw [card_remainderRank_lt (binsLeft_le_twelve hW)]
    _ = 64 := by rw [add_comm, binsLeft_add_totalWeight_shareOf hW]

/-- A target is within 1 of the exact share 64w / W: the bin above a whole part goes to a slot with a remainder. -/
theorem targetOf_within_one (hW : 0 < totalWeight w) (i : SlotIx) :
    targetOf w i * totalWeight w < 64 * w i + totalWeight w
      ∧ 64 * w i < targetOf w i * totalWeight w + totalWeight w := by
  have hexact := shareOf_mul_add_remainderOf w i
  have hlt := remainderOf_lt_totalWeight hW i
  obtain h | h := targetOf_eq_or hW i
  · rw [h]
    omega
  · have hpos := remainderOf_pos_of_remainderRank_lt hW ((targetOf_eq_succ_iff hW).mp h)
    rw [h, add_one_mul]
    omega

/-- Settles O11: the ranks of the remainders are 0 to 11, each once, so those below the bins left are as many as these. -/
theorem targetsApportionSixtyFourBins : Obligations.TargetsApportionSixtyFourBins := by
  intro w W q r
  have hshare : q = shareOf w := rfl
  have hremainder : r = remainderOf w := rfl
  have htotal (v : SlotIx → Nat) : ((List.finRange 12).map v).sum = totalWeight v := rfl
  have hweights : W = totalWeight w := rfl
  rw [hshare, hremainder, hweights, htotal, htotal, length_filter_slots]
  refine ⟨fun hW => ⟨targetOf_eq_or hW, ?_, fun i j hi hj _ => ?_, fun _ => targetOf_of_weight_zero,
    totalWeight_targetOf hW, targetOf_within_one hW⟩, fun hW _ => targetOf_of_totalWeight_zero hW⟩
  · rw [card_targetOf_eq_succ hW, binsLeft_add_totalWeight_shareOf hW]
  · exact (comesBefore_of_targetOf hW hi hj).imp_right (And.imp_left Eq.symm)

end Sys2Proof.Machine
end

section
/-! SUPPORT. The upstream side of the Core Port: the effective quota, an equation per slot state (R106), and the Core
Transmit Arbiter, an equation per choice (R112). O13 and O26 are settled here. -/

namespace Sys2Proof.Machine

variable {s : State} {i : SlotIx}

/-! The effective quota, by the state of the slot. -/

theorem effectiveQuota_of_qualifying
    (h : (s.slots.get i).state = .probing ∨ (s.slots.get i).state = .standby) : effectiveQuota s i = some 4 := by
  obtain h | h := h <;> simp [effectiveQuota, h]

theorem effectiveQuota_of_serving
    (h : (s.slots.get i).state = .inService ∨ ∃ ph, (s.slots.get i).state = .retiring ph) :
    effectiveQuota s i = some (s.slots.get i).quota := by
  obtain h | ⟨ph, h⟩ := h <;> simp [effectiveQuota, h]

theorem effectiveQuota_of_admitting_without_target (h : (s.slots.get i).state = .admitting)
    (htarget : slotTarget s i = 0) : effectiveQuota s i = some (s.slots.get i).quota := by
  simp [effectiveQuota, h, htarget]

theorem effectiveQuota_of_admitting_toward_target (h : (s.slots.get i).state = .admitting)
    (htarget : 0 < slotTarget s i) :
    effectiveQuota s i = some (min (s.slots.get i).quota
      (max 4 ((s.slots.get i).quota * slotHeld s i / slotTarget s i))) := by
  simp [effectiveQuota, h, htarget.ne']

/-- Settles O13: the share floor(Q · held / target) is at most Q up to the target and at least Q from it on, so the bound
by Q acts only above the target. -/
theorem effectiveQuotaFollowsTheSlotState : Obligations.EffectiveQuotaFollowsTheSlotState := by
  intro s i hquota
  refine ⟨effectiveQuota_of_qualifying, effectiveQuota_of_serving, effectiveQuota_of_admitting_without_target,
    fun hstate htarget => ⟨_, effectiveQuota_of_admitting_toward_target hstate htarget, ?_, min_le_left _ _,
      fun hheld => ?_, fun hheld => ?_⟩⟩
  · exact le_min (by omega) (le_max_left _ _)
  · have hshare : (s.slots.get i).quota * slotHeld s i / slotTarget s i ≤ (s.slots.get i).quota :=
      Nat.div_le_of_le_mul ((Nat.mul_le_mul_left _ hheld).trans_eq (mul_comm _ _))
    exact min_eq_right (max_le (by omega) hshare)
  · have hshare : (s.slots.get i).quota ≤ (s.slots.get i).quota * slotHeld s i / slotTarget s i :=
      (Nat.le_div_iff_mul_le htarget).mpr (Nat.mul_le_mul_left _ hheld)
    exact min_eq_left (hshare.trans (le_max_right _ _))

/-! The round robin: the first slot, onward from the one after the pointer, whose upstream queue is not empty. -/

/-- The round robin as a search over the distance from the slot after the pointer. -/
theorem nextUpstream_eq_find (s : State) :
    nextUpstream s = (Fin.find? fun k : Fin 12 => !(s.upstream.get (s.core.pointer + 1 + k)).queue.isEmpty).map
      (s.core.pointer + 1 + ·) := by
  rw [Fin.find?_eq_find?_finRange]
  exact List.find?_map

theorem nextUpstream_eq_some {k : Fin 12} (hk : (s.upstream.get (s.core.pointer + 1 + k)).queue ≠ [])
    (hbefore : ∀ j < k, (s.upstream.get (s.core.pointer + 1 + j)).queue = []) :
    nextUpstream s = some (s.core.pointer + 1 + k) := by
  have hfirst : Fin.find? (fun k : Fin 12 => !(s.upstream.get (s.core.pointer + 1 + k)).queue.isEmpty) = some k :=
    Fin.find?_eq_some_iff.mpr ⟨by simpa using hk, fun j hj => by simp [hbefore j hj]⟩
  rw [nextUpstream_eq_find, hfirst, Option.map_some]

theorem nextUpstream_eq_none (h : ∀ j, (s.upstream.get j).queue = []) : nextUpstream s = none := by
  have hnone : Fin.find? (fun k : Fin 12 => !(s.upstream.get (s.core.pointer + 1 + k)).queue.isEmpty) = none :=
    Fin.find?_eq_none_iff.mpr fun k => by simp [h]
  rw [nextUpstream_eq_find, hnone, Option.map_none]

/-! CORE_ARBITER_CHOICE on an idle transmitter, by the choice made. -/

theorem exec_coreArbiterChoice (s : State) : exec .coreArbiterChoice s = execCoreArbiterChoice s := rfl

theorem coreArbiterChoice_of_transmit {payload : List Byte} {rest : List (List Byte)} (hidle : s.core.tx = .idle)
    (hwaits : s.agent.transmit = payload :: rest) :
    exec .coreArbiterChoice s = .next (s.updCore fun k => { k with tx := .mgmt (builtFrame .mgmt 0 payload) }) := by
  simp [exec_coreArbiterChoice, execCoreArbiterChoice, hidle, hwaits]

theorem coreArbiterChoice_of_nextUpstream (hidle : s.core.tx = .idle) (hnone : s.agent.transmit = [])
    (hnext : nextUpstream s = some i) :
    exec .coreArbiterChoice s = .next (s.updCore fun k =>
      { k with tx := .upstream i (resourced i ((s.upstream.get i).queue.headD [])), pointer := i }) := by
  simp [exec_coreArbiterChoice, execCoreArbiterChoice, hidle, hnone, hnext]

theorem coreArbiterChoice_of_nothing (hidle : s.core.tx = .idle) (hnone : s.agent.transmit = [])
    (hnext : nextUpstream s = none) : exec .coreArbiterChoice s = .next s := by
  simp [exec_coreArbiterChoice, execCoreArbiterChoice, hidle, hnone, hnext]

/-- Settles O26: the transmit queue's head, else the round robin's slot, which is the least distance with a frame, else
nothing. -/
theorem theCoreArbiterGoesRound : Obligations.TheCoreArbiterGoesRound := by
  intro s hidle
  refine ⟨fun payload rest hwaits => coreArbiterChoice_of_transmit hidle hwaits,
    fun hnone k bytes rest hqueue hbefore => ?_,
    fun hnone hempty => coreArbiterChoice_of_nothing hidle hnone (nextUpstream_eq_none hempty)⟩
  have hnext := nextUpstream_eq_some (by simp [hqueue]) hbefore
  rw [coreArbiterChoice_of_nextUpstream hidle hnone hnext, hqueue]
  rfl

end Sys2Proof.Machine
end

section
/-! SUPPORT. The Lamp Driver's base step: the selected pattern by the slot's override (R169), the level a pattern shows at a
step count (R171), and what the step count's return to 0 does to it (R172). O41 is settled here. -/

namespace Sys2Proof.Machine

theorem exec_lampBaseStep (s : State) : exec .lampBaseStep s = .next (stepLamps s) := rfl

theorem stepLamps_counter (s : State) : (stepLamps s).lamps.counter = s.lamps.counter + 1 := rfl

theorem stepLamps_level_get (s : State) (i : SlotIx) :
    (stepLamps s).lamps.level.get i
      = (s.lamps.patterns.get (selectedPattern s i)).levelAt (s.lamps.counter + 1) := by
  simp [stepLamps]

theorem stepLamps_frame (s : State) :
    stepLamps s = { s with lamps := { s.lamps with
      counter := (stepLamps s).lamps.counter, level := (stepLamps s).lamps.level } } := rfl

theorem selectedPattern_of_override {s : State} {i : SlotIx} {k : PatternIx} (h : s.lamps.override.get i = some k) :
    selectedPattern s i = k := by
  simp [selectedPattern, h]

theorem selectedPattern_of_no_override {s : State} {i : SlotIx} (h : s.lamps.override.get i = none) :
    selectedPattern s i = s.lamps.stateMap.get (stateCode (s.slots.get i).state) := by
  simp [selectedPattern, h]

/-! The level of a pattern at a step count. -/

theorem Pattern.getElem?_eq_levelAt {p : Pattern} (c : BitVec 32) (h : p.levels ≠ []) :
    p.levels[c.toNat / p.width % p.levels.length]? = some (p.levelAt c) := by
  have hlt := Nat.mod_lt (c.toNat / p.width) (List.length_pos_iff.mpr h)
  rw [Pattern.levelAt, List.getD_eq_getElem _ _ hlt, List.getElem?_eq_getElem hlt]

theorem Pattern.levelAt_zero (p : Pattern) : p.levelAt 0 = p.levels.getD 0 false := by
  simp [Pattern.levelAt]

/-- When a round of `L` levels of `m` steps each divides the modulus, the return of the count to 0 falls between two
rounds. -/
theorem mod_div_mod_of_mul_dvd {m L modulus : Nat} (h : m * L ∣ modulus) (n : Nat) :
    n % modulus / m % L = n / m % L :=
  calc n % modulus / m % L = n % modulus % (m * L) / m := (Nat.mod_mul_right_div_self ..).symm
    _ = n % (m * L) / m := by rw [Nat.mod_mod_of_dvd n h]
    _ = n / m % L := Nat.mod_mul_right_div_self ..

theorem Pattern.levelAt_add_one_of_dvd {p : Pattern} (h : p.width * p.levels.length ∣ 2 ^ 32) (c : BitVec 32) :
    p.levelAt (c + 1) = p.levels.getD ((c.toNat + 1) / p.width % p.levels.length) false := by
  have hcount : (c + 1).toNat = (c.toNat + 1) % 2 ^ 32 := BitVec.toNat_add c 1
  rw [Pattern.levelAt, hcount, mod_div_mod_of_mul_dvd h]

/-- A round of 2, 4, 8 or 16 levels of 1, 2, 4 or 8 base steps divides 128, and so 2³². -/
theorem round_dvd_of_mem {m L : Nat} (hL : L ∈ [2, 4, 8, 16]) (hm : m ∈ [1, 2, 4, 8]) : m * L ∣ 2 ^ 32 := by
  have hlevels : ∀ n ∈ [2, 4, 8, 16], n ∣ 16 := by decide
  have hwidths : ∀ n ∈ [1, 2, 4, 8], n ∣ 8 := by decide
  have hround : m * L ∣ 8 * 16 := Nat.mul_dvd_mul (hwidths m hm) (hlevels L hL)
  exact hround.trans (by decide)

/-- Settles O41: the lamp's level is the selected pattern's at the raised count; the count's return to 0 is seamless where
the pattern's round divides 2³², and the count 0 always shows level 0. -/
theorem lampsStepThroughTheirPatterns : Obligations.LampsStepThroughTheirPatterns := by
  refine ⟨fun s => ⟨_, exec_lampBaseStep s, stepLamps_counter s, ?_, stepLamps_frame s⟩,
    fun p c hlength hwidth => Pattern.levelAt_add_one_of_dvd (round_dvd_of_mem hlength hwidth) c,
    Pattern.levelAt_zero⟩
  intro i k p hlevels
  have hselected : selectedPattern s i = k := by
    cases h : s.lamps.override.get i with
    | some j => simp [k, h, selectedPattern_of_override h]
    | none => simp [k, h, selectedPattern_of_no_override h]
  rw [stepLamps_level_get, hselected]
  exact Pattern.getElem?_eq_levelAt _ hlevels

end Sys2Proof.Machine
end

section
/-! SUPPORT. What the events of the part leave alone, as relations that are reflexive and transitive: notices alone join the
transmit queue and nothing counted or flagged is lost (`Proceeds`); a change of membership and its consequences touch no slot
but by a completed admission or retirement (`Follows`); an event of one slot leaves the others so (`EventAt`). -/

namespace Sys2Proof.Machine

/-- What an event can do to the agent (R188): notices join the transmit queue within its room, or are counted as dropped. -/
structure AgentNotices (a a' : AgentRecord) : Prop where
  fields : a' = { a with transmit := a'.transmit, counters := a'.counters }
  notices : ∃ ns, a'.transmit = a.transmit ++ ns ∧ (∀ n ∈ ns, n[1]? = some 0x80#8)
    ∧ (a.noticesEnabled = false → ns = []) ∧ (ns ≠ [] → a'.transmit.length ≤ 16)
  counts : ∀ c : AgentCounter, (a.counters.get c.ix).toNat ≤ (a'.counters.get c.ix).toNat

theorem AgentNotices.refl (a : AgentRecord) : AgentNotices a a :=
  ⟨rfl, ⟨[], by simp⟩, fun _ => le_rfl⟩

theorem AgentNotices.trans {a b c : AgentRecord} (hab : AgentNotices a b) (hbc : AgentNotices b c) :
    AgentNotices a c := by
  obtain ⟨hb, ⟨ns, hns, hcode, hoff, hroom⟩, hcounts⟩ := hab
  obtain ⟨hc, ⟨ns', hns', hcode', hoff', hroom'⟩, hcounts'⟩ := hbc
  have henabled : b.noticesEnabled = a.noticesEnabled := by rw [hb]
  refine ⟨by rw [hc, hb], ⟨ns ++ ns', by rw [hns', hns, List.append_assoc], ?_, ?_, ?_⟩,
    fun k => (hcounts k).trans (hcounts' k)⟩
  · intro n hn
    exact (List.mem_append.mp hn).elim (hcode n) (hcode' n)
  · intro h
    rw [hoff h, hoff' (henabled.trans h)]
    rfl
  · intro h
    by_cases hlast : ns' = []
    · rw [hns', hlast, List.append_nil]
      exact hroom (by simpa [hlast] using h)
    · exact hroom' hlast

/-- An event loses nothing: no counter falls, no slot flag is cleared, and the agent only takes notices (R3, R34, R188). -/
structure Proceeds (s t : State) : Prop where
  counters : CountersRise s t
  flags : ∀ j f, flagSet s j f = true → flagSet t j f = true
  agent : AgentNotices s.agent t.agent

theorem CountersRise.refl (s : State) : CountersRise s s :=
  ⟨fun _ => le_rfl, fun _ _ => le_rfl, fun _ _ => le_rfl, fun _ => le_rfl⟩

theorem CountersRise.trans {s t u : State} (h : CountersRise s t) (h' : CountersRise t u) : CountersRise s u :=
  ⟨fun c => (h.core c).trans (h'.core c), fun p c => (h.pool p c).trans (h'.pool p c),
    fun i c => (h.slot i c).trans (h'.slot i c), fun c => (h.agent c).trans (h'.agent c)⟩

theorem Proceeds.refl (s : State) : Proceeds s s := ⟨.refl s, fun _ _ h => h, .refl _⟩

theorem Proceeds.trans {s t u : State} (h : Proceeds s t) (h' : Proceeds t u) : Proceeds s u :=
  ⟨h.counters.trans h'.counters, fun j f hf => h'.flags j f (h.flags j f hf), h.agent.trans h'.agent⟩

/-- What changes no counter, no flag and nothing of the agent loses nothing. -/
theorem Proceeds.of_eq {s t : State} (hcore : t.core.counters = s.core.counters)
    (hpools : ∀ p, (t.pools.get p).counters = (s.pools.get p).counters) (hslots : t.slotCounters = s.slotCounters)
    (hagent : t.agent = s.agent) (hflags : ∀ i, (t.slots.get i).attention = (s.slots.get i).attention) :
    Proceeds s t where
  counters := by
    refine ⟨fun c => ?_, fun p c => ?_, fun i c => ?_, fun c => ?_⟩
    · rw [State.coreCount, State.coreCount, hcore]
    · rw [State.poolCount, State.poolCount, hpools]
    · rw [State.slotCount, State.slotCount, hslots]
    · rw [State.agentCount, State.agentCount, hagent]
  flags j f h := by rwa [flagSet, hflags]
  agent := hagent ▸ .refl _

/-- A membership state follows another: the same, or an admission or a retirement has completed (R14, R18). -/
abbrev StateFollows (old new : SlotState) : Prop :=
  new = old ∨ old = .admitting ∧ new = .inService ∨ old = .retiring .moving ∧ new = .retiring .confirming

theorem StateFollows.trans {a b c : SlotState} (h : StateFollows a b) (h' : StateFollows b c) : StateFollows a c := by
  obtain rfl | ⟨rfl, rfl⟩ | ⟨rfl, rfl⟩ := h
  · exact h'
  all_goals
    obtain rfl | ⟨h, -⟩ | ⟨h, -⟩ := h'
    · simp [StateFollows]
    all_goals simp at h

/-- A way of following that ends where it began went nowhere. -/
theorem StateFollows.eq_of_eq {a b c : SlotState} (h : StateFollows a b) (h' : StateFollows b c) (hca : c = a) :
    b = a ∧ c = b := by
  subst hca
  obtain rfl | ⟨rfl, rfl⟩ | ⟨rfl, rfl⟩ := h
  · exact ⟨rfl, rfl⟩
  all_goals simp [StateFollows] at h'

/-- A slot's record follows another: by its state, and nothing changes but with the state, the settings never. -/
structure RecordFollows (r r' : SlotRecord) : Prop where
  state : StateFollows r.state r'.state
  same : r'.state = r.state → r' = r
  settings : r'.pool = r.pool ∧ r'.weight = r.weight ∧ r'.expectedClass = r.expectedClass ∧ r'.policy = r.policy
    ∧ r'.retireDeadline = r.retireDeadline ∧ r'.rateMode = r.rateMode ∧ r'.quota = r.quota
  lastFault : r'.lastFault = r.lastFault
  progress : r'.echoes = r.echoes ∧ r'.beaconsQualified = r.beaconsQualified

theorem RecordFollows.refl (r : SlotRecord) : RecordFollows r r := ⟨.inl rfl, fun _ => rfl, by simp, rfl, by simp⟩

theorem RecordFollows.trans {a b c : SlotRecord} (h : RecordFollows a b) (h' : RecordFollows b c) :
    RecordFollows a c where
  state := h.state.trans h'.state
  same hc := by
    obtain ⟨hba, hcb⟩ := h.state.eq_of_eq h'.state hc
    rw [h'.same hcb, h.same hba]
  settings := by
    obtain ⟨h1, h2, h3, h4, h5, h6, h7⟩ := h.settings
    obtain ⟨k1, k2, k3, k4, k5, k6, k7⟩ := h'.settings
    exact ⟨k1.trans h1, k2.trans h2, k3.trans h3, k4.trans h4, k5.trans h5, k6.trans h6, k7.trans h7⟩
  lastFault := h'.lastFault.trans h.lastFault
  progress := ⟨h'.progress.1.trans h.progress.1, h'.progress.2.trans h.progress.2⟩

/-- A link follows another: the same, or a link that carries frames has been asked for a RETIRE_NOTICE that was not yet
waiting (R18, R132). -/
abbrev LinkFollows (l l' : LinkRecord) : Prop :=
  l' = l ∨ l.carries = true ∧ .retireNotice ∉ l.control ∧ l' = { l with control := l.control ++ [.retireNotice] }

theorem LinkFollows.trans {a b c : LinkRecord} (h : LinkFollows a b) (h' : LinkFollows b c) : LinkFollows a c := by
  obtain rfl | ⟨hcarries, hnot, rfl⟩ := h
  · exact h'
  · obtain rfl | ⟨-, hnot', -⟩ := h'
    · exact .inr ⟨hcarries, hnot, rfl⟩
    · simp at hnot'

/-- A pool's record follows another: its settings, its enable and its ramp timer stand. -/
abbrev PoolFollows (r r' : PoolRecord) : Prop :=
  r' = { r with
    targets := r'.targets, adoptionTimer := r'.adoptionTimer, plan := r'.plan, bins := r'.bins
    counters := r'.counters }

theorem PoolFollows.trans {a b c : PoolRecord} (h : PoolFollows a b) (h' : PoolFollows b c) : PoolFollows a c := by
  unfold PoolFollows at *
  rw [h', h]

/-- The slot counters that the traffic raises: EGRESS_FULL, FLUSHED, PAUSE_SENT, and the two of a reception cut off. -/
def trafficCounters : List SlotCounter := [.egressFull, .flushed, .pauseSent, .rxAborted, .noBuffer]

/-- The consequences of a commit or of a change of membership in every slot (R14, R18, R36). -/
structure Follows (s t : State) : Prop where
  proceeds : Proceeds s t
  touches : TouchesTraffic s t
  slots : ∀ j, RecordFollows (s.slots.get j) (t.slots.get j)
  links : ∀ j, LinkFollows (s.links.get j) (t.links.get j)
  pools : ∀ p, PoolFollows (s.pools.get p) (t.pools.get p)
  counts : ∀ j c, c ∉ trafficCounters → t.slotCount j c = s.slotCount j c

theorem Follows.refl (s : State) : Follows s s :=
  ⟨.refl s, .refl s, fun _ => .refl _, fun _ => .inl rfl, fun _ => rfl, fun _ _ _ => rfl⟩

theorem Follows.trans {s t u : State} (h : Follows s t) (h' : Follows t u) : Follows s u :=
  ⟨h.proceeds.trans h'.proceeds, h.touches.trans h'.touches, fun j => (h.slots j).trans (h'.slots j),
    fun j => (h.links j).trans (h'.links j), fun p => (h.pools p).trans (h'.pools p),
    fun j c hc => (h'.counts j c hc).trans (h.counts j c hc)⟩

theorem Follows.ite {s t t' : State} {c : Prop} [Decidable c] (h : c → Follows s t) (h' : ¬ c → Follows s t') :
    Follows s (if c then t else t') := by
  split
  · exact h ‹_›
  · exact h' ‹_›

/-- The settings of a slot stand, where its record follows. -/
theorem Follows.settingsStand {s t : State} (h : Follows s t) (j : SlotIx) : SettingsStand j s t := (h.slots j).settings

theorem Follows.membershipFollows {s t : State} (h : Follows s t) : MembershipFollows s t where
  states j := (h.slots j).state
  slots j := (h.slots j).same
  links j := by obtain e | ⟨-, -, e⟩ := h.links j <;> rw [e]

/-- What an event of slot `i` leaves (R36): the others and the slot's settings stand, nothing counted or flagged is lost, and
no slot counter rises but those of the traffic. -/
structure EventAt (i : SlotIx) (s t : State) : Prop where
  proceeds : Proceeds s t
  others : OthersStand i s t
  settings : SettingsStand i s t
  ports : t.ports = s.ports
  scanner : t.scanner = s.scanner
  counts : ∀ j c, c ∉ trafficCounters → t.slotCount j c = s.slotCount j c
  records : ∀ j, j ≠ i → RecordFollows (s.slots.get j) (t.slots.get j)
  links : ∀ j, j ≠ i → LinkFollows (s.links.get j) (t.links.get j)

theorem EventAt.frame {i : SlotIx} {s t : State} (h : EventAt i s t) : SlotEventFrame i s t :=
  ⟨h.others, h.settings, h.ports, h.scanner⟩

theorem OthersStand.refl (i : SlotIx) (s : State) : OthersStand i s s where
  states _ _ := .inl rfl
  slots _ _ _ := rfl
  links _ _ := rfl
  upstream _ _ := rfl
  monitors _ _ := rfl
  pools _ := rfl
  lamps := rfl
  core := rfl
  agent := rfl
  arbiter := rfl
  clock := ⟨rfl, rfl, rfl⟩

theorem OthersStand.trans {i : SlotIx} {s t u : State} (h : OthersStand i s t) (h' : OthersStand i t u) :
    OthersStand i s u where
  states j hj := StateFollows.trans (h.states j hj) (h'.states j hj)
  slots j hj e := by
    obtain ⟨hts, hut⟩ := StateFollows.eq_of_eq (h.states j hj) (h'.states j hj) e
    rw [h'.slots j hj hut, h.slots j hj hts]
  links j hj := by rw [h'.links j hj, h.links j hj]
  upstream j hj := (h'.upstream j hj).trans (h.upstream j hj)
  monitors j hj := (h'.monitors j hj).trans (h.monitors j hj)
  pools p := by rw [h'.pools p, h.pools p]
  lamps := h'.lamps.trans h.lamps
  core := by rw [h'.core, h.core]
  agent := by rw [h'.agent, h.agent]
  arbiter := h'.arbiter.trans h.arbiter
  clock := by
    obtain ⟨hm, hf, hp⟩ := h.clock
    obtain ⟨hm', hf', hp'⟩ := h'.clock
    exact ⟨hm'.trans hm, hf'.trans hf, hp'.trans hp⟩

theorem SettingsStand.refl (i : SlotIx) (s : State) : SettingsStand i s s := by simp [SettingsStand]

theorem SettingsStand.trans {i : SlotIx} {s t u : State} (h : SettingsStand i s t) (h' : SettingsStand i t u) :
    SettingsStand i s u := by
  obtain ⟨h1, h2, h3, h4, h5, h6, h7⟩ := h
  obtain ⟨k1, k2, k3, k4, k5, k6, k7⟩ := h'
  exact ⟨k1.trans h1, k2.trans h2, k3.trans h3, k4.trans h4, k5.trans h5, k6.trans h6, k7.trans h7⟩

theorem EventAt.refl (i : SlotIx) (s : State) : EventAt i s s :=
  ⟨.refl s, .refl i s, .refl i s, rfl, rfl, fun _ _ _ => rfl, fun _ _ => .refl _, fun _ _ => .inl rfl⟩

theorem EventAt.trans {i : SlotIx} {s t u : State} (h : EventAt i s t) (h' : EventAt i t u) : EventAt i s u :=
  ⟨h.proceeds.trans h'.proceeds, h.others.trans h'.others, h.settings.trans h'.settings, h'.ports.trans h.ports,
    h'.scanner.trans h.scanner, fun j c hc => (h'.counts j c hc).trans (h.counts j c hc),
    fun j hj => (h.records j hj).trans (h'.records j hj), fun j hj => (h.links j hj).trans (h'.links j hj)⟩

theorem EventAt.ite {i : SlotIx} {s t t' : State} {c : Prop} [Decidable c] (h : c → EventAt i s t)
    (h' : ¬ c → EventAt i s t') : EventAt i s (if c then t else t') := by
  split
  · exact h ‹_›
  · exact h' ‹_›

/-- The consequences of a change of membership are within the frame of an event of any slot. -/
theorem Follows.others {s t : State} (h : Follows s t) (i : SlotIx) : OthersStand i s t := by
  have hp := h.proceeds.agent.fields
  obtain ⟨slots, links, agent, pools, engines, egress, counts, rfl⟩ := h.touches
  exact {
    states := fun j _ => (h.slots j).state
    slots := fun j _ => (h.slots j).same
    links := fun j _ => by obtain e | ⟨-, -, e⟩ := h.links j <;> rw [e]
    upstream := fun _ _ => rfl
    monitors := fun _ _ => rfl
    pools := h.pools
    lamps := rfl
    core := rfl
    agent := by dsimp only at hp ⊢; rw [hp]
    arbiter := rfl
    clock := ⟨rfl, rfl, rfl⟩ }

theorem Follows.eventAt {s t : State} (h : Follows s t) (i : SlotIx) : EventAt i s t where
  proceeds := h.proceeds
  others := h.others i
  settings := h.settingsStand i
  ports := by obtain ⟨_, _, _, _, _, _, _, rfl⟩ := h.touches; rfl
  scanner := by obtain ⟨_, _, _, _, _, _, _, rfl⟩ := h.touches; rfl
  counts := h.counts
  records j _ := h.slots j
  links j _ := h.links j

end Sys2Proof.Machine
end

section
/-! SUPPORT. The updates of the state as events: what each leaves alone, in the relations of an event and of the consequences
of a change of membership. -/

namespace Sys2Proof.Machine

/-! Notices, flags and states. -/

theorem bumpAgent_notices (c : AgentCounter) (s : State) : AgentNotices s.agent (bumpAgent c s).agent where
  fields := rfl
  notices := ⟨[], by simp [bumpAgent]⟩
  counts k := by
    simp only [bumpAgent, State.updAgent_agent, Table.get_modify]
    split
    · next h => rw [h]; exact le_counterAdd _ _
    · exact le_rfl

theorem offerNotice_notices {p : List Byte} (hp : p[1]? = some 0x80#8) (s : State) :
    AgentNotices s.agent (offerNotice p s).agent := by
  obtain ⟨-, h⟩ | ⟨hon, hroom, h⟩ | ⟨-, -, h⟩ := offerNotice_cases p s <;> rw [h]
  · exact .refl _
  · refine ⟨rfl, ⟨[p], rfl, by simpa using hp, by simp [hon], fun _ => ?_⟩, fun _ => le_rfl⟩
    have : s.agent.transmit.length < 16 := hroom
    simpa using this
  · exact bumpAgent_notices _ s

theorem slotNotice_code (i : SlotIx) (event : Nat) (old new : SlotState) :
    (slotNotice i event old new)[1]? = some 0x80#8 := rfl

theorem getLsbD_flagMask (f : SlotFlag) : (flagMask f).getLsbD (flagBit f) = true := by cases f <;> decide

/-- An offered notice joins the transmit queue, is dropped and counted, or is not built (R188). -/
theorem offerNotice_follows {p : List Byte} (hp : p[1]? = some 0x80#8) (s : State) : Follows s (offerNotice p s) := by
  have hagent := offerNotice_notices hp s
  obtain ⟨a, h⟩ := offerNotice_frame p s
  rw [h] at hagent ⊢
  exact {
    proceeds := ⟨{ CountersRise.refl s with agent := hagent.counts }, fun _ _ h => h, hagent⟩
    touches := ⟨_, _, _, _, _, _, _, rfl⟩
    slots := fun _ => .refl _
    links := fun _ => .inl rfl
    pools := fun _ => rfl
    counts := fun _ _ _ => rfl }

/-- A slot record rewritten, its settings and flags kept. -/
theorem EventAt.updSlot {i : SlotIx} {s : State} {f : SlotRecord → SlotRecord}
    (hf : ∀ r, (f r).pool = r.pool ∧ (f r).weight = r.weight ∧ (f r).expectedClass = r.expectedClass
      ∧ (f r).policy = r.policy ∧ (f r).retireDeadline = r.retireDeadline ∧ (f r).rateMode = r.rateMode
      ∧ (f r).quota = r.quota)
    (hflags : ∀ r k, r.attention.getLsbD k = true → (f r).attention.getLsbD k = true) :
    EventAt i s (s.updSlot i f) where
  proceeds := by
    refine ⟨{ CountersRise.refl s with }, fun j k hk => ?_, .refl _⟩
    rw [flagSet, State.updSlot_slots, Table.get_modify]
    split
    · next h => exact hflags _ _ (h ▸ hk)
    · exact hk
  others := { OthersStand.refl i s with
    states := fun j hj => .inl (by rw [State.updSlot_slots, Table.get_modify_of_ne _ hj])
    slots := fun j hj _ => by rw [State.updSlot_slots, Table.get_modify_of_ne _ hj] }
  settings := by simpa [SettingsStand] using hf _
  ports := rfl
  scanner := rfl
  counts _ _ _ := rfl
  records j hj := by
    rw [State.updSlot_slots, Table.get_modify_of_ne _ hj]
    exact .refl _
  links _ _ := .inl rfl

theorem raiseFlag_eventAt (i : SlotIx) (f : SlotFlag) (s : State) : EventAt i s (raiseFlag i f s) := by
  rw [raiseFlag]
  refine .ite (fun _ => .refl i s) fun _ => ?_
  exact (EventAt.updSlot (fun _ => by simp) fun _ _ hk => by simp [BitVec.getLsbD_or, hk]).trans
    ((offerNotice_follows (slotNotice_code ..) _).eventAt i)

theorem changeState_eventAt (i : SlotIx) (new : SlotState) (s : State) : EventAt i s (changeState i new s) := by
  rw [changeState]
  refine .ite (fun _ => .refl i s) fun _ => ?_
  exact (EventAt.updSlot (fun _ => by simp [SlotRecord.stopTimers])
    fun _ _ hk => by simp [BitVec.getLsbD_or, hk]).trans ((offerNotice_follows (slotNotice_code ..) _).eventAt i)

/-! The records of one slot beside the Slot Table. -/

theorem EventAt.updLink (i : SlotIx) (f : LinkRecord → LinkRecord) (s : State) : EventAt i s (s.updLink i f) where
  proceeds := .of_eq rfl (fun _ => rfl) rfl rfl fun _ => rfl
  others := { OthersStand.refl i s with
    links := fun j hj => by rw [State.updLink_links, Table.get_modify_of_ne _ hj] }
  settings := .refl i s
  ports := rfl
  scanner := rfl
  counts _ _ _ := rfl
  records _ _ := .refl _
  links j hj := .inl (by rw [State.updLink_links, Table.get_modify_of_ne _ hj])

theorem EventAt.updMonitor (i : SlotIx) (f : MonitorRecord → MonitorRecord) (s : State) :
    EventAt i s (s.updMonitor i f) where
  proceeds := .of_eq rfl (fun _ => rfl) rfl rfl fun _ => rfl
  others := { OthersStand.refl i s with
    monitors := fun j hj => by rw [State.updMonitor_monitors, Table.get_modify_of_ne _ hj] }
  settings := .refl i s
  ports := rfl
  scanner := rfl
  counts _ _ _ := rfl
  records _ _ := .refl _
  links _ _ := .inl rfl

theorem EventAt.updUpstream (i : SlotIx) (f : UpstreamRecord → UpstreamRecord) (s : State) :
    EventAt i s (s.updUpstream i f) where
  proceeds := .of_eq rfl (fun _ => rfl) rfl rfl fun _ => rfl
  others := { OthersStand.refl i s with
    upstream := fun j hj => by rw [State.updUpstream_upstream, Table.get_modify_of_ne _ hj] }
  settings := .refl i s
  ports := rfl
  scanner := rfl
  counts _ _ _ := rfl
  records _ _ := .refl _
  links _ _ := .inl rfl

/-- The core link's transmitter alone changes. -/
theorem EventAt.coreTx (i : SlotIx) (tx : CoreTx) (s : State) :
    EventAt i s (s.updCore fun k => { k with tx := tx }) where
  proceeds := .of_eq rfl (fun _ => rfl) rfl rfl fun _ => rfl
  others := { OthersStand.refl i s with core := rfl }
  settings := .refl i s
  ports := rfl
  scanner := rfl
  counts _ _ _ := rfl
  records _ _ := .refl _
  links _ _ := .inl rfl

/-! Counters of slots. -/

theorem slotCount_bumpSlotBy (i j : SlotIx) (c d : SlotCounter) (n : Nat) (s : State) :
    (bumpSlotBy i c n s).slotCount j d
      = if j = i ∧ d = c then counterAdd (s.slotCount j d) n else s.slotCount j d := by
  have hix : d.ix = c.ix ↔ d = c := ⟨fun h => by cases d <;> cases c <;> first | rfl | simp [SlotCounter.ix] at h,
    fun h => h ▸ rfl⟩
  simp only [State.slotCount, bumpSlotBy, Table.get_modify]
  by_cases hj : j = i
  · subst hj
    simp only [if_true, Table.get_modify, hix, true_and]
    split
    · next h => rw [h]
    · rfl
  · simp [hj]

theorem bumpSlotBy_proceeds (i : SlotIx) (c : SlotCounter) (n : Nat) (s : State) :
    Proceeds s (bumpSlotBy i c n s) where
  counters := { CountersRise.refl s with
    slot := fun j d => by
      rw [slotCount_bumpSlotBy]
      split
      · exact le_counterAdd _ _
      · exact le_rfl }
  flags _ _ h := h
  agent := .refl _

theorem bumpSlotBy_others (i j : SlotIx) (c : SlotCounter) (n : Nat) (s : State) :
    OthersStand i s (bumpSlotBy j c n s) := { OthersStand.refl i s with }

theorem bumpSlotBy_follows {c : SlotCounter} (hc : c ∈ trafficCounters) (i : SlotIx) (n : Nat) (s : State) :
    Follows s (bumpSlotBy i c n s) where
  proceeds := bumpSlotBy_proceeds i c n s
  touches := (bumpSlotBy_links i c n s).elim fun _ _ => ⟨_, _, _, _, _, _, _, rfl⟩
  slots _ := .refl _
  links _ := .inl rfl
  pools _ := rfl
  counts j d hd := by
    rw [slotCount_bumpSlotBy, if_neg]
    rintro ⟨-, rfl⟩
    exact hd hc

/-! Pools, engines and egress queues. -/

/-- Pools, engines and egress queues may change, the pools by following. -/
theorem Follows.of_frames {s t : State}
    (ht : t = { s with pools := t.pools, engines := t.engines, egress := t.egress })
    (hpools : ∀ p, PoolFollows (s.pools.get p) (t.pools.get p))
    (hcounts : ∀ p c, (s.poolCount p c).toNat ≤ (t.poolCount p c).toNat) : Follows s t := by
  generalize t.pools = pools at *
  generalize t.engines = engines at *
  generalize t.egress = egress at *
  subst ht
  exact {
    proceeds := ⟨{ CountersRise.refl s with pool := hcounts }, fun _ _ h => h, .refl _⟩
    touches := ⟨_, _, _, _, _, _, _, rfl⟩
    slots := fun _ => .refl _
    links := fun _ => .inl rfl
    pools := hpools
    counts := fun _ _ _ => rfl }

theorem Follows.updPool {s : State} {p : PoolIx} {f : PoolRecord → PoolRecord}
    (hf : ∀ r, PoolFollows r (f r))
    (hcounts : ∀ (r : PoolRecord) (k : Fin 7), (r.counters.get k).toNat ≤ ((f r).counters.get k).toNat) :
    Follows s (s.updPool p f) := by
  refine .of_frames rfl (fun q => ?_) (fun q c => ?_)
  · rw [State.updPool_pools, Table.get_modify]
    split
    · next h => rw [h]; exact hf _
    · rfl
  · rw [State.poolCount, State.poolCount, State.updPool_pools, Table.get_modify]
    split
    · next h => rw [h]; exact hcounts _ _
    · exact le_rfl

/-- A pool record rewritten, its counters, settings, enable and ramp timer kept. -/
theorem Follows.updPool' {s : State} {p : PoolIx} {f : PoolRecord → PoolRecord}
    (hf : ∀ r, PoolFollows r (f r)) (hcounts : ∀ r, (f r).counters = r.counters) : Follows s (s.updPool p f) :=
  .updPool hf fun r k => by rw [hcounts]

theorem Follows.updBin (p : PoolIx) (b : BinIx) (f : BinRecord → BinRecord) (s : State) : Follows s (s.updBin p b f) :=
  .updPool' (fun _ => rfl) fun _ => rfl

theorem Follows.setEngine (e : EngineIx) (m : Option MoveRecord) (s : State) : Follows s (s.setEngine e m) :=
  .of_frames rfl (fun _ => rfl) fun _ _ => le_rfl

theorem Follows.setEgress (i : SlotIx) (q : List EgressEntry) (s : State) : Follows s (s.setEgress i q) :=
  .of_frames rfl (fun _ => rfl) fun _ _ => le_rfl

theorem poolCount_bumpPool (p q : PoolIx) (c d : PoolCounter) (n : Nat) (s : State) :
    (bumpPool p c n s).poolCount q d
      = if q = p ∧ d = c then counterAdd (s.poolCount q d) n else s.poolCount q d := by
  have hix : d.ix = c.ix ↔ d = c := ⟨fun h => by cases d <;> cases c <;> first | rfl | simp [PoolCounter.ix] at h,
    fun h => h ▸ rfl⟩
  simp only [State.poolCount, bumpPool, State.updPool_pools, Table.get_modify]
  by_cases hq : q = p
  · subst hq
    simp only [if_true, Table.get_modify, hix, true_and]
    split
    · next h => rw [h]
    · rfl
  · simp [hq]

theorem bumpPool_follows (p : PoolIx) (c : PoolCounter) (n : Nat) (s : State) : Follows s (bumpPool p c n s) :=
  .updPool (fun _ => rfl) fun r k => by
    simp only [Table.get_modify]
    split
    · next h => rw [h]; exact le_counterAdd _ _
    · exact le_rfl

end Sys2Proof.Machine
end

section
/-! SUPPORT. The shared operations on pools, moves and egress queues, each as what follows a change of membership: no slot
changes but by a completed admission or retirement, no link but by a RETIRE_NOTICE asked of it. -/

namespace Sys2Proof.Machine

/-! What a change of state and a control frame leave. -/

theorem changeState_get_self (i : SlotIx) (new : SlotState) (s : State) :
    (changeState i new s).slots.get i = if (s.slots.get i).state = new then s.slots.get i else
      { (s.slots.get i).stopTimers with
        state := new, attention := (s.slots.get i).attention ||| flagMask .stateChanged } := by
  rw [changeState]
  split
  · rfl
  · simp

theorem askControl_slots (i : SlotIx) (f : ControlFrame) (s : State) : (askControl i f s).slots = s.slots := by
  obtain ⟨-, h⟩ | ⟨-, h⟩ := askControl_cases i f s <;> rw [h]
  rfl

theorem askControl_link_self (i : SlotIx) (f : ControlFrame) (s : State) :
    (askControl i f s).links.get i = if (s.links.get i).carries then
      { s.links.get i with control := joinControl f (s.links.get i).control } else s.links.get i := by
  rw [askControl]
  split <;> simp

theorem askControl_link_of_ne {i j : SlotIx} (h : j ≠ i) (f : ControlFrame) (s : State) :
    (askControl i f s).links.get j = s.links.get j := by
  obtain ⟨-, e⟩ | ⟨-, e⟩ := askControl_cases i f s <;> rw [e]
  exact Table.get_modify_of_ne _ h _

theorem askControl_eventAt (i : SlotIx) (f : ControlFrame) (s : State) : EventAt i s (askControl i f s) := by
  obtain ⟨-, h⟩ | ⟨-, h⟩ := askControl_cases i f s <;> rw [h]
  · exact .updLink i _ s
  · exact .refl i s

/-- A RETIRE_NOTICE asked of a link is within what may follow (R132). -/
theorem askControl_retireNotice_follows (i j : SlotIx) (s : State) :
    LinkFollows (s.links.get j) ((askControl i .retireNotice s).links.get j) := by
  obtain rfl | hj := eq_or_ne j i
  · rw [askControl_link_self]
    split
    · next hcarries =>
      by_cases hmem : ControlFrame.retireNotice ∈ (s.links.get j).control
      · exact .inl (by simp [joinControl, hmem])
      · exact .inr ⟨hcarries, hmem, by simp [joinControl, hmem]⟩
    · exact .inl rfl
  · exact .inl (askControl_link_of_ne hj _ s)

/-! Reports of holdings (R14, R18). -/

/-- The record of a slot that enters phase CONFIRMING (R18). -/
theorem enterConfirming_get_self (i : SlotIx) (s : State) :
    (enterConfirming i s).slots.get i = { (changeState i (.retiring .confirming) s).slots.get i with
      deadlineTimer := none, ackTimer := some s.agent.ackTimeout } := by
  simp [enterConfirming, askControl_slots]

theorem enterConfirming_eventAt (i : SlotIx) (s : State) : EventAt i s (enterConfirming i s) :=
  ((changeState_eventAt i _ s).trans (askControl_eventAt i _ _)).trans
    (.updSlot (fun _ => by simp) fun _ _ hk => hk)

theorem changeState_links (i : SlotIx) (new : SlotState) (s : State) : (changeState i new s).links = s.links := by
  obtain ⟨-, h⟩ | ⟨-, a, h⟩ := changeState_cases i new s <;> rw [h]
  rfl

theorem changeState_pools (i : SlotIx) (new : SlotState) (s : State) : (changeState i new s).pools = s.pools := by
  obtain ⟨-, h⟩ | ⟨-, a, h⟩ := changeState_cases i new s <;> rw [h]
  rfl

theorem TouchesMembers.pools_eq {s t : State} : TouchesMembers s t → t.pools = s.pools := by
  rintro ⟨_, _, _, rfl⟩
  rfl

theorem RecordFollows.of_state_changed {r r' : SlotRecord}
    (h : r.state = .admitting ∧ r'.state = .inService ∨ r.state = .retiring .moving ∧ r'.state = .retiring .confirming)
    (hsettings : r'.pool = r.pool ∧ r'.weight = r.weight ∧ r'.expectedClass = r.expectedClass ∧ r'.policy = r.policy
      ∧ r'.retireDeadline = r.retireDeadline ∧ r'.rateMode = r.rateMode ∧ r'.quota = r.quota)
    (hfault : r'.lastFault = r.lastFault)
    (hprogress : r'.echoes = r.echoes ∧ r'.beaconsQualified = r.beaconsQualified) : RecordFollows r r' where
  state := .inr h
  same e := by obtain ⟨h1, h2⟩ | ⟨h1, h2⟩ := h <;> simp [h1, h2] at e
  settings := hsettings
  lastFault := hfault
  progress := hprogress

theorem enterConfirming_follows {i : SlotIx} {s : State} (h : (s.slots.get i).state = .retiring .moving) :
    Follows s (enterConfirming i s) where
  proceeds := (enterConfirming_eventAt i s).proceeds
  touches := (enterConfirming_members i s).traffic
  slots j := by
    obtain rfl | hj := eq_or_ne j i
    · rw [enterConfirming_get_self, changeState_get_self, if_neg (by simp [h])]
      exact .of_state_changed (.inr ⟨h, rfl⟩) (by simp [SlotRecord.stopTimers]) rfl (by simp [SlotRecord.stopTimers])
    · have : (enterConfirming i s).slots.get j = s.slots.get j := by
        simp [enterConfirming, Table.get_modify_of_ne _ hj, askControl_slots, changeState_get_of_ne hj]
      rw [this]
      exact .refl _
  links j := by
    have := askControl_retireNotice_follows i j (changeState i (.retiring .confirming) s)
    rwa [changeState_links] at this
  pools p := by rw [(enterConfirming_members i s).pools_eq]
  counts := (enterConfirming_eventAt i s).counts

theorem evaluateConfirmation_follows (i : SlotIx) (s : State) : Follows s (evaluateConfirmation i s) :=
  .ite (fun h => enterConfirming_follows h.1) fun _ => .refl s

theorem evaluateAdmission_follows (i : SlotIx) (s : State) : Follows s (evaluateAdmission i s) := by
  refine .ite (fun h => ?_) fun _ => .refl s
  have hevent := changeState_eventAt i .inService s
  exact {
    proceeds := hevent.proceeds
    touches := (changeState_members i _ s).traffic
    slots := fun j => by
      obtain rfl | hj := eq_or_ne j i
      · rw [changeState_get_self, if_neg (by simp [h.1])]
        exact .of_state_changed (.inl ⟨h.1, rfl⟩) (by simp [SlotRecord.stopTimers]) rfl
          (by simp [SlotRecord.stopTimers])
      · rw [changeState_get_of_ne hj]
        exact .refl _
    links := fun j => .inl (by rw [changeState_links])
    pools := fun p => by rw [changeState_pools]
    counts := hevent.counts }

theorem reportHoldings_follows (i : SlotIx) (s : State) : Follows s (reportHoldings i s) :=
  (evaluateAdmission_follows i s).trans (evaluateConfirmation_follows i _)

theorem forEach_follows {ι : Type} {f : ι → State → State} (h : ∀ i s, Follows s (f i s)) (is : List ι) (s : State) :
    Follows s (forEach f is s) :=
  forEach_relates .refl (fun _ _ _ => .trans) h is s

/-! Pools (R43–R54). -/

theorem giveBins_follows (p : PoolIx) (gifts : List (BinIx × SlotIx)) (s : State) : Follows s (giveBins p gifts s) :=
  (forEach_follows (fun _ s => .updBin p _ _ s) gifts s).trans (bumpPool_follows p _ _ _)

theorem retarget_follows (p : PoolIx) (s : State) : Follows s (retarget p s) := .updPool' (fun _ => rfl) fun _ => rfl

theorem rebuildPlan_follows (p : PoolIx) (s : State) : Follows s (rebuildPlan p s) :=
  .updPool' (fun _ => rfl) fun _ => rfl

theorem recomputeTables_follows (p : PoolIx) (s : State) : Follows s (recomputeTables p s) :=
  ((retarget_follows p s).trans (giveBins_follows p _ _)).trans (rebuildPlan_follows p _)

theorem recompute_follows (p : PoolIx) (s : State) : Follows s (recompute p s) :=
  .ite (fun _ => (recomputeTables_follows p s).trans (forEach_follows reportHoldings_follows _ _)) fun _ => .refl s

theorem adoptBins_follows (p : PoolIx) (i : SlotIx) (s : State) : Follows s (adoptBins p i s) := by
  simp only [adoptBins]
  split
  · refine Follows.trans ?_ (.updPool' (fun _ => rfl) fun _ => rfl)
    exact .updPool' (fun _ => rfl) fun _ => rfl
  · exact .updPool' (fun _ => rfl) fun _ => rfl

theorem dropStale_follows (p : PoolIx) (s : State) : Follows s (dropStale p s) := .updPool' (fun _ => rfl) fun _ => rfl

theorem gainEligibility_follows (i : SlotIx) (s : State) : Follows s (gainEligibility i s) := by
  unfold gainEligibility
  split
  · next p _ =>
    refine .ite (fun _ => ?_) fun _ => .refl s
    exact (Follows.ite (fun _ => adoptBins_follows p i s) fun _ => .refl s).trans (recompute_follows p _)
  · exact .refl s

/-! Moves (R65–R78). -/

theorem offerEgress_follows (i : SlotIx) (entry : EgressEntry) (s : State) : Follows s (offerEgress i entry s) := by
  obtain ⟨-, ⟨-, h⟩ | ⟨p, b, -, h⟩⟩ | ⟨-, h⟩ := offerEgress_cases i entry s <;> rw [h]
  · exact .setEgress i _ s
  · exact (Follows.setEgress i _ s).trans (.updBin p b _ _)
  · exact bumpSlotBy_follows (by simp [trafficCounters]) i 1 s

theorem releaseHold_follows (i : SlotIx) (p : PoolIx) (b : BinIx) (hold : List FrameBytes) (s : State) :
    Follows s (releaseHold i p b hold s) :=
  forEach_follows (fun bytes s => offerEgress_follows i ⟨bytes, some (p, b)⟩ s) hold s

theorem freeEngine_follows (e : EngineIx) (m : MoveRecord) (s : State) : Follows s (freeEngine e m s) :=
  (Follows.updBin m.pool m.bin _ s).trans (.setEngine e none _)

theorem commitMove_follows (e : EngineIx) (m : MoveRecord) (s : State) : Follows s (commitMove e m s) :=
  (((Follows.updBin m.pool m.bin _ s).trans (releaseHold_follows ..)).trans (freeEngine_follows e m _)).trans
    (bumpPool_follows ..)

theorem afterCommit_follows (m : MoveRecord) (s : State) : Follows s (afterCommit m s) :=
  .ite (fun _ => recompute_follows _ s) fun _ => (reportHoldings_follows _ s).trans (reportHoldings_follows _ _)

theorem engineCommit_follows (e : EngineIx) (m : MoveRecord) (s : State) : Follows s (engineCommit e m s) :=
  (commitMove_follows e m s).trans (afterCommit_follows m _)

theorem abortMove_follows (e : EngineIx) (m : MoveRecord) (s : State) : Follows s (abortMove e m s) :=
  ((releaseHold_follows ..).trans (freeEngine_follows e m _)).trans (bumpPool_follows ..)

theorem abortDiscard_follows (e : EngineIx) (m : MoveRecord) (s : State) : Follows s (abortDiscard e m s) :=
  ((bumpSlotBy_follows (by simp [trafficCounters]) ..).trans (freeEngine_follows e m _)).trans (bumpPool_follows ..)

theorem onMoves_follows {q : MoveRecord → Bool} {f : EngineIx → MoveRecord → State → State}
    (h : ∀ e m s, Follows s (f e m s)) (s : State) : Follows s (onMoves q f s) := by
  refine forEach_follows (fun e s => ?_) _ s
  split
  · exact .ite (fun _ => h _ _ _) fun _ => .refl s
  · exact .refl s

theorem drainEnd_follows (e : EngineIx) (m : MoveRecord) (s : State) : Follows s (drainEnd e m s) :=
  .ite (fun _ => engineCommit_follows e m s) fun _ => .setEngine e _ s

theorem lowerInflight_follows (p : PoolIx) (b : BinIx) (s : State) : Follows s (lowerInflight p b s) := by
  have h := Follows.updBin p b (fun r => { r with inflight := r.inflight - 1 }) s
  simp only [lowerInflight]
  split
  · exact h
  · split
    · exact h
    · exact .ite (fun _ => h.trans (drainEnd_follows _ _ _)) fun _ => h

theorem loseEligibility_follows (i : SlotIx) (s : State) : Follows s (loseEligibility i s) := by
  unfold loseEligibility
  split
  · exact .ite (fun _ => (onMoves_follows abortMove_follows s).trans (recompute_follows _ _)) fun _ => .refl s
  · exact .refl s

theorem disownBins_follows (p : PoolIx) (i : SlotIx) (s : State) : Follows s (disownBins p i s) :=
  .updPool' (fun _ => rfl) fun _ => rfl

theorem giveAway_follows (p : PoolIx) (i : SlotIx) (s : State) : Follows s (giveAway p i s) :=
  .ite (fun _ => disownBins_follows p i s) fun _ => giveBins_follows p _ s

theorem evacuate_follows (i : SlotIx) (s : State) : Follows s (evacuate i s) := by
  unfold evacuate
  split
  · exact .refl s
  · next p _ =>
    exact ((((onMoves_follows commitMove_follows s).trans (onMoves_follows abortMove_follows _)).trans
      (giveAway_follows p i _)).trans (rebuildPlan_follows p _)).trans (forEach_follows reportHoldings_follows _ _)

theorem releaseBins_follows (i : SlotIx) (s : State) : Follows s (releaseBins i s) := by
  unfold releaseBins
  split
  · exact .refl s
  · exact (disownBins_follows _ i s).trans (reportHoldings_follows i _)

/-! Frames that leave an egress queue (R94, R96). -/

theorem reportLeft_follows (entry : EgressEntry) (s : State) : Follows s (reportLeft entry s) := by
  unfold reportLeft
  split
  · exact lowerInflight_follows _ _ s
  · exact .refl s

theorem flushOne_follows (i : SlotIx) (entry : EgressEntry) (s : State) : Follows s (flushOne i entry s) :=
  ((Follows.setEgress i _ s).trans (bumpSlotBy_follows (by simp [trafficCounters]) i 1 _)).trans
    (reportLeft_follows entry _)

end Sys2Proof.Machine
end

section
/-! SUPPORT. The operations on one slot, its queues, its link and its lifecycle, each as an event of that slot: the others stand
but for the consequences of a change of membership. -/

namespace Sys2Proof.Machine

variable (i : SlotIx) (s : State)

/-! The queues of a slot (R96, R108–R114). -/

theorem bumpSlotBy_eventAt {c : SlotCounter} (hc : c ∈ trafficCounters) (n : Nat) : EventAt i s (bumpSlotBy i c n s) :=
  (bumpSlotBy_follows hc i n s).eventAt i

theorem sendPause_eventAt : EventAt i s (sendPause i s) :=
  ((askControl_eventAt i _ s).trans (.updUpstream i _ _)).trans (bumpSlotBy_eventAt i _ (by simp [trafficCounters]) 1)

theorem sendResume_eventAt : EventAt i s (sendResume i s) :=
  ((askControl_eventAt i _ s).trans (.updUpstream i _ _)).trans (bumpSlotBy_eventAt i _ (by simp [trafficCounters]) 1)

theorem clearLocalPause_eventAt : EventAt i s (clearLocalPause i s) := .updUpstream i _ s

theorem pauseAtArrival_eventAt : EventAt i s (pauseAtArrival i s) := by
  unfold pauseAtArrival
  split
  · exact .ite (fun _ => sendPause_eventAt i s) fun _ => .refl i s
  all_goals exact .refl i s

theorem pauseAtTxEnd_eventAt : EventAt i s (pauseAtTxEnd i s) := by
  unfold pauseAtTxEnd
  split
  · exact .ite (fun _ => sendPause_eventAt i s) fun _ => .refl i s
  · exact .ite (fun _ => sendResume_eventAt i s) fun _ => .refl i s
  · exact .refl i s

theorem pauseAtRefresh_eventAt : EventAt i s (pauseAtRefresh i s) := by
  unfold pauseAtRefresh
  split
  · exact .ite (fun _ => sendResume_eventAt i s) fun _ => sendPause_eventAt i s
  all_goals exact .refl i s

theorem pauseAtFlush_eventAt : EventAt i s (pauseAtFlush i s) := by
  unfold pauseAtFlush
  split
  · exact .refl i s
  · exact .ite (fun _ => sendResume_eventAt i s) fun _ => clearLocalPause_eventAt i s

theorem abortData_eventAt : EventAt i s (abortData i s) := .ite (fun _ => .updLink i _ s) fun _ => .refl i s

theorem flushEgress_eventAt : EventAt i s (flushEgress i s) :=
  ((abortData_eventAt i s).trans ((forEach_follows (flushOne_follows i) _ _).eventAt i)).trans
    ((evaluateConfirmation_follows i _).eventAt i)

theorem abortUpstream_eventAt : EventAt i s (abortUpstream i s) := .ite (fun _ => .coreTx i .idle s) fun _ => .refl i s

theorem flushUpstream_eventAt : EventAt i s (flushUpstream i s) :=
  (((abortUpstream_eventAt i s).trans (.updUpstream i _ _)).trans
    (bumpSlotBy_eventAt i _ (by simp [trafficCounters]) _)).trans (pauseAtFlush_eventAt i _)

theorem flushQueues_eventAt : EventAt i s (flushQueues i s) :=
  (flushEgress_eventAt i s).trans (flushUpstream_eventAt i _)

/-! The link of a slot (R121–R126). -/

theorem cutReception_eventAt : EventAt i s (cutReception i s) := by
  unfold cutReception
  split
  · exact .refl i s
  · next stored _ =>
    exact (EventAt.updLink i _ s).trans (bumpSlotBy_eventAt i _ (by cases stored <;> simp [trafficCounters]) 1)

theorem reportLeftUp_eventAt : EventAt i s (reportLeftUp i s) :=
  (EventAt.updMonitor i _ s).trans (clearLocalPause_eventAt i _)

theorem dropLink_eventAt : EventAt i s (dropLink i s) := by
  unfold dropLink
  split
  · exact ((cutReception_eventAt i s).trans (.updLink i _ _)).trans (reportLeftUp_eventAt i _)
  · exact cutReception_eventAt i s
  all_goals exact .refl i s

theorem linkTrain_eventAt : EventAt i s (linkTrain i s) := (dropLink_eventAt i s).trans (.updLink i _ _)

theorem linkGoDark_eventAt : EventAt i s (linkGoDark i s) := by
  unfold linkGoDark
  split
  · exact .refl i s
  all_goals exact (dropLink_eventAt i s).trans (.updLink i _ _)

theorem linkPark_eventAt : EventAt i s (linkPark i s) := by
  unfold linkPark
  split
  · exact .refl i s
  · exact .refl i s
  · exact linkGoDark_eventAt i s
  · exact (EventAt.updLink i _ s).trans (reportLeftUp_eventAt i _)

theorem linkResume_eventAt : EventAt i s (linkResume i s) := by
  unfold linkResume
  split
  · exact linkTrain_eventAt i s
  · exact .refl i s
  · exact .refl i s
  · exact (EventAt.updLink i _ s).trans (.updMonitor i _ _)

/-! The lifecycle of a slot (chapter 1). -/

theorem depart_eventAt (old : SlotState) : EventAt i s (depart i old s) := by
  have h : EventAt i s (if old.eligible then loseEligibility i s else s) :=
    .ite (fun _ => (loseEligibility_follows i s).eventAt i) fun _ => .refl i s
  exact (h.trans (.ite (fun _ => (evacuate_follows i _).eventAt i) fun _ => .refl i _)).trans (flushQueues_eventAt i _)

theorem enterFaulted_eventAt (cause : FaultCause) : EventAt i s (enterFaulted i cause s) := by
  refine .trans ?_ (depart_eventAt i _ _)
  refine .trans ?_ (linkGoDark_eventAt i _)
  refine .trans ?_ (raiseFlag_eventAt i .fault _)
  refine (changeState_eventAt i .faulted s).trans ?_
  exact .updSlot (fun _ => by simp [SlotRecord.stopTimers]) fun _ _ hk => hk

theorem seat_eventAt : EventAt i s (seat i s) :=
  ((changeState_eventAt i .seated s).trans
    (.ite (fun _ => .refl i _) fun _ => raiseFlag_eventAt i .handleOpened _)).trans (linkTrain_eventAt i _)

theorem seatIfReady_eventAt : EventAt i s (seatIfReady i s) := .ite (fun _ => seat_eventAt i s) fun _ => .refl i s

theorem clearProgress_eventAt : EventAt i s (clearProgress i s) := .updSlot (fun _ => by simp) fun _ _ hk => hk

theorem forEach_askControl_eventAt {ι : Type} (f : ι → ControlFrame) (is : List ι) :
    EventAt i s (forEach (fun n => askControl i (f n)) is s) :=
  forEach_relates (.refl i) (fun _ _ _ => .trans) (fun n s => askControl_eventAt i (f n) s) is s

theorem beginProbing_eventAt : EventAt i s (beginProbing i s) := by
  refine .trans ?_ (forEach_askControl_eventAt i _ _ _)
  refine .trans ?_ (.updMonitor i _ _)
  exact .updSlot (fun _ => by simp) fun _ _ hk => hk

theorem checkClass_eventAt : EventAt i s (checkClass i s) :=
  .ite (fun _ => (clearProgress_eventAt i s).trans (beginProbing_eventAt i _)) fun _ =>
    (clearProgress_eventAt i s).trans (enterFaulted_eventAt i _ _)

theorem enterProbingFromSeated_eventAt : EventAt i s (enterProbingFromSeated i s) :=
  (changeState_eventAt i .probing s).trans (checkClass_eventAt i _)

theorem enterProbingFromDrained_eventAt {flag : State → State} (hf : ∀ s, EventAt i s (flag s)) :
    EventAt i s (enterProbingFromDrained i flag s) :=
  (((changeState_eventAt i .probing s).trans (hf _)).trans (linkResume_eventAt i _)).trans (checkClass_eventAt i _)

theorem admitToPool_eventAt : EventAt i s (admitToPool i s) :=
  (((changeState_eventAt i .admitting s).trans (askControl_eventAt i _ _)).trans
    ((gainEligibility_follows i _).eventAt i)).trans ((evaluateAdmission_follows i _).eventAt i)

theorem completeQualification_eventAt : EventAt i s (completeQualification i s) :=
  .ite (fun _ => admitToPool_eventAt i s) fun _ => changeState_eventAt i .standby s

theorem evaluateQualification_eventAt : EventAt i s (evaluateQualification i s) :=
  .ite (fun _ => completeQualification_eventAt i s) fun _ => .refl i s

theorem qualificationReported_eventAt : EventAt i s (qualificationReported i s) := by
  refine .ite (fun _ => ?_) fun _ => .refl i s
  refine .trans ?_ (evaluateQualification_eventAt i _)
  exact .updSlot (fun _ => by simp) fun _ _ hk => hk

theorem enterRetiring_eventAt {flags release : State → State} (hf : ∀ s, EventAt i s (flags s))
    (hr : ∀ s, EventAt i s (release s)) : EventAt i s (enterRetiring i flags release s) := by
  refine .trans ?_ ((evaluateConfirmation_follows i _).eventAt i)
  refine .trans ?_ (hr _)
  refine .trans ?_ ((loseEligibility_follows i _).eventAt i)
  refine ((changeState_eventAt i (.retiring .moving) s).trans (hf _)).trans ?_
  exact .updSlot (fun _ => by simp) fun _ _ hk => hk

theorem retireAutomatically_eventAt {flags : State → State} (hf : ∀ s, EventAt i s (flags s)) :
    EventAt i s (retireAutomatically i flags s) := by
  unfold retireAutomatically
  refine enterRetiring_eventAt i s (fun s => ?_) fun s => .refl i s
  exact .ite (fun _ => (hf s).trans (raiseFlag_eventAt i _ _)) fun _ => hf s

theorem enterDrained_eventAt {flags : State → State} (hf : ∀ s, EventAt i s (flags s)) :
    EventAt i s (enterDrained i flags s) :=
  ((changeState_eventAt i .drained s).trans (hf _)).trans (linkPark_eventAt i _)

theorem presenceLost_eventAt : EventAt i s (presenceLost i s) := by
  refine .ite (fun _ => .refl i s) fun _ => ?_
  exact (((changeState_eventAt i .empty s).trans
    (.ite (fun _ => raiseFlag_eventAt i .surpriseRemoval _) fun _ => .refl i _)).trans (linkGoDark_eventAt i _)).trans
    (depart_eventAt i _ _)

theorem powerLost_eventAt : EventAt i s (powerLost i s) :=
  .ite (fun _ => .refl i s) fun _ => enterFaulted_eventAt i s .powerLost

theorem handleOpened_eventAt : EventAt i s (handleOpened i s) :=
  .ite (fun _ => .refl i s) fun _ => .ite (fun _ => retireAutomatically_eventAt i s (raiseFlag_eventAt i .handleOpened))
    fun _ => raiseFlag_eventAt i .handleOpened s

theorem handleClosed_eventAt : EventAt i s (handleClosed i s) := by
  unfold handleClosed
  split
  · exact .refl i s
  · exact enterProbingFromDrained_eventAt i s (raiseFlag_eventAt i .handleClosed)
  all_goals exact raiseFlag_eventAt i .handleClosed s

theorem deliver_eventAt (d : Delivery) : EventAt i s (deliver i d s) := by
  obtain ⟨presence, power, handle⟩ := d
  have hpresence : EventAt i s (deliver i ⟨presence, none, none⟩ s) := by
    cases presence with
    | none => exact .refl i s
    | some present => cases present <;> [exact presenceLost_eventAt i s; exact seatIfReady_eventAt i s]
  have hpower (s : State) : EventAt i s (deliver i ⟨none, power, none⟩ s) := by
    cases power with
    | none => exact .refl i s
    | some good => cases good <;> [exact powerLost_eventAt i s; exact seatIfReady_eventAt i s]
  have hhandle (s : State) : EventAt i s (deliver i ⟨none, none, handle⟩ s) := by
    cases handle with
    | none => exact .refl i s
    | some closed => cases closed <;> [exact handleOpened_eventAt i s; exact handleClosed_eventAt i s]
  exact (hpresence.trans (hpower _)).trans (hhandle _)

theorem lockLossReported_eventAt : EventAt i s (lockLossReported i s) := by
  unfold lockLossReported
  split
  any_goals exact enterFaulted_eventAt i s .linkLost
  · exact enterDrained_eventAt i s fun s => .refl i s
  all_goals exact .refl i s

theorem alarmReported_eventAt : EventAt i s (alarmReported i s) :=
  .ite (fun _ => enterFaulted_eventAt i s .beaconAlarm) fun _ =>
    .ite (fun _ => retireAutomatically_eventAt i s fun s => .refl i s) fun _ => .refl i s

theorem linkUpReported_eventAt : EventAt i s (linkUpReported i s) :=
  .ite (fun _ => enterProbingFromSeated_eventAt i s) fun _ => .refl i s

theorem trainingFailed_eventAt : EventAt i s (trainingFailed i s) :=
  .ite (fun _ => enterFaulted_eventAt i s .trainTimeout) fun _ => .refl i s

theorem deadlinePasses_eventAt : EventAt i s (deadlinePasses i s) := by
  unfold deadlinePasses
  have h : EventAt i s (s.updSlot i fun r => { r with deadlineTimer := none }) :=
    .updSlot (fun _ => by simp) fun _ _ hk => hk
  exact .ite (fun _ => (h.trans ((evacuate_follows i _).eventAt i)).trans (flushEgress_eventAt i _)) fun _ =>
    h.trans (raiseFlag_eventAt i .deadlinePassed _)

theorem reseat_eventAt : EventAt i s (reseat i s) := (changeState_eventAt i .seated s).trans (linkTrain_eventAt i _)

theorem fenceSlot_eventAt : EventAt i s (fenceSlot i s) :=
  ((changeState_eventAt i .fenced s).trans (linkPark_eventAt i _)).trans (depart_eventAt i _ _)

theorem resetSlot_eventAt : EventAt i s (resetSlot i s) := by
  refine .trans ?_ (linkTrain_eventAt i _)
  refine .trans ?_ (.updMonitor i _ _)
  refine .trans ?_ (depart_eventAt i _ _)
  refine (changeState_eventAt i .seated s).trans ?_
  exact .updSlot (fun _ => by simp [SlotRecord.stopTimers]) fun _ _ hk => hk

end Sys2Proof.Machine
end

section
/-! SUPPORT. Reception at the two kinds of port: the start of a reception, the frame checks in terms of what they forbid, and
the steering and delivery of frames that pass on the core link. O3, O4, O5, O6, O8, O9 and O10 are settled here. -/

namespace Sys2Proof.Machine

variable {s : State} {i : SlotIx} {bytes : FrameBytes} {info : FrameInfo}

/-! The end of a reception (R87, R126). -/

theorem exec_coreRxEnd_unstored (how : FrameEnd) (bytes : FrameBytes) (h : s.core.rx = some false) :
    exec (.coreRxEnd how bytes) s = .next (bumpCore .noBuffer { s with core := { s.core with rx := none } }) :=
  by
  simp [exec, execCoreRxEnd, h, State.updCore]

theorem exec_coreRxEnd_stored (how : FrameEnd) (bytes : FrameBytes) (h : s.core.rx = some true) :
    exec (.coreRxEnd how bytes) s = .next (coreFrameEnds how bytes { s with core := { s.core with rx := none } }) :=
  by
  simp [exec, execCoreRxEnd, h, State.updCore]

theorem exec_slotRxEnd_unstored (how : FrameEnd) (bytes : FrameBytes) (h : (s.links.get i).rx = some false) :
    exec (.slotRxEnd i how bytes) s = .next (bumpSlot i .noBuffer (slotReceived s i)) :=
  by
  simp [exec, execSlotRxEnd, h, slotReceived]

theorem exec_slotRxEnd_stored (how : FrameEnd) (bytes : FrameBytes) (h : (s.links.get i).rx = some true) :
    exec (.slotRxEnd i how bytes) s = .next (slotFrameEnds i how bytes (slotReceived s i)) :=
  by
  simp [exec, execSlotRxEnd, h, slotReceived]

theorem exec_coreRxEnd_error {err : CheckError} (h : s.core.rx = some true) (hc : checkFrame bytes = .error err) :
    exec (.coreRxEnd .normal bytes) s
      = .next (bumpCore (coreCheckCounter err) { s with core := { s.core with rx := none } }) := by
  rw [exec_coreRxEnd_stored _ _ h]
  simp [coreFrameEnds, hc]

theorem exec_slotRxEnd_error {err : CheckError} (h : (s.links.get i).rx = some true)
    (hc : checkFrame bytes = .error err) :
    exec (.slotRxEnd i .normal bytes) s = .next (bumpSlot i (slotCheckCounter err) (slotReceived s i)) := by
  rw [exec_slotRxEnd_stored _ _ h]
  simp [slotFrameEnds, hc]

/-- A core frame that passes its checks is counted and classified (R88, R89). -/
theorem exec_coreRxEnd_passed (h : CoreFrame s bytes info) :
    exec (.coreRxEnd .normal bytes) s = .next (classify info bytes (coreReceived s)) := by
  rw [exec_coreRxEnd_stored _ _ h.1]
  simp [coreFrameEnds, h.2, coreReceived]

/-- A slot frame that passes its checks is sorted (R88, R104). -/
theorem exec_slotRxEnd_passed (h : SlotFrame s i bytes info) :
    exec (.slotRxEnd i .normal bytes) s = .next (sortFrame i info bytes (slotReceived s i)) := by
  rw [exec_slotRxEnd_stored _ _ h.1]
  simp [slotFrameEnds, h.2]

/-- Settles O4: by the two ends of a reception. -/
theorem unstoredAndAbortedFramesAreOnlyCounted : Obligations.UnstoredAndAbortedFramesAreOnlyCounted :=
  ⟨fun _ how bytes h => exec_coreRxEnd_unstored how bytes h, fun _ bytes h => exec_coreRxEnd_stored .aborted bytes h,
    fun _ _ how bytes h => exec_slotRxEnd_unstored how bytes h, fun _ _ bytes h => exec_slotRxEnd_stored .aborted bytes h⟩

/-- Settles O3: an idle receiver, and a link that receives, take a cell by the one rule `takesCell`. -/
theorem receptionStartTakesAFreeCell : Obligations.ReceptionStartTakesAFreeCell := by
  refine ⟨fun s h => ?_, fun s i hlock hrx hstate => ?_⟩
  · simp only [exec, execCoreRxStart, h, State.updCore]
    rfl
  · have hreceives : (s.links.get i).receives = true := by
      obtain h | ⟨h, hlost⟩ := hstate <;> simp [LinkRecord.receives, LinkRecord.carries, *]
    simp only [exec, execSlotRxStart, hreceives, hrx, and_self, if_true]
    rfl

/-! The frame checks, each by what it forbids (R88). -/

theorem sum8_toNat (bs : List Byte) : (sum8 bs).toNat = (bs.map BitVec.toNat).sum % 256 := by
  have general (acc : Byte) : (bs.foldl (· + ·) acc).toNat = (acc.toNat + (bs.map BitVec.toNat).sum) % 256 := by
    induction bs generalizing acc with
    | nil => simp [Nat.mod_eq_of_lt acc.isLt]
    | cons b bs ih => simp [ih, Nat.add_assoc]
  simpa [sum8] using general 0

theorem sum8_eq_255_iff (bs : List Byte) : sum8 bs = 255 ↔ (bs.map BitVec.toNat).sum % 256 = 255 := by
  rw [← sum8_toNat, ← BitVec.toNat_inj]
  rfl

theorem kindOf_eq_none_iff (code : Nat) : kindOf code = none ↔ ¬ (1 ≤ code ∧ code ≤ 4) := by
  unfold kindOf
  split
  case h_5 h1 h2 h3 h4 =>
    refine iff_of_true rfl fun ⟨hlow, hhigh⟩ => ?_
    interval_cases code <;> contradiction
  all_goals simp

theorem kindCode_of_kindOf {code : Nat} {kind : FrameKind} (h : kindOf code = some kind) : kindCode kind = code := by
  unfold kindOf at h
  split at h <;> cases h <;> rfl

theorem checkFrame_badLength (h : badLength bytes) : checkFrame bytes = .error .length := by
  unfold checkFrame
  obtain h | h := h
  · rw [if_pos (show Config.largestFrame < bytes.length from h)]
  · simp [h]

/-- Past the length checks, a header without a kind fails. -/
theorem checkFrame_of_no_kind (h : ¬ badLength bytes) (hkind : kindOf ((byteAt bytes 0).toNat / 16) = none) :
    checkFrame bytes = .error .header := by
  obtain ⟨hlong, hshort⟩ := not_or.mp h
  unfold checkFrame
  rw [if_neg (show ¬ Config.largestFrame < bytes.length from hlong), if_neg hshort]
  simp [hkind]

/-- Past the length checks and with a kind, the header decides, then the CRC, then the length field. -/
theorem checkFrame_of_kind {kind : FrameKind} (h : ¬ badLength bytes)
    (hkind : kindOf ((byteAt bytes 0).toNat / 16) = some kind) :
    checkFrame bytes =
      if sum8 (bytes.take 10) ≠ 255 ∨ (byteAt bytes 0).toNat % 16 ≠ 1 then .error .header
      else if bytes32 (crc32 (bytes.take (bytes.length - 4))) ≠ bytes.drop (bytes.length - 4) then .error .crc
      else if (byteAt bytes 8).toNat * 256 + (byteAt bytes 9).toNat ≠ bytes.length - 14 then .error .length
      else .ok ⟨kind, byteAt bytes 1, flowKeyOf bytes, (bytes.drop 10).take (bytes.length - 14)⟩ := by
  obtain ⟨hlong, hshort⟩ := not_or.mp h
  unfold checkFrame
  rw [if_neg (show ¬ Config.largestFrame < bytes.length from hlong), if_neg hshort]
  simp only [hkind]

theorem checkFrame_badHeader (h : ¬ badLength bytes) (hh : badHeader bytes) : checkFrame bytes = .error .header := by
  cases hkind : kindOf ((byteAt bytes 0).toNat / 16) with
  | none => exact checkFrame_of_no_kind h hkind
  | some kind =>
    rw [checkFrame_of_kind h hkind]
    refine if_pos ?_
    obtain hsum | hversion | hcode := hh
    · exact .inl (mt (sum8_eq_255_iff _).mp hsum)
    · exact .inr hversion
    · have hnone := (kindOf_eq_none_iff ((byteAt bytes 0).toNat / 16)).mpr hcode
      simp [hnone] at hkind

/-- A header that passes has a kind, and its sum and version are right. -/
theorem header_passes (hh : ¬ badHeader bytes) : (∃ kind, kindOf ((byteAt bytes 0).toNat / 16) = some kind)
    ∧ ¬ (sum8 (bytes.take 10) ≠ 255 ∨ (byteAt bytes 0).toNat % 16 ≠ 1) := by
  obtain ⟨hsum, hversion, hcode⟩ := by
    rwa [badHeader, not_or, not_or, not_not, not_not, not_not] at hh
  refine ⟨Option.ne_none_iff_exists'.mp fun e => (kindOf_eq_none_iff _).mp e hcode, not_or.mpr ⟨?_, ?_⟩⟩
  · exact not_not.mpr ((sum8_eq_255_iff _).mpr hsum)
  · exact not_not.mpr hversion

theorem checkFrame_badCrc (h : ¬ badLength bytes) (hh : ¬ badHeader bytes) (hc : badCrc bytes) :
    checkFrame bytes = .error .crc := by
  obtain ⟨⟨kind, hkind⟩, hhead⟩ := header_passes hh
  rw [checkFrame_of_kind h hkind, if_neg hhead]
  exact if_pos (Ne.symm hc)

theorem checkFrame_badPayloadLength (h : ¬ badLength bytes) (hh : ¬ badHeader bytes) (hc : ¬ badCrc bytes)
    (hp : badPayloadLength bytes) : checkFrame bytes = .error .length := by
  obtain ⟨⟨kind, hkind⟩, hhead⟩ := header_passes hh
  obtain ⟨-, hshort⟩ := not_or.mp h
  have hlen : (byteAt bytes 8).toNat * 256 + (byteAt bytes 9).toNat ≠ bytes.length - 14 := fun e =>
    hp ((eq_tsub_iff_add_eq_of_le (not_lt.mp hshort)).mp e)
  rw [checkFrame_of_kind h hkind, if_neg hhead, if_neg (not_not.mpr (not_not.mp hc).symm)]
  exact if_pos hlen

theorem checkFrame_passes (h : ¬ badLength bytes) (hh : ¬ badHeader bytes) (hc : ¬ badCrc bytes)
    (hp : ¬ badPayloadLength bytes) : ∃ kind, kindOf ((byteAt bytes 0).toNat / 16) = some kind
      ∧ checkFrame bytes = .ok ⟨kind, byteAt bytes 1, flowKeyOf bytes, (bytes.drop 10).take (bytes.length - 14)⟩ := by
  obtain ⟨⟨kind, hkind⟩, hhead⟩ := header_passes hh
  have hlen : (byteAt bytes 8).toNat * 256 + (byteAt bytes 9).toNat + 14 = bytes.length := not_not.mp hp
  obtain ⟨-, hshort⟩ := not_or.mp h
  refine ⟨kind, hkind, ?_⟩
  rw [checkFrame_of_kind h hkind, if_neg hhead, if_neg (not_not.mpr (not_not.mp hc).symm)]
  exact if_neg (by omega)

/-- Settles O5: each check of `checkFrame`, in its order, is the predicate that the statement names. -/
theorem frameChecksAreMadeInOrder : Obligations.FrameChecksAreMadeInOrder := by
  refine ⟨fun s bytes hrx => ⟨fun h => ?_, fun h hh => ?_, fun h hh hc => ?_, fun h hh hc hp => ?_⟩,
    fun s i bytes hrx => ⟨fun h => ?_, fun h hh => ?_, fun h hh hc => ?_, fun h hh hc hp => ?_⟩,
    fun bytes h hh hc hp => ?_⟩
  · exact exec_coreRxEnd_error hrx (checkFrame_badLength h)
  · exact exec_coreRxEnd_error hrx (checkFrame_badHeader h hh)
  · exact exec_coreRxEnd_error hrx (checkFrame_badCrc h hh hc)
  · exact exec_coreRxEnd_error hrx (checkFrame_badPayloadLength h hh hc hp)
  · exact exec_slotRxEnd_error hrx (checkFrame_badLength h)
  · exact exec_slotRxEnd_error hrx (checkFrame_badHeader h hh)
  · exact exec_slotRxEnd_error hrx (checkFrame_badCrc h hh hc)
  · exact exec_slotRxEnd_error hrx (checkFrame_badPayloadLength h hh hc hp)
  · obtain ⟨kind, hkind, hpass⟩ := checkFrame_passes h hh hc hp
    exact ⟨_, hpass, kindCode_of_kindOf hkind, rfl, rfl, rfl⟩


/-! Classification on the core link (R89–R92). -/

theorem poolOf_of_toNat {b : Byte} {p : PoolIx} (h : b.toNat = p.val) : poolOf b = some p := by
  have := p.isLt
  simp [poolOf, h]

theorem slotOf_of_toNat {b : Byte} {i : SlotIx} (h : b.toNat = i.val + 1) : slotOf b = some i := by
  have := i.isLt
  simp [slotOf, h]

theorem classify_dataPool {p : PoolIx} (hkind : info.kind = .dataPool) (htarget : info.target.toNat = p.val) :
    classify info bytes s = steer p info.flowKey bytes s := by
  simp [classify, hkind, poolOf_of_toNat htarget]

theorem classify_dataSlot (hkind : info.kind = .dataSlot) (htarget : info.target.toNat = i.val + 1) :
    classify info bytes s = deliverToSlot i bytes s := by
  simp [classify, hkind, slotOf_of_toNat htarget]

/-- A slot frame offered to an egress queue with room (R93). -/
theorem offerEgress_unsteered (h : (s.egress.get i).length < 256) :
    offerEgress i ⟨bytes, none⟩ s = s.setEgress i (s.egress.get i ++ [⟨bytes, none⟩]) :=
  if_pos (show (s.egress.get i).length < Config.egressCapacity from h)

/-- A steered frame offered to an egress queue with room (R93). -/
theorem offerEgress_steered (p : PoolIx) (b : BinIx) (h : (s.egress.get i).length < 256) :
    offerEgress i ⟨bytes, some (p, b)⟩ s = (s.setEgress i (s.egress.get i ++ [⟨bytes, some (p, b)⟩])).updBin p b
      fun r => { r with inflight := r.inflight + 1 } :=
  if_pos (show (s.egress.get i).length < Config.egressCapacity from h)

theorem offerEgress_full (entry : EgressEntry) (h : 256 ≤ (s.egress.get i).length) :
    offerEgress i entry s = bumpSlot i .egressFull s :=
  if_neg (Nat.not_lt.mpr h)

theorem steer_disabled (p : PoolIx) (key : BitVec 32) (h : (s.pools.get p).enabled = false) :
    steer p key bytes s = bumpPool p .poolDisabled 1 s := by
  simp [steer, h]

section Steering

variable {p : PoolIx} {key : BitVec 32} {b : BinIx}

theorem steer_unowned (h : (s.pools.get p).enabled = true) (hb : binOf key (s.pools.get p).salt = b)
    (ho : ((s.pools.get p).bins.get b).owner = .unowned) : steer p key bytes s = bumpPool p .poolDark 1 s := by
  simp [steer, h, hb, ho]

theorem steer_stale (h : (s.pools.get p).enabled = true) (hb : binOf key (s.pools.get p).salt = b)
    (ho : ((s.pools.get p).bins.get b).owner = .stale i) : steer p key bytes s = bumpPool p .poolDark 1 s := by
  simp [steer, h, hb, ho]

theorem steer_owned (h : (s.pools.get p).enabled = true) (hb : binOf key (s.pools.get p).salt = b)
    (ho : ((s.pools.get p).bins.get b).owner = .owned i) (he : ((s.pools.get p).bins.get b).engine = none) :
    steer p key bytes s = offerEgress i ⟨bytes, some (p, b)⟩ s := by
  simp [steer, h, hb, ho, he]

theorem steer_moving {e : EngineIx} {m : MoveRecord} (h : (s.pools.get p).enabled = true)
    (hb : binOf key (s.pools.get p).salt = b) (ho : ((s.pools.get p).bins.get b).owner = .owned i)
    (he : ((s.pools.get p).bins.get b).engine = some e) (hm : s.engines.get e = some m) :
    steer p key bytes s = steerToEngine e m bytes s := by
  simp [steer, h, hb, ho, he, hm]

end Steering

/-- Settles O6: by what the bin's owner and engine are, the steering of a frame is one operation. -/
theorem poolFramesFollowTheBinTable : Obligations.PoolFramesFollowTheBinTable := by
  intro s bytes info p hframe hkind htarget b t
  rw [exec_coreRxEnd_passed hframe, classify_dataPool hkind htarget]
  refine ⟨fun h => ?_, fun h ho => ?_, fun i h ho => ?_, fun i h ho he => ⟨fun hroom => ?_, fun hfull => ?_⟩⟩
  · rw [steer_disabled (s := coreReceived s) p _ h]
  · rw [steer_unowned (s := coreReceived s) h rfl ho]
  · rw [steer_stale (s := coreReceived s) h rfl ho]
  · rw [steer_owned (s := coreReceived s) h rfl ho he, offerEgress_steered (s := coreReceived s) _ _ hroom]
    rfl
  · rw [steer_owned (s := coreReceived s) h rfl ho he, offerEgress_full (s := coreReceived s) _ hfull]

/-- Settles O8: the states that deliver are those that the statement lists. -/
theorem slotFramesFollowTheSlotState : Obligations.SlotFramesFollowTheSlotState := by
  intro s bytes info i hframe hkind htarget
  rw [exec_coreRxEnd_passed hframe, classify_dataSlot hkind htarget]
  have hslots : (coreReceived s).slots = s.slots := rfl
  refine ⟨fun hstate => ?_, fun hstate => ?_⟩
  · have hdelivers : (s.slots.get i).state.delivers = true := by
      generalize (s.slots.get i).state = state at hstate ⊢
      revert state
      simp [SlotState.delivers]
    rw [deliverToSlot, hslots, if_pos hdelivers]
    refine ⟨fun hroom => ?_, fun hfull => ?_⟩
    · rw [offerEgress_unsteered (s := coreReceived s) hroom]
      rfl
    · rw [offerEgress_full (s := coreReceived s) _ hfull]
  · have hdrops : (s.slots.get i).state.delivers = false := by
      generalize (s.slots.get i).state = state at hstate ⊢
      revert state
      simp [SlotState.delivers]
    rw [deliverToSlot, hslots, if_neg (by simp [hdrops])]

/-- Settles O9: the entry of a request is cut from its payload at 240 bytes. -/
theorem requestsAreHandedOffAndBadTargetsDropped : Obligations.RequestsAreHandedOffAndBadTargetsDropped := by
  intro s bytes info hframe
  rw [exec_coreRxEnd_passed hframe]
  have hagent : (coreReceived s).agent = s.agent := rfl
  refine ⟨fun hkind htarget => ?_, fun hkind htarget => ?_, fun hkind => ?_, fun hkind htarget => ?_,
    fun hkind htarget => ?_⟩
  · have hclassify : classify info bytes (coreReceived s) = handOff bytes info.payload (coreReceived s) := by
      simp [classify, hkind, htarget]
    rw [hclassify, handOff, hagent]
    refine ⟨fun hroom => ⟨queuedRequest bytes info.payload, by rw [if_pos (show s.agent.requests.length < Config.requestCapacity from hroom)],
      rfl, fun h => ?_, fun h => ?_, ?_, rfl, ?_⟩, fun hfull => ?_⟩
    · cases hp : info.payload with
      | nil => simp [hp] at h
      | cons tag rest => simp [queuedRequest, entryOf, Config.requestPayloadLimit]
    · simp [queuedRequest, entryOf, h]
    · simp [queuedRequest, entryOf, Config.requestPayloadLimit]
    · exact decide_eq_true_iff
    · rw [if_neg (show ¬ s.agent.requests.length < Config.requestCapacity from Nat.not_lt.mpr hfull)]
  · simp only [classify, hkind, if_neg htarget]
  · simp [classify, hkind]
  · have hpool : poolOf info.target = none := dif_neg (by omega)
    simp [classify, hkind, hpool]
  · have hslot : slotOf info.target = none := dif_neg (by omega)
    simp [classify, hkind, hslot]

/-! The folded key (R41). -/

/-- The byte at position `n` of four bytes in a row. -/
theorem getLsbD_four_bytes (k3 k2 k1 k0 : Byte) (n : Nat) :
    (k3 ++ k2 ++ k1 ++ k0).getLsbD n = if n < 8 then k0.getLsbD n else if n < 16 then k1.getLsbD (n - 8)
      else if n < 24 then k2.getLsbD (n - 16) else k3.getLsbD (n - 24) := by
  rw [BitVec.getLsbD_append, BitVec.getLsbD_append, BitVec.getLsbD_append, Nat.sub_sub, Nat.sub_sub]
  grind

theorem foldKey_bytes (k3 k2 k1 k0 salt : Byte) :
    foldKey (k3 ++ k2 ++ k1 ++ k0) salt = k3 ^^^ k2 ^^^ k1 ^^^ k0 ^^^ salt := by
  refine BitVec.eq_of_getLsbD_eq fun n hn => ?_
  have hbits := getLsbD_four_bytes k3 k2 k1 k0
  simp only [foldKey, BitVec.getLsbD_xor, BitVec.getLsbD_extractLsb', hbits]
  have h3 : ¬ 24 + n < 8 ∧ ¬ 24 + n < 16 := by omega
  have h2 : ¬ 16 + n < 8 ∧ 16 + n < 24 := by omega
  have h1 : 8 + n < 16 := by omega
  simp [hn, h3, h2, h1]

/-- The bin of a folded key `v`. -/
abbrev binOfFold (v : Nat) : Nat := (v % 64) ^^^ (v / 64)

theorem binOf_val (key : BitVec 32) (salt : Byte) : (binOf key salt).val = binOfFold (foldKey key salt).toNat := rfl

/-- Every bin is that of four of the 256 folded keys. -/
theorem four_folds_each : ∀ b : BinIx, ((List.range 256).filter fun v => binOfFold v = b.val).length = 4 := by
  decide +kernel

/-- An exclusive-or with one byte permutes the bytes. -/
theorem xor_permutes (x : Byte) :
    ((List.range 256).map fun n => (x ^^^ BitVec.ofNat 8 n).toNat).Perm (List.range 256) := by
  refine (List.perm_ext_iff_of_nodup ?_ List.nodup_range).mpr fun v => ?_
  · refine List.Nodup.map_on (fun n hn m hm h => ?_) List.nodup_range
    have hxor := (BitVec.xor_right_inj x).mp (BitVec.eq_of_toNat_eq h)
    have hnat := congrArg BitVec.toNat hxor
    rw [List.mem_range] at hn hm
    simpa [Nat.mod_eq_of_lt hn, Nat.mod_eq_of_lt hm] using hnat
  · simp only [List.mem_map, List.mem_range]
    refine ⟨fun ⟨n, _, h⟩ => h ▸ BitVec.isLt _, fun hv => ⟨(x ^^^ BitVec.ofNat 8 v).toNat, BitVec.isLt _, ?_⟩⟩
    simp [Nat.mod_eq_of_lt hv]

/-- Settles O10: with the other bytes fixed, the last key byte runs through the folded keys, of which each bin has four. -/
theorem binsAreChosenByTheFoldedKey : Obligations.BinsAreChosenByTheFoldedKey := by
  refine ⟨fun k3 k2 k1 k0 salt => by rw [binOf_val, foldKey_bytes], fun k3 k2 k1 salt b => ?_⟩
  have hfold (n : Nat) : binOf (k3 ++ k2 ++ k1 ++ BitVec.ofNat 8 n) salt = b
      ↔ binOfFold ((k3 ^^^ k2 ^^^ k1 ^^^ salt) ^^^ BitVec.ofNat 8 n).toNat = b.val := by
    rw [Fin.ext_iff, binOf_val, foldKey_bytes, BitVec.xor_assoc _ salt, BitVec.xor_comm salt, ← BitVec.xor_assoc]
  simp only [hfold]
  have hcount := (xor_permutes (k3 ^^^ k2 ^^^ k1 ^^^ salt)).filter (fun v => binOfFold v = b.val)
  rw [List.filter_map] at hcount
  rw [← four_folds_each b, ← hcount.length_eq, List.length_map]
  rfl

end Sys2Proof.Machine
end

section
/-! SUPPORT. The upstream side of a slot: the PAUSE frames it asks for (R108–R111), the admission of its frames (R105–R109)
and their end on the core link (R113), and the link control frames that lifecycle does not take (R129–R131). O12, O17, O18,
O27 and O28 are settled here. -/

namespace Sys2Proof.Machine

variable {s : State} {i : SlotIx} {bytes : FrameBytes} {info : FrameInfo}

theorem carries_of_up (hup : (s.links.get i).state = .up) (hlost : (s.links.get i).lost = false) :
    (s.links.get i).carries = true := by
  simp [LinkRecord.carries, hup, hlost]

/-! PAUSE frames asked for (R108–R110). -/

theorem pause_mem_joinControl (time : Nat) (list : List ControlFrame) : .pause time ∈ joinControl (.pause time) list := by
  simp only [joinControl]
  split
  · next h =>
    obtain ⟨g, hg, hpause⟩ := List.any_eq_true.mp h
    exact List.mem_map.mpr ⟨g, hg, if_pos hpause⟩
  · simp

/-- What a PAUSE asked for leaves: the timer of the local pause as given, the frame on the list of a link that carries
frames, and PAUSE_SENT raised. -/
structure SendsPause (i : SlotIx) (time : Nat) (timer : Timer) (s t : State) : Prop where
  upstream : t.upstream.get i = ⟨(s.upstream.get i).queue, timer⟩
  asked : (s.links.get i).carries = true → .pause time ∈ (t.links.get i).control
  counts : ∀ j c, t.slotCount j c
    = if j = i ∧ c = .pauseSent then counterAdd (s.slotCount j c) 1 else s.slotCount j c
  others : OthersStand i s t
  frame : t = { s with upstream := t.upstream, links := t.links, slotCounters := t.slotCounters }

theorem askControl_sends_pause (i : SlotIx) (time : Nat) (timer : Timer) (s : State) :
    SendsPause i time timer s (bumpSlot i .pauseSent
      ((askControl i (.pause time) s).updUpstream i fun u => { u with pause := timer })) := by
  have hothers := ((askControl_eventAt i (.pause time) s).trans
    (.updUpstream i (fun u => { u with pause := timer }) _)).trans
    (bumpSlotBy_eventAt i _ (c := .pauseSent) (by simp [trafficCounters]) 1)
  obtain ⟨hcarries, h⟩ | ⟨hcarries, h⟩ := askControl_cases i (.pause time) s
  · rw [h] at hothers ⊢
    exact {
      upstream := by simp [bumpSlot, bumpSlotBy]
      asked := fun _ => by simpa [bumpSlot, bumpSlotBy] using pause_mem_joinControl time _
      counts := fun j c => slotCount_bumpSlotBy i j _ c 1 _
      others := hothers.others
      frame := rfl }
  · rw [h] at hothers ⊢
    exact {
      upstream := by simp [bumpSlot, bumpSlotBy]
      asked := fun hc => by simp [hcarries] at hc
      counts := fun j c => slotCount_bumpSlotBy i j _ c 1 _
      others := hothers.others
      frame := rfl }

theorem sendPause_sends (i : SlotIx) (s : State) :
    SendsPause i s.agent.pauseTime (some (max 1 (s.agent.pauseTime / 2))) s (sendPause i s) :=
  askControl_sends_pause i s.agent.pauseTime (some (max 1 (s.agent.pauseTime / 2))) s

theorem sendResume_sends (i : SlotIx) (s : State) : SendsPause i 0 none s (sendResume i s) :=
  askControl_sends_pause i 0 none s

/-! When the local pause is evaluated (R109, R110). -/

theorem pauseAtArrival_of_paused (h : (s.upstream.get i).pause ≠ none) : pauseAtArrival i s = s := by
  obtain ⟨timer, h⟩ := Option.ne_none_iff_exists'.mp h
  simp [pauseAtArrival, h]

theorem pauseAtArrival_of_room {q : Nat} (hq : effectiveQuota s i = some q)
    (h : (s.upstream.get i).queue.length < q) : pauseAtArrival i s = s := by
  unfold pauseAtArrival
  rw [hq]
  split
  · next q' _ e =>
    cases e
    exact if_neg (Nat.not_le.mpr h)
  all_goals rfl

theorem pauseAtArrival_at_quota {q : Nat} (hq : effectiveQuota s i = some q) (hp : (s.upstream.get i).pause = none)
    (h : q ≤ (s.upstream.get i).queue.length) : pauseAtArrival i s = sendPause i s := by
  simp [pauseAtArrival, hq, hp, h]

theorem pauseAtTxEnd_without_quota (hq : effectiveQuota s i = none) : pauseAtTxEnd i s = s := by
  unfold pauseAtTxEnd
  rw [hq]
  cases (s.upstream.get i).pause <;> rfl

theorem pauseAtTxEnd_of_clear {q : Nat} (hq : effectiveQuota s i = some q) (hp : (s.upstream.get i).pause = none) :
    pauseAtTxEnd i s = if q ≤ (s.upstream.get i).queue.length then sendPause i s else s := by
  simp [pauseAtTxEnd, hq, hp]

theorem pauseAtTxEnd_of_paused {q : Nat} (hq : effectiveQuota s i = some q) (hp : (s.upstream.get i).pause ≠ none) :
    pauseAtTxEnd i s = if (s.upstream.get i).queue.length ≤ q / 2 then sendResume i s else s := by
  obtain ⟨timer, hp⟩ := Option.ne_none_iff_exists'.mp hp
  simp [pauseAtTxEnd, hq, hp]

theorem pauseAtRefresh_of_paused {q : Nat} (hq : effectiveQuota s i = some q) (hp : (s.upstream.get i).pause ≠ none) :
    pauseAtRefresh i s = if (s.upstream.get i).queue.length ≤ q / 2 then sendResume i s else sendPause i s := by
  obtain ⟨timer, hp⟩ := Option.ne_none_iff_exists'.mp hp
  simp [pauseAtRefresh, hq, hp]

/-- The effective quota depends on the slot's state, quota and pool, and on the pools. -/
theorem effectiveQuota_congr {t : State} (hstate : (t.slots.get i).state = (s.slots.get i).state)
    (hquota : (t.slots.get i).quota = (s.slots.get i).quota) (hpool : (t.slots.get i).pool = (s.slots.get i).pool)
    (hpools : t.pools = s.pools) : effectiveQuota t i = effectiveQuota s i := by
  have htarget : slotTarget t i = slotTarget s i := by simp only [slotTarget, hpool, hpools]
  have hheld : slotHeld t i = slotHeld s i := by simp only [slotHeld, binsHeld, hpool, hpools]
  simp only [effectiveQuota, htarget, hheld, hstate, hquota]

/-! Upstream admission (R105, R107–R109). -/

theorem effectiveQuota_of_late (h : (s.slots.get i).state ∈ [.empty, .seated, .drained, .faulted, .fenced]) :
    effectiveQuota s i = none := by
  simp only [List.mem_cons, List.not_mem_nil, or_false] at h
  obtain h | h | h | h | h := h <;> simp [effectiveQuota, h]

theorem sortFrame_data (hkind : info.kind = .dataPool ∨ info.kind = .dataSlot) :
    sortFrame i info bytes s = admitUpstream i bytes s := by
  obtain h | h := hkind <;> simp [sortFrame, h]

theorem admitUpstream_late (hq : effectiveQuota s i = none) : admitUpstream i bytes s = bumpSlot i .lateUpstream s := by
  simp [admitUpstream, hq]

theorem admitUpstream_within {q : Nat} (hq : effectiveQuota s i = some q) (h : (s.upstream.get i).queue.length < q) :
    admitUpstream i bytes s = pauseAtArrival i (bumpSlot i .upstreamAdmitted
      (s.updUpstream i fun u => { u with queue := u.queue ++ [bytes] })) := by
  simp [admitUpstream, hq, h]

theorem admitUpstream_at_quota {q : Nat} (hq : effectiveQuota s i = some q)
    (h : q ≤ (s.upstream.get i).queue.length) :
    admitUpstream i bytes s = pauseAtArrival i (raiseFlag i .quotaExceeded (bumpSlot i .quotaDrop s)) := by
  simp [admitUpstream, hq, Nat.not_lt.mpr h]

/-- Raising a flag changes the slot's attention and the agent alone. -/
theorem raiseFlag_frame (i : SlotIx) (f : SlotFlag) (s : State) : ∃ slots agent,
    raiseFlag i f s = { s with slots := slots, agent := agent } ∧ ∀ j, ∃ a,
      slots.get j = { s.slots.get j with attention := a } := by
  obtain ⟨-, h⟩ | ⟨-, a, h⟩ := raiseFlag_cases i f s
  · exact ⟨s.slots, s.agent, h, fun j => ⟨_, rfl⟩⟩
  · refine ⟨_, a, h, fun j => ?_⟩
    rw [State.updSlot_slots, Table.get_modify]
    split
    · next hj => exact ⟨_, by rw [hj]⟩
    · exact ⟨_, rfl⟩

theorem effectiveQuota_raiseFlag (i j : SlotIx) (f : SlotFlag) (s : State) :
    effectiveQuota (raiseFlag i f s) j = effectiveQuota s j := by
  obtain ⟨slots, agent, h, hslots⟩ := raiseFlag_frame i f s
  obtain ⟨a, ha⟩ := hslots j
  rw [h]
  exact effectiveQuota_congr (by simp [ha]) (by simp [ha]) (by simp [ha]) rfl

/-- What the arrival of a frame at the quota leaves (R109): the drop counted and flagged, and the blade paused. -/
theorem admitUpstream_at_quota_drops {q : Nat} (hq : effectiveQuota s i = some q)
    (h : q ≤ (s.upstream.get i).queue.length) :
    let t := admitUpstream i bytes s
    (t.upstream.get i).queue = (s.upstream.get i).queue ∧ (t.upstream.get i).pause ≠ none
      ∧ t.slotCount i .quotaDrop = counterAdd (s.slotCount i .quotaDrop) 1 ∧ flagSet t i .quotaExceeded = true
      ∧ OthersStand i s t ∧ SlotCountsStand i [.quotaDrop, .pauseSent] s t
      ∧ t = { s with
          slots := t.slots, upstream := t.upstream, links := t.links, slotCounters := t.slotCounters
          agent := t.agent } := by
  intro t
  obtain ⟨slots, agent, hframe, -⟩ := raiseFlag_frame i .quotaExceeded (bumpSlot i .quotaDrop s)
  let u := raiseFlag i .quotaExceeded (bumpSlot i .quotaDrop s)
  have hflag : flagSet u i .quotaExceeded = true := flagSet_raiseFlag i _ _
  have hothers : OthersStand i s u :=
    (bumpSlotBy_others i i .quotaDrop 1 s).trans (raiseFlag_eventAt i .quotaExceeded _).others
  have hcounts : ∀ j c, u.slotCount j c
      = if j = i ∧ c = .quotaDrop then counterAdd (s.slotCount j c) 1 else s.slotCount j c := by
    intro j c
    have hsame : u.slotCount j c = (bumpSlot i .quotaDrop s).slotCount j c := by
      rw [show u = _ from hframe]
      rfl
    exact hsame.trans (slotCount_bumpSlotBy i j _ c 1 s)
  have hu : u = { s with slots := u.slots, slotCounters := u.slotCounters, agent := u.agent } := by
    rw [show u = _ from hframe]
    rfl
  have hqueue : u.upstream = s.upstream := by rw [hu]
  have ht : t = pauseAtArrival i u := admitUpstream_at_quota hq h
  by_cases hp : (s.upstream.get i).pause = none
  · have hqu : effectiveQuota u i = some q := (effectiveQuota_raiseFlag i i _ _).trans hq
    have hsends := sendPause_sends i u
    rw [ht, pauseAtArrival_at_quota hqu (by rw [hqueue, hp]) (by rw [hqueue]; exact h)]
    obtain ⟨hupstream, -, hcounts', hothers', hframe'⟩ := hsends
    refine ⟨by rw [hupstream, hqueue], by rw [hupstream]; simp, ?_, ?_, hothers.trans hothers', ?_, ?_⟩
    · rw [hcounts', hcounts]
      simp
    · rw [hframe']
      exact hflag
    · intro j c hjc
      rw [hcounts', if_neg, hcounts, if_neg]
      all_goals
        rintro ⟨rfl, rfl⟩
        simp at hjc
    · rw [hframe', hu]
  · rw [ht, pauseAtArrival_of_paused (by rwa [hqueue])]
    refine ⟨by rw [hqueue], by rwa [hqueue], by rw [hcounts]; simp, hflag, hothers, fun j c hjc => ?_, ?_⟩
    · rw [hcounts, if_neg]
      rintro ⟨rfl, rfl⟩
      simp at hjc
    · rw [hu]

/-- Settles O12: by the room that the queue has under the effective quota. -/
theorem upstreamAdmissionKeepsTheQuota : Obligations.UpstreamAdmissionKeepsTheQuota := by
  intro s i bytes info hframe hkind
  rw [exec_slotRxEnd_passed hframe, sortFrame_data hkind]
  have hquota : effectiveQuota (slotReceived s i) i = effectiveQuota s i := rfl
  refine ⟨fun hlate => ?_, fun q hq => ⟨fun hroom hstays => ?_, fun hfills hclear hup hlost => ?_, fun hfull => ?_⟩⟩
  · rw [admitUpstream_late (s := slotReceived s i) (effectiveQuota_of_late hlate)]
  · rw [admitUpstream_within (s := slotReceived s i) hq hroom]
    obtain hpaused | hbelow := hstays
    · refine congrArg Host.Outcome.next (pauseAtArrival_of_paused ?_)
      simpa [bumpSlot, bumpSlotBy, slotReceived] using hpaused
    · refine congrArg Host.Outcome.next (pauseAtArrival_of_room hq ?_)
      simpa [bumpSlot, bumpSlotBy, slotReceived] using hbelow
  · rw [admitUpstream_within (s := slotReceived s i) hq (show (s.upstream.get i).queue.length < q by omega)]
    let u := bumpSlot i .upstreamAdmitted
      ((slotReceived s i).updUpstream i fun u => { u with queue := u.queue ++ [bytes] })
    have hupstream : u.upstream.get i = ⟨(s.upstream.get i).queue ++ [bytes], (s.upstream.get i).pause⟩ := by
      simp [u, bumpSlot, bumpSlotBy, slotReceived]
    have hlink : (u.links.get i).carries = true := by
      have h := carries_of_up hup hlost
      simpa [u, bumpSlot, bumpSlotBy, slotReceived, LinkRecord.carries] using h
    have hothers : OthersStand i s u := ((EventAt.updLink i _ s).others.trans (EventAt.updUpstream i _ _).others).trans
      (bumpSlotBy_others i i .upstreamAdmitted 1 _)
    have hcounts : ∀ j c, u.slotCount j c
        = if j = i ∧ c = .upstreamAdmitted then counterAdd (s.slotCount j c) 1 else s.slotCount j c := fun j c =>
      slotCount_bumpSlotBy i j _ c 1 _
    have hsends := sendPause_sends i u
    refine ⟨_, rfl, ?_⟩
    rw [pauseAtArrival_at_quota (s := u) hq (by rw [hupstream, hclear])
      (by rw [hupstream, List.length_append, List.length_singleton, hfills])]
    obtain ⟨hupstream', hasked, hcounts', hothers', hframe'⟩ := hsends
    refine ⟨by rw [hupstream', hupstream]; rfl, ?_, ?_, hasked hlink, hothers.trans hothers', fun j c hjc => ?_, ?_⟩
    · rw [hcounts', hcounts]
      simp
    · rw [hcounts', hcounts]
      simp
    · rw [hcounts', if_neg, hcounts, if_neg]
      all_goals
        rintro ⟨rfl, rfl⟩
        simp at hjc
    · rw [hframe']
      rfl
  · obtain ⟨hqueue, hpause, hcount, hflag, hothers, hcounts, ht⟩ :=
      admitUpstream_at_quota_drops (s := slotReceived s i) (bytes := bytes) hq hfull
    exact ⟨_, rfl, hqueue, hpause, hcount, hflag, (EventAt.updLink i _ s).others.trans hothers, hcounts, ht⟩

/-! The ends of transmissions on the core link (R113, R185), and of the refresh timer (R110). -/

theorem exec_upstreamTxEnd (h : s.core.tx = .upstream i bytes) :
    exec .upstreamTxEnd s = .next (pauseAtTxEnd i (bumpSlot i .upstreamSent
      ({ s with core := { s.core with tx := .idle } }.updUpstream i fun u => { u with queue := u.queue.tail }))) := by
  simp only [exec, execUpstreamTxEnd, h]
  rfl

theorem exec_mgmtTxEnd {payload : List Byte} {rest : List (List Byte)} (h : s.core.tx = .mgmt bytes)
    (ht : s.agent.transmit = payload :: rest) :
    exec .mgmtTxEnd s = .next (bumpAgent (sentCounter payload) { s with
      core := { s.core with tx := .idle }, agent := { s.agent with transmit := rest } }) := by
  simp only [exec, execMgmtTxEnd, h, ht]
  rfl

/-- The code of a payload, absent or present, decides the counter of its end (R185). -/
theorem sentCounter_eq (payload : List Byte) :
    sentCounter payload = if payload[1]? = some 0x80 then .noticesSent else .responsesSent := by
  unfold sentCounter
  rw [List.getD_eq_getElem?_getD]
  cases payload[1]? with
  | none => rfl
  | some code => simp

/-- Settles O27: the pause state at the end of an upstream frame goes by the queue that is left. -/
theorem coreTransmissionEndsLeaveTheirQueue : Obligations.CoreTransmissionEndsLeaveTheirQueue := by
  refine ⟨fun s i bytes q htx hq => ?_, fun s i bytes htx hq => ?_, fun s bytes payload rest htx hwaits => ?_⟩
  · rw [exec_upstreamTxEnd htx]
    intro t
    have hqt : effectiveQuota t i = some q := hq
    have hupstream : t.upstream.get i = ⟨(s.upstream.get i).queue.tail, (s.upstream.get i).pause⟩ := by
      simp [t, bumpSlot, bumpSlotBy]
    have hpause : (t.upstream.get i).pause = (s.upstream.get i).pause := by rw [hupstream]
    have hqueue : (t.upstream.get i).queue = (s.upstream.get i).queue.tail := by rw [hupstream]
    have hothers : OthersStand i s t := ((EventAt.coreTx i .idle s).others.trans
      (EventAt.updUpstream i _ _).others).trans (bumpSlotBy_others i i .upstreamSent 1 _)
    have hcounts : ∀ j c, t.slotCount j c
        = if j = i ∧ c = .upstreamSent then counterAdd (s.slotCount j c) 1 else s.slotCount j c := fun j c =>
      slotCount_bumpSlotBy i j _ c 1 _
    have hsent {time : Nat} {timer : Timer} {u : State} (h : SendsPause i time timer t u) :
        u.slotCount i .pauseSent = counterAdd (s.slotCount i .pauseSent) 1
        ∧ u.slotCount i .upstreamSent = counterAdd (s.slotCount i .upstreamSent) 1
        ∧ OthersStand i s u ∧ SlotCountsStand i [.upstreamSent, .pauseSent] s u
        ∧ u = { s with
            core := { s.core with tx := .idle }, upstream := u.upstream, links := u.links
            slotCounters := u.slotCounters } := by
      refine ⟨by rw [h.counts, hcounts]; simp, by rw [h.counts, hcounts]; simp, hothers.trans h.others,
        fun j c hjc => ?_, ?_⟩
      · rw [h.counts, if_neg, hcounts, if_neg]
        all_goals
          rintro ⟨rfl, rfl⟩
          simp at hjc
      · rw [h.frame]
        rfl
    refine ⟨fun hclear hbelow => ?_, fun hpaused habove => ?_, fun hpaused hmark hup hlost => ⟨_, rfl, ?_⟩,
      fun hclear hfull hup hlost => ⟨_, rfl, ?_⟩⟩
    · rw [pauseAtTxEnd_of_clear (s := t) hqt (hpause.trans hclear), if_neg]
      rwa [hqueue, Nat.not_le]
    · rw [pauseAtTxEnd_of_paused (s := t) hqt (by rwa [hpause]), if_neg]
      rwa [hqueue, Nat.not_le]
    · have hsends := sendResume_sends i t
      rw [pauseAtTxEnd_of_paused (s := t) hqt (by rwa [hpause]), if_pos (by rwa [hqueue])]
      exact ⟨by rw [hsends.upstream, hqueue], hsends.asked (carries_of_up (s := s) hup hlost), hsent hsends⟩
    · have hsends := sendPause_sends i t
      rw [pauseAtTxEnd_of_clear (s := t) hqt (hpause.trans hclear), if_pos (by rwa [hqueue])]
      exact ⟨by rw [hsends.upstream, hqueue]; rfl, hsends.asked (carries_of_up (s := s) hup hlost), hsent hsends⟩
  · rw [exec_upstreamTxEnd htx]
    exact congrArg Host.Outcome.next (pauseAtTxEnd_without_quota hq)
  · rw [exec_mgmtTxEnd htx hwaits, sentCounter_eq]
    exact ⟨fun h => by rw [if_pos h], fun h => by rw [if_neg h]⟩

/-- Settles O28: a running refresh timer sends PAUSE either way. -/
theorem refreshExpiryRepeatsOrEndsThePause : Obligations.RefreshExpiryRepeatsOrEndsThePause := by
  intro s i q hpaused hq hup hlost
  have hcarries := carries_of_up hup hlost
  have hsent {time : Nat} {timer : Timer} {u : State} (h : SendsPause i time timer s u) :
      u.slotCount i .pauseSent = counterAdd (s.slotCount i .pauseSent) 1
        ∧ (u.upstream.get i).queue = (s.upstream.get i).queue ∧ SlotCountsStand i [.pauseSent] s u := by
    refine ⟨by rw [h.counts]; simp, by rw [h.upstream], fun j c hjc => ?_⟩
    rw [h.counts, if_neg]
    rintro ⟨rfl, rfl⟩
    simp at hjc
  refine ⟨pauseAtRefresh i s, rfl, ?_⟩
  rw [pauseAtRefresh_of_paused hq hpaused]
  split
  · next hmark =>
    have h := sendResume_sends i s
    obtain ⟨hcount, hqueue, hcounts⟩ := hsent h
    exact ⟨hqueue, hcount, fun habove => absurd hmark (Nat.not_le.mpr habove),
      fun _ => ⟨by rw [h.upstream], h.asked hcarries⟩, h.others, hcounts, h.frame⟩
  · next hmark =>
    have h := sendPause_sends i s
    obtain ⟨hcount, hqueue, hcounts⟩ := hsent h
    exact ⟨hqueue, hcount, fun _ => ⟨by rw [h.upstream], h.asked hcarries⟩, fun hle => absurd hle hmark,
      h.others, hcounts, h.frame⟩

/-! Link control frames that lifecycle does not take (R129–R131). -/

theorem sortFrame_linkCtrl (hkind : info.kind = .linkCtrl) : sortFrame i info bytes s = controlArrives i info s := by
  simp [sortFrame, hkind]

theorem controlArrives_pause (h : info.target = 7) :
    controlArrives i info s = pauseArrives i info.payload s := by
  simp [controlArrives, h]

theorem controlArrives_retireAck (h : info.target = 6) : controlArrives i info s = retireAckArrives i s := by
  simp [controlArrives, h]

theorem controlArrives_stray (h : info.target.toNat ∉ [1, 3, 6, 7]) :
    controlArrives i info s = bumpSlot i .strayControl s := by
  simp only [List.mem_cons, List.not_mem_nil, not_or, or_false] at h
  obtain ⟨h1, h3, h6, h7⟩ := h
  unfold controlArrives
  split
  case h_5 => rfl
  all_goals contradiction

theorem pauseArrives_stray {payload : List Byte} (h : payload.length ≠ 2) :
    pauseArrives i payload s = bumpSlot i .strayControl s := by
  unfold pauseArrives
  split
  · simp at h
  · rfl

theorem word16_toNat (hi lo : Byte) : (word16 hi lo).toNat = hi.toNat * 256 + lo.toNat := by
  rw [word16, BitVec.toNat_append, ← Nat.shiftLeft_add_eq_or_of_lt lo.isLt, Nat.shiftLeft_eq]

/-- Settles O18: by the payload's length, then by the state of the link. -/
theorem remotePauseHaltsTheLink : Obligations.RemotePauseHaltsTheLink := by
  refine ⟨fun s i bytes info hframe hkind htarget => ?_, fun s i => rfl⟩
  rw [exec_slotRxEnd_passed hframe, sortFrame_linkCtrl hkind, controlArrives_pause htarget]
  refine ⟨fun hi lo hpayload hup => ?_, fun hlength hparked => ?_, fun hlength => ?_⟩
  · have hup' : ((slotReceived s i).links.get i).state = .up := by simpa [slotReceived] using hup
    simp only [pauseArrives, hpayload, hup', if_true, word16_toNat]
  · obtain ⟨hi, lo, hpayload⟩ := List.length_eq_two.mp hlength
    have hparked' : ((slotReceived s i).links.get i).state = .parked := by simpa [slotReceived] using hparked
    simp [pauseArrives, hpayload, hparked']
  · rw [pauseArrives_stray hlength]

/-! A RETIRE_ACK (R19, R129). -/

/-- A change of state clears no flag, and raises STATE_CHANGED alone. -/
theorem flagSet_changeState_of_ne {f : SlotFlag} (hf : f ≠ .stateChanged) (i j : SlotIx) (new : SlotState) (s : State) :
    flagSet (changeState i new s) j f = flagSet s j f := by
  obtain rfl | hj := eq_or_ne j i
  · rw [flagSet, flagSet, changeState_get_self]
    split
    · rfl
    · have hbit : (flagMask .stateChanged).getLsbD (flagBit f) = false := by cases f <;> first | rfl | exact absurd rfl hf
      simp [BitVec.getLsbD_or, hbit]
  · rw [flagSet, flagSet, changeState_get_of_ne hj]

theorem flagSet_changeState_self {i : SlotIx} {new : SlotState} (h : (s.slots.get i).state ≠ new) :
    flagSet (changeState i new s) i .stateChanged = true := by
  rw [flagSet, changeState_get_self, if_neg h]
  simp [BitVec.getLsbD_or, getLsbD_flagMask]

/-- A slot that changes its state has its timers stopped (R5). -/
theorem changeState_timersStopped {i : SlotIx} {new : SlotState} (h : (s.slots.get i).state ≠ new) :
    ((changeState i new s).slots.get i).timersStopped := by
  rw [changeState_get_self, if_neg h]
  simp [SlotRecord.timersStopped, SlotRecord.stopTimers]

theorem linkPark_of_up (h : (s.links.get i).state = .up) :
    linkPark i s = reportLeftUp i (s.updLink i fun l => l.leaveUp .parked) := by
  simp [linkPark, h]

theorem linkPark_of_down (h : (s.links.get i).state = .dark ∨ (s.links.get i).state = .parked) : linkPark i s = s := by
  obtain h | h := h <;> simp [linkPark, h]

theorem TouchesLinks.slots_eq {s t : State} : TouchesLinks s t → t.slots = s.slots := by
  rintro ⟨_, _, _, _, rfl⟩
  rfl

/-- What entry to DRAINED from a link that is UP leaves (R19, R121). -/
theorem enterDrained_of_up {flags : State → State} (hf : ∀ s, TouchesMembers s (flags s))
    (hlinks : ∀ s, (flags s).links = s.links) (h : (s.links.get i).state = .up) :
    let t := enterDrained i flags s
    t.slots = (flags (changeState i .drained s)).slots ∧ (t.links.get i).state = .parked
      ∧ (t.upstream.get i).queue = (s.upstream.get i).queue
      ∧ t = { s with
          slots := t.slots, links := t.links, monitors := t.monitors, upstream := t.upstream, agent := t.agent } := by
  have hup : ((flags (changeState i .drained s)).links.get i).state = .up := by rw [hlinks, changeState_links, h]
  obtain ⟨_, _, _, hmembers⟩ := (changeState_members i .drained s).trans (hf _)
  simp only [enterDrained, linkPark_of_up hup]
  refine ⟨rfl, ?_, ?_, ?_⟩
  · simp [reportLeftUp, monitorLinkDown, clearLocalPause, LinkRecord.leaveUp]
  · simp [reportLeftUp, monitorLinkDown, clearLocalPause, hmembers]
  · rw [hmembers]
    rfl

/-- Settles O17: by kind and subcode; a RETIRE_ACK by the state of the slot. -/
theorem bladeFramesWithNoConsumerAreOnlyCounted : Obligations.BladeFramesWithNoConsumerAreOnlyCounted := by
  intro s i bytes info hframe
  rw [exec_slotRxEnd_passed hframe]
  have hslots : (slotReceived s i).slots = s.slots := rfl
  refine ⟨fun hkind => ?_, fun hkind htarget => ?_, fun hkind htarget hstate => ?_,
    fun hkind htarget hstate hup => ⟨_, rfl, ?_⟩⟩
  · simp [sortFrame, hkind]
  · rw [sortFrame_linkCtrl hkind, controlArrives_stray htarget]
  · rw [sortFrame_linkCtrl hkind, controlArrives_retireAck htarget, retireAckArrives, hslots, if_neg hstate]
  · rw [sortFrame_linkCtrl hkind, controlArrives_retireAck htarget, retireAckArrives, hslots, if_pos hstate]
    have hleaves : ((slotReceived s i).slots.get i).state ≠ .drained := by simp [hslots, hstate]
    have hevent := (EventAt.updLink i (fun l => { l with rx := none }) s).trans
      (enterDrained_eventAt i _ fun s => .refl i s)
    obtain ⟨hs, hparked, hqueue, ht⟩ := enterDrained_of_up (s := slotReceived s i) (i := i) (flags := id)
      TouchesMembers.refl (fun _ => rfl) (by simpa [slotReceived] using hup)
    refine ⟨by rw [hs]; simp, ?_, ?_, hparked, hqueue, hevent.frame, ht⟩
    · rw [hs]
      exact (changeState_timersStopped hleaves).2.2.2
    · rw [flagSet, hs]
      exact flagSet_changeState_of_ne (by simp) i i .drained (slotReceived s i)

end Sys2Proof.Machine
end

section
/-! SUPPORT. What the part writes is read back as it was written: a request's optional fields and presence byte (R201), and
the frames that it builds or rewrites (R113, R134, R199). O29 and O54 are settled here. -/

namespace Sys2Proof

/-! Optional fields, each read back with what follows it. -/

theorem takeByte_putByte (o : Option Byte) (rest : List Byte) :
    takeByte o.isSome (putByte o ++ rest) = some (o, rest) := by
  cases o <;> rfl

theorem word16_bytes16 (w : BitVec 16) : word16 (w.extractLsb' 8 8) (w.extractLsb' 0 8) = w :=
  BitVec.extractLsb'_append_extractLsb'_eq_extractLsb' (by omega) |>.trans (by simp)

theorem takeWord_putWord (o : Option (BitVec 16)) (rest : List Byte) :
    takeWord o.isSome (putWord o ++ rest) = some (o, rest) := by
  cases o with
  | none => rfl
  | some w => exact congrArg (fun v => some (some v, rest)) (word16_bytes16 w)

theorem takeLevels_putLevels (o : Option (Byte × BitVec 16)) (rest : List Byte) :
    takeLevels o.isSome (putLevels o ++ rest) = some (o, rest) := by
  cases o with
  | none => rfl
  | some cw => exact congrArg (fun v => some (some (cw.1, v), rest)) (word16_bytes16 cw.2)

/-- Bit `n` of a presence byte says whether field `n` is present. -/
theorem getLsbD_presenceByte (bits : List Bool) (h : bits.length ≤ 8) (n : Nat) :
    (presenceByte bits).getLsbD n = bits.getD n false := by
  induction bits generalizing n with
  | nil => simp [presenceByte]
  | cons b rest ih =>
    have hlen : rest.length ≤ 7 := Nat.le_of_succ_le_succ h
    cases n with
    | zero => cases b <;> simp [presenceByte]
    | succ n =>
      have hbit : (if b then (1 : Byte) else 0).getLsbD (n + 1) = false := by cases b <;> simp
      have hshort : 7 ≤ n → rest.getD n false = false := fun hn => by
        rw [List.getD_eq_getElem?_getD, List.getElem?_eq_none (hlen.trans hn)]
        rfl
      simp only [presenceByte, BitVec.getLsbD_or, hbit, BitVec.getLsbD_shiftLeft, ih (by omega), List.getD_cons_succ]
      by_cases hn : 7 ≤ n
      · rw [Nat.add_sub_cancel, hshort hn, Bool.and_false, Bool.or_false]
      · simp [show n + 1 < 8 by omega]

/-- A presence byte sets no bit beyond its fields. -/
theorem presenceFits_presenceByte (bits : List Bool) (h : bits.length ≤ 8) :
    presenceFits (presenceByte bits) bits.length = true := by
  refine decide_eq_true (Nat.lt_pow_two_of_testBit _ fun n hn => ?_)
  rw [BitVec.testBit_toNat, getLsbD_presenceByte bits h, List.getD_eq_getElem?_getD, List.getElem?_eq_none hn]
  rfl

theorem takeByte_putByte_last (o : Option Byte) : takeByte o.isSome (putByte o) = some (o, []) := by
  cases o <;> rfl

theorem takeLevels_putLevels_last (o : Option (Byte × BitVec 16)) :
    takeLevels o.isSome (putLevels o) = some (o, []) := by
  simpa using takeLevels_putLevels o []

theorem takePairs_flatMap (entries : List (Byte × Byte)) :
    takePairs (entries.flatMap fun p => [p.1, p.2]) = some entries := by
  induction entries with
  | nil => rfl
  | cons p rest ih => simp [takePairs, ih]

/-! The requests with optional fields (R201). -/

section Optional

variable (tag a b c d : Byte)

theorem decodeSetPolicy_encode (f0 f1 f2 f3 f4 : Option Byte) :
    decodeSetPolicy tag ([a, b, c, d, presenceByte [f0.isSome, f1.isSome, f2.isSome, f3.isSome, f4.isSome]]
      ++ putByte f0 ++ putByte f1 ++ putByte f2 ++ putByte f3 ++ putByte f4)
      = some (.setPolicy tag a b c d f0 f1 f2 f3 f4) := by
  have hfits := presenceFits_presenceByte [f0.isSome, f1.isSome, f2.isSome, f3.isSome, f4.isSome] (by simp)
  simp [decodeSetPolicy, show presenceFits _ 5 = true from hfits, getLsbD_presenceByte,
    List.append_assoc, -BitVec.getLsbD_eq_getElem, takeByte_putByte, takeByte_putByte_last, whenDone]

theorem decodeSetBeacon_encode (f0 f1 f2 f3 f4 : Option Byte) :
    decodeSetBeacon tag ([a, presenceByte [f0.isSome, f1.isSome, f2.isSome, f3.isSome, f4.isSome]]
      ++ putByte f0 ++ putByte f1 ++ putByte f2 ++ putByte f3 ++ putByte f4)
      = some (.setBeacon tag a f0 f1 f2 f3 f4) := by
  have hfits := presenceFits_presenceByte [f0.isSome, f1.isSome, f2.isSome, f3.isSome, f4.isSome] (by simp)
  simp [decodeSetBeacon, show presenceFits _ 5 = true from hfits, getLsbD_presenceByte,
    List.append_assoc, -BitVec.getLsbD_eq_getElem, takeByte_putByte, takeByte_putByte_last, whenDone]

theorem decodePoolSet_encode (f0 f2 f3 f4 f5 : Option Byte) (f1 : Option (BitVec 16)) :
    decodePoolSet tag ([a, presenceByte [f0.isSome, f1.isSome, f2.isSome, f3.isSome, f4.isSome, f5.isSome]]
      ++ putByte f0 ++ putWord f1 ++ putByte f2 ++ putByte f3 ++ putByte f4 ++ putByte f5)
      = some (.poolSet tag a f0 f1 f2 f3 f4 f5) := by
  have hfits := presenceFits_presenceByte [f0.isSome, f1.isSome, f2.isSome, f3.isSome, f4.isSome, f5.isSome] (by simp)
  simp [decodePoolSet, show presenceFits _ 6 = true from hfits, getLsbD_presenceByte,
    List.append_assoc, -BitVec.getLsbD_eq_getElem, takeByte_putByte, takeByte_putByte_last, takeWord_putWord, whenDone]

theorem decodeSetScan_encode (f0 f1 f2 f3 f4 f5 : Option Byte) :
    decodeSetScan tag ([presenceByte [f0.isSome, f1.isSome, f2.isSome, f3.isSome, f4.isSome, f5.isSome]]
      ++ putByte f0 ++ putByte f1 ++ putByte f2 ++ putByte f3 ++ putByte f4 ++ putByte f5)
      = some (.setScan tag f0 f1 f2 f3 f4 f5) := by
  have hfits := presenceFits_presenceByte [f0.isSome, f1.isSome, f2.isSome, f3.isSome, f4.isSome, f5.isSome] (by simp)
  simp [decodeSetScan, show presenceFits _ 6 = true from hfits, getLsbD_presenceByte,
    List.append_assoc, -BitVec.getLsbD_eq_getElem, takeByte_putByte, takeByte_putByte_last, whenDone]

theorem decodeSetLampPattern_encode (f0 f1 : Option Byte) (f2 : Option (Byte × BitVec 16)) :
    decodeSetLampPattern tag ([a, presenceByte [f0.isSome, f1.isSome, f2.isSome]]
      ++ putByte f0 ++ putByte f1 ++ putLevels f2) = some (.setLampPattern tag a f0 f1 f2) := by
  have hfits := presenceFits_presenceByte [f0.isSome, f1.isSome, f2.isSome] (by simp)
  simp [decodeSetLampPattern, show presenceFits _ 3 = true from hfits, getLsbD_presenceByte,
    List.append_assoc, -BitVec.getLsbD_eq_getElem, takeByte_putByte, takeLevels_putLevels_last, whenDone]

theorem decodeSetDevice_encode (f0 f1 f2 : Option (BitVec 16)) (f3 f4 : Option Byte) :
    decodeSetDevice tag ([presenceByte [f0.isSome, f1.isSome, f2.isSome, f3.isSome, f4.isSome]]
      ++ putWord f0 ++ putWord f1 ++ putWord f2 ++ putByte f3 ++ putByte f4)
      = some (.setDevice tag f0 f1 f2 f3 f4) := by
  have hfits := presenceFits_presenceByte [f0.isSome, f1.isSome, f2.isSome, f3.isSome, f4.isSome] (by simp)
  simp [decodeSetDevice, show presenceFits _ 5 = true from hfits, getLsbD_presenceByte,
    List.append_assoc, -BitVec.getLsbD_eq_getElem, takeByte_putByte, takeByte_putByte_last, takeWord_putWord, whenDone]

end Optional

theorem decodeSetLampMap_encode (tag : Byte) (entries : List (Byte × Byte)) (h : entries.length ≤ 10) :
    decodeSetLampMap tag (BitVec.ofNat 8 entries.length :: entries.flatMap fun p => [p.1, p.2])
      = some (.setLampMap tag entries) := by
  have hcount : (BitVec.ofNat 8 entries.length).toNat = entries.length := by
    rw [BitVec.toNat_ofNat, Nat.mod_eq_of_lt (by omega)]
  simp [decodeSetLampMap, takePairs_flatMap, hcount, h]

/-- A body that is read as a request gives an entry that is read as it. -/
theorem decodeRequest_plainEntry {tag code : Byte} {ps : List Byte} {c : Instr}
    (h : decodeBody tag code ps = some c) : decodeRequest (plainEntry tag code ps) = c := by
  simp [decodeRequest, plainEntry, h]

namespace Machine

/-- Settles O54: each layout of R201 is read back field by field. -/
theorem everyRequestIsReadAsItWasWritten : Obligations.EveryRequestIsReadAsItWasWritten := by
  intro c e hwf hencode
  cases c
  case setPolicy =>
    cases hencode
    exact decodeRequest_plainEntry (decodeSetPolicy_encode ..)
  case setBeacon =>
    cases hencode
    exact decodeRequest_plainEntry (decodeSetBeacon_encode ..)
  case poolSet =>
    cases hencode
    exact decodeRequest_plainEntry (decodePoolSet_encode ..)
  case setScan =>
    cases hencode
    exact decodeRequest_plainEntry (decodeSetScan_encode ..)
  case setLampPattern =>
    cases hencode
    exact decodeRequest_plainEntry (decodeSetLampPattern_encode ..)
  case setDevice =>
    cases hencode
    exact decodeRequest_plainEntry (decodeSetDevice_encode ..)
  case setLampMap tag entries =>
    cases hencode
    exact decodeRequest_plainEntry (decodeSetLampMap_encode tag entries (of_decide_eq_true hwf))
  case clearAttention tag slot mask =>
    cases hencode
    exact decodeRequest_plainEntry (congrArg (fun w => some (Instr.clearAttention tag slot w)) (word16_bytes16 mask))
  case unknownRequest e' =>
    cases hencode
    exact of_decide_eq_true hwf
  all_goals
    cases hencode
  all_goals exact decodeRequest_plainEntry rfl

end Machine

end Sys2Proof
end

section
/-! SUPPORT. The frames that the part builds and rewrites, against its own frame checks (R88, R113, R134, R199). O29 is settled
here. -/

namespace Sys2Proof.Machine

variable {bytes : FrameBytes} {info : FrameInfo}

/-- A frame that passes fails no check. -/
theorem checks_of_passes (h : checkFrame bytes = .ok info) :
    ¬ badLength bytes ∧ ¬ badHeader bytes ∧ ¬ badCrc bytes ∧ ¬ badPayloadLength bytes := by
  have hlen : ¬ badLength bytes := fun hbad => by
    rw [checkFrame_badLength hbad] at h
    cases h
  have hhead : ¬ badHeader bytes := fun hbad => by
    rw [checkFrame_badHeader hlen hbad] at h
    cases h
  have hcrc : ¬ badCrc bytes := fun hbad => by
    rw [checkFrame_badCrc hlen hhead hbad] at h
    cases h
  refine ⟨hlen, hhead, hcrc, fun hbad => ?_⟩
  rw [checkFrame_badPayloadLength hlen hhead hcrc hbad] at h
  cases h

theorem length_withCrc (bs : List Byte) : (withCrc bs).length = bs.length + 4 := by simp [withCrc, bytes32]

theorem byteAt_withCrc {head payload : List Byte} (h : head.length = 10) {n : Nat} (hn : n < 10) :
    byteAt (withCrc (head ++ payload)) n = byteAt head n := by
  simp [byteAt, withCrc, h, hn, Nat.lt_add_right]

/-- Ten header bytes with the right sum, version, kind and length, a payload and the CRC pass the checks. -/
theorem checkFrame_withCrc {head payload : List Byte} {kind : FrameKind} (hlen : head.length = 10)
    (hsize : payload.length ≤ 2034) (hkind : kindOf ((byteAt head 0).toNat / 16) = some kind) (hsum : sum8 head = 255)
    (hversion : (byteAt head 0).toNat % 16 = 1)
    (hfield : (byteAt head 8).toNat * 256 + (byteAt head 9).toNat = payload.length) :
    checkFrame (withCrc (head ++ payload)) = .ok ⟨kind, byteAt head 1, flowKeyOf head, payload⟩ := by
  have hlength : (withCrc (head ++ payload)).length = payload.length + 14 := by
    rw [length_withCrc, List.length_append]
    omega
  have hgood : ¬ badLength (withCrc (head ++ payload)) := by
    rw [badLength, hlength]
    omega
  have htake : (withCrc (head ++ payload)).take 10 = head := by simp [withCrc, hlen]
  have hbody : (withCrc (head ++ payload)).take (payload.length + 10) = head ++ payload := by
    rw [withCrc, List.take_left' (by simp [hlen, Nat.add_comm])]
  have hcrc : (withCrc (head ++ payload)).drop (payload.length + 10) = bytes32 (crc32 (head ++ payload)) := by
    rw [withCrc, List.drop_left' (by simp [hlen, Nat.add_comm])]
  have hpayload : ((withCrc (head ++ payload)).drop 10).take payload.length = payload := by
    rw [withCrc, List.append_assoc, List.drop_left' hlen, List.take_left' rfl]
  rw [checkFrame_of_kind (kind := kind) hgood (by rwa [byteAt_withCrc hlen (by omega)]), hlength, htake,
    byteAt_withCrc hlen (by omega), byteAt_withCrc hlen (by omega), byteAt_withCrc hlen (by omega),
    byteAt_withCrc hlen (by omega), if_neg (by simp [hsum, hversion]),
    show payload.length + 14 - 4 = payload.length + 10 from rfl, hbody, hcrc, if_neg (not_not.mpr rfl),
    Nat.add_sub_cancel, if_neg (not_not.mpr hfield), hpayload]
  simp [flowKeyOf, byteAt_withCrc hlen]

theorem foldl_add_eq_sum8 (bs : List Byte) (acc : Byte) : bs.foldl (· + ·) acc = acc + sum8 bs := by
  induction bs generalizing acc with
  | nil => exact (BitVec.add_zero acc).symm
  | cons c cs ih =>
    calc cs.foldl (· + ·) (acc + c) = acc + (0 + c + sum8 cs) := by simp [ih, BitVec.add_assoc]
      _ = acc + sum8 (c :: cs) := by rw [← ih]; rfl

theorem sum8_cons (b : Byte) (bs : List Byte) : sum8 (b :: bs) = b + sum8 bs := by
  rw [← foldl_add_eq_sum8, sum8, List.foldl_cons]
  simp

/-- A header check of 255 less the other bytes' sum makes the header's sum 255 (R199). -/
theorem sum8_header (b0 b1 b2 : Byte) (rest : List Byte) :
    sum8 ([b0, b1, b2, 255 - sum8 ([b0, b1, b2] ++ rest)] ++ rest) = 255 := by
  simp only [List.cons_append, List.nil_append, sum8_cons]
  generalize sum8 rest = r
  bv_omega

theorem kindOf_kindCode (kind : FrameKind) : kindOf (kindCode kind) = some kind := by cases kind <;> rfl

theorem byteOf_kindCode_toNat (kind : FrameKind) : (byteOf (16 * kindCode kind + 1)).toNat = 16 * kindCode kind + 1 := by
  cases kind <;> rfl

theorem word16Of_toNat {n : Nat} (h : n < 65536) :
    ((BitVec.ofNat 16 n).extractLsb' 8 8).toNat * 256 + ((BitVec.ofNat 16 n).extractLsb' 0 8).toNat = n := by
  simp only [BitVec.extractLsb'_toNat, BitVec.toNat_ofNat, Nat.shiftRight_eq_div_pow]
  omega

/-- A frame that the part builds passes its checks (R134). -/
theorem checkFrame_builtFrame (kind : FrameKind) (target : Byte) {payload : List Byte} (h : payload.length ≤ 2034) :
    checkFrame (builtFrame kind target payload) = .ok ⟨kind, target, 0, payload⟩ := by
  have hcode := byteOf_kindCode_toNat kind
  have hpass := checkFrame_withCrc (head := header kind target 0xFF 0 payload.length) (kind := kind) rfl h
    (by simp only [header, byteAt, List.cons_append, List.getD_cons_zero, hcode]
        rw [show (16 * kindCode kind + 1) / 16 = kindCode kind by omega, kindOf_kindCode])
    (sum8_header _ _ _ _)
    (by simp only [header, byteAt, List.cons_append, List.getD_cons_zero, hcode]
        omega)
    (word16Of_toNat (by omega))
  have hkey : flowKeyOf (header kind target 0xFF 0 payload.length) = 0 := by
    simp [flowKeyOf, byteAt, header, bytes32]
  rw [hkey] at hpass
  exact hpass

/-- A stored frame rewritten for the core link passes its checks as it did (R113). -/
theorem checkFrame_resourced (i : SlotIx) (h : checkFrame bytes = .ok info) :
    checkFrame (resourced i bytes) = .ok info := by
  obtain ⟨hlen, hhead, hcrc, hfield⟩ := checks_of_passes h
  obtain ⟨kind, hkind, hok⟩ := checkFrame_passes hlen hhead hcrc hfield
  obtain ⟨-, hheader⟩ := header_passes hhead
  obtain ⟨hlong, hshort⟩ := not_or.mp hlen
  let rest := (bytes.drop 4).take 6
  let b0 := byteAt bytes 0
  let b1 := byteAt bytes 1
  let head := [b0, b1, slotByte i, 255 - sum8 ([b0, b1, slotByte i] ++ rest)] ++ rest
  have hrest (n : Nat) (hn : n < 6) : byteAt head (4 + n) = byteAt bytes (4 + n) := by
    have hshift : byteAt head (4 + n) = byteAt rest n := by simp [head, byteAt, Nat.add_comm 4 n]
    rw [hshift]
    simp [rest, byteAt, hn]
  have hheadlen : head.length = 10 := by
    simp only [head, rest, List.length_append, List.length_take, List.length_drop, List.length_cons, List.length_nil]
    omega
  have hpayload : ((bytes.drop 10).take (bytes.length - 14)).length = bytes.length - 14 := by
    rw [List.length_take, List.length_drop]
    omega
  have hlength : (byteAt bytes 8).toNat * 256 + (byteAt bytes 9).toNat + 14 = bytes.length := not_not.mp hfield
  have hpass := checkFrame_withCrc (head := head) (payload := (bytes.drop 10).take (bytes.length - 14)) (kind := kind)
    hheadlen (by omega) hkind (sum8_header ..) (by_contra fun hv => hheader (.inr hv))
    (by rw [hrest 4 (by omega), hrest 5 (by omega), hpayload]; exact eq_tsub_of_add_eq hlength)
  have hkey : flowKeyOf head = flowKeyOf bytes := by
    simp only [flowKeyOf, hrest 0 (by omega), hrest 1 (by omega), hrest 2 (by omega), hrest 3 (by omega)]
  rw [hkey] at hpass
  exact hpass.trans (hok.symm.trans h)

/-- Settles O29: a frame with a header that the part has made, a payload and its CRC passes each check. -/
theorem sentFramesPassTheFrameChecks : Obligations.SentFramesPassTheFrameChecks :=
  ⟨fun kind target _ hlen => ⟨checkFrame_builtFrame kind target hlen, rfl⟩,
    fun i _ _ hpass => ⟨checkFrame_resourced i hpass, rfl⟩⟩

end Sys2Proof.Machine
end

section
/-! SUPPORT. Three small parts of the model, each by its cases: notices of flags and changes (R34, R187, R188), the debounce of a
signal (R158), and the receiver and transmitter of a slot link (R120–R124, R133). O19, O23, O36 and O56 are settled here. -/

namespace Sys2Proof.Machine

variable {s : State} {i : SlotIx}

/-! Notices. -/

theorem offerNotice_disabled (p : List Byte) (h : s.agent.noticesEnabled = false) : offerNotice p s = s := by
  simp [offerNotice, h]

theorem offerNotice_room (p : List Byte) (h : s.agent.noticesEnabled = true) (hroom : s.agent.transmit.length < 16) :
    offerNotice p s = s.updAgent fun a => { a with transmit := a.transmit ++ [p] } := by
  rw [offerNotice, if_pos h, if_pos (show s.agent.transmit.length < Config.transmitCapacity from hroom)]

theorem offerNotice_full (p : List Byte) (h : s.agent.noticesEnabled = true) (hfull : 16 ≤ s.agent.transmit.length) :
    offerNotice p s = bumpAgent .noticeDrops s := by
  rw [offerNotice, if_pos h, if_neg (show ¬ s.agent.transmit.length < Config.transmitCapacity from
    Nat.not_lt.mpr hfull)]

/-- The three things an offered notice can do, by what decides between them (R188). -/
theorem offerNotice_fates (p : List Byte) (s : State) :
    (s.agent.noticesEnabled = false → offerNotice p s = s)
      ∧ (s.agent.noticesEnabled = true → s.agent.transmit.length < 16 →
        offerNotice p s = { s with agent := { s.agent with transmit := s.agent.transmit ++ [p] } })
      ∧ (s.agent.noticesEnabled = true → 16 ≤ s.agent.transmit.length → offerNotice p s = bumpAgent .noticeDrops s) :=
  ⟨offerNotice_disabled p, offerNotice_room p, offerNotice_full p⟩

/-- Settles O56: a flag raised or a state changed is the record rewritten and one notice offered. -/
theorem noticesReportNewFlagsAndChanges : Obligations.NoticesReportNewFlagsAndChanges := by
  refine ⟨fun s i f h => if_pos h, fun s i f h => ?_, fun s f h => if_pos h, fun s f h => ?_,
    fun s i new h => ?_⟩
  · intro st t notice
    have hraise : raiseFlag i f s = offerNotice notice t := if_neg (by simp [h])
    rw [hraise]
    refine ⟨?_, offerNotice_fates notice t⟩
    have hbit := getLsbD_flagMask f
    simp only [t, flagSet, State.updSlot_slots, Table.get_modify_self, BitVec.getLsbD_or]
    rw [show (1#11 <<< flagBit f).getLsbD (flagBit f) = true from hbit, Bool.or_true]
  · cases f with
    | restarted =>
      intro t notice
      have hraise : raiseDeviceFlag .restarted s = offerNotice notice t := if_neg (by simp [h])
      rw [hraise]
      exact offerNotice_fates notice t
    | pinReset =>
      intro t notice
      have hraise : raiseDeviceFlag .pinReset s = offerNotice notice t := if_neg (by simp [h])
      rw [hraise]
      exact offerNotice_fates notice t
  · intro st t notice
    have hchange : changeState i new s = offerNotice notice t := if_neg h
    rw [hchange]
    exact offerNotice_fates notice t

/-! The debounce (R158). -/

section Debounce

variable {α : Type} [DecidableEq α] {d : Nat} {v : α} {g : Signal α}

theorem judge_accepted (d : Nat) (g : Signal α) : g.judge d g.accepted = ⟨g.accepted, none⟩ := by
  simp [Signal.judge, Signal.nextCandidate]

/-- A read of a new value, with no candidate or another's, begins its count. -/
theorem judge_new (hv : v ≠ g.accepted) (hc : ∀ c n, g.candidate = some (c, n) → c ≠ v) :
    g.judge d v = if d ≤ 1 then ⟨v, none⟩ else ⟨g.accepted, some (v, 1)⟩ := by
  have hnext : g.nextCandidate v = some (v, 1) := by
    unfold Signal.nextCandidate
    rw [if_neg hv]
    split
    · rfl
    · next c n h => exact if_neg (hc c n h)
  simp [Signal.judge, hnext]

/-- A read of the candidate's value raises its count. -/
theorem judge_candidate {n : Nat} (hv : v ≠ g.accepted) (hc : g.candidate = some (v, n)) :
    g.judge d v = if d ≤ n + 1 then ⟨v, none⟩ else ⟨g.accepted, some (v, n + 1)⟩ := by
  simp [Signal.judge, Signal.nextCandidate, hv, hc]

theorem readTimes_succ (n : Nat) (g : Signal α) : readTimes d v (n + 1) g = (readTimes d v n g).judge d v := by
  induction n generalizing g with
  | zero => rfl
  | succ n ih => exact ih (g.judge d v)

/-- Below `d` reads of a new value, the value is the candidate with their number. -/
theorem readTimes_below (hv : v ≠ g.accepted) (hc : ∀ c n, g.candidate = some (c, n) → c ≠ v) (n : Nat)
    (hn : n + 1 < d) : readTimes d v (n + 1) g = ⟨g.accepted, some (v, n + 1)⟩ := by
  induction n with
  | zero => rw [readTimes_succ, readTimes, judge_new hv hc, if_neg (by omega)]
  | succ n ih =>
    rw [readTimes_succ, ih (by omega), judge_candidate (g := ⟨g.accepted, some (v, n + 1)⟩) hv rfl, if_neg (by omega)]

theorem readTimes_reaches (hd : 1 ≤ d) (hv : v ≠ g.accepted) (hc : ∀ c n, g.candidate = some (c, n) → c ≠ v) :
    readTimes d v d g = ⟨v, none⟩ := by
  obtain ⟨n, rfl⟩ := Nat.exists_eq_add_of_le' hd
  cases n with
  | zero => rw [readTimes_succ, readTimes, judge_new hv hc, if_pos (by omega)]
  | succ n =>
    rw [readTimes_succ, readTimes_below hv hc n (by omega),
      judge_candidate (g := ⟨g.accepted, some (v, n + 1)⟩) hv rfl, if_pos (by omega)]

end Debounce

/-- Settles O36: by induction on the reads of the new value. -/
theorem signalsAreDebounced : Obligations.SignalsAreDebounced := by
  intro α _ d v g hd
  refine ⟨fun hv hc => ⟨fun n hn => ?_, readTimes_reaches hd hv hc⟩, judge_accepted d g⟩
  cases n with
  | zero => exact ⟨rfl, fun h => absurd h (by omega)⟩
  | succ n =>
    rw [readTimes_below hv hc n hn]
    exact ⟨rfl, fun _ => rfl⟩

/-! The receiver of a link (R120, R123, R124, R126). -/

theorem Table.modify_congr {α : Type} {n : Nat} (t : Table α n) (i : Fin n) {f g : α → α} (h : f (t.get i) = g (t.get i)) :
    t.modify i f = t.modify i g := by
  refine Table.ext_get fun j => ?_
  rw [Table.get_modify, Table.get_modify, h]

theorem Table.modify_id {α : Type} {n : Nat} (t : Table α n) (i : Fin n) {f : α → α} (h : f (t.get i) = t.get i) :
    t.modify i f = t := by
  refine Table.ext_get fun j => ?_
  rw [Table.get_modify]
  split
  · next hj => rw [hj, h]
  · rfl

theorem Table.modify_modify {α : Type} {n : Nat} (t : Table α n) (i : Fin n) (f g : α → α) :
    (t.modify i f).modify i g = t.modify i fun a => g (f a) := by
  refine Table.ext_get fun j => ?_
  by_cases hj : j = i
  · subst hj
    simp
  · simp [Table.get_modify_of_ne _ hj]

/-- Two rewritings that agree on the link as it is rewrite it alike. -/
theorem updLink_congr {f g : LinkRecord → LinkRecord} (h : f (s.links.get i) = g (s.links.get i)) :
    s.updLink i f = s.updLink i g :=
  congrArg (fun links => { s with links := links }) (Table.modify_congr _ _ h)

theorem updLink_id {f : LinkRecord → LinkRecord} (h : f (s.links.get i) = s.links.get i) : s.updLink i f = s :=
  congrArg (fun links => { s with links := links }) (Table.modify_id _ _ h)

theorem updLink_updLink (f g : LinkRecord → LinkRecord) : (s.updLink i f).updLink i g = s.updLink i fun l => g (f l) :=
  congrArg (fun links => { s with links := links }) (Table.modify_modify _ _ f g)

theorem exec_lockLost_without_reception (hlock : (s.links.get i).lock = true) (hrx : (s.links.get i).rx = none) :
    exec (.lockLost i) s = .next (s.updLink i LinkRecord.loseLock) := by
  simp [exec, execLockLost, hlock, cutReception, hrx]

theorem exec_lockLost_in_reception {stored : Bool} (hlock : (s.links.get i).lock = true)
    (hrx : (s.links.get i).rx = some stored) :
    exec (.lockLost i) s = .next (bumpSlot i (if stored then .rxAborted else .noBuffer)
      (s.updLink i fun l => { l with rx := none }.loseLock)) := by
  simp only [exec, execLockLost, hlock, if_true, cutReception, hrx]
  exact congrArg (fun u => Host.Outcome.next (bumpSlot i _ u)) (updLink_updLink _ LinkRecord.loseLock)

/-- Settles O19: by the state of the link. -/
theorem lockFollowsTheReceiver : Obligations.LockFollowsTheReceiver := by
  refine ⟨fun s i hdark => ⟨?_, fun hlock => ?_⟩, fun s i htraining => ?_, fun s i hstate => ?_,
    fun s i hlock hrx => ⟨fun hstate htimer hgained => ?_, fun hstate hgained => ?_, fun hstate hlost => ?_,
      fun hstate hlost => ?_, fun hstate => ?_⟩, fun s i stored hlock hrx hstate => ?_⟩
  · exact congrArg Host.Outcome.next (updLink_id (by simp [LinkRecord.gainLock, hdark]))
  · simp [exec, execLockLost, hlock]
  · exact congrArg Host.Outcome.next (updLink_congr (by simp [LinkRecord.gainLock, htraining]))
  · refine congrArg Host.Outcome.next (updLink_congr ?_)
    obtain h | h := hstate <;> simp [LinkRecord.gainLock, h]
  · rw [exec_lockLost_without_reception hlock hrx]
    refine congrArg Host.Outcome.next (updLink_congr ?_)
    simp [LinkRecord.loseLock, hstate, hgained, Option.isSome_iff_ne_none, htimer]
  · rw [exec_lockLost_without_reception hlock hrx]
    refine congrArg Host.Outcome.next (updLink_congr ?_)
    simp [LinkRecord.loseLock, hstate, hgained]
  · rw [exec_lockLost_without_reception hlock hrx]
    refine congrArg Host.Outcome.next (updLink_congr ?_)
    simp [LinkRecord.loseLock, hstate, hlost]
  · rw [exec_lockLost_without_reception hlock hrx]
    refine congrArg Host.Outcome.next (updLink_congr ?_)
    simp [LinkRecord.loseLock, hstate, hlost]
  · rw [exec_lockLost_without_reception hlock hrx]
    refine congrArg Host.Outcome.next (updLink_congr ?_)
    simp [LinkRecord.loseLock, hstate]
  · rw [exec_lockLost_in_reception hlock hrx]
    refine congrArg (fun u => Host.Outcome.next (bumpSlot i _ u)) (updLink_congr ?_)
    obtain h | h := hstate
    · simp [LinkRecord.loseLock, h]
    · cases hlost : (s.links.get i).lost <;> simp [LinkRecord.loseLock, h]

/-! The transmitter of a link (R133). -/

theorem exec_slotTxStart_control {f : ControlFrame} {rest : List ControlFrame} (hcarries : (s.links.get i).carries = true)
    (hlock : (s.links.get i).lock = true) (htx : (s.links.get i).tx = none) (hcontrol : (s.links.get i).control = f :: rest) :
    exec (.slotTxStart i) s = .next (s.updLink i fun l =>
      { l with control := rest, tx := some (.control (controlBytes s i f)) }) := by
  simp [exec, execSlotTxStart, hcarries, hlock, htx, hcontrol]

theorem exec_slotTxStart_data (hcarries : (s.links.get i).carries = true)
    (hlock : (s.links.get i).lock = true) (htx : (s.links.get i).tx = none) (hcontrol : (s.links.get i).control = []) :
    exec (.slotTxStart i) s = .next (if (s.links.get i).remotePause = none ∧ s.egress.get i ≠ [] then
      s.updLink i fun l => { l with tx := some .data } else s) := by
  simp [exec, execSlotTxStart, hcarries, hlock, htx, hcontrol]

/-- Settles O23: a ready link takes from its control list first. -/
theorem slotLinksSendControlFramesFirst : Obligations.SlotLinksSendControlFramesFirst := by
  refine ⟨fun s i hup hlost hlock htx => ?_, fun s i bytes htx => ?_⟩
  · have hcarries := carries_of_up hup hlost
    refine ⟨fun f rest hcontrol => ?_, fun hcontrol hpause hqueue => ?_, fun hcontrol hnothing => ?_⟩
    · refine (exec_slotTxStart_control hcarries hlock htx hcontrol).trans (congrArg Host.Outcome.next (updLink_congr ?_))
      cases f
      case admitNotice => cases h : (s.slots.get i).pool <;> simp [controlBytes, h, absentByte, byteOf]
      all_goals rfl
    · rw [exec_slotTxStart_data hcarries hlock htx hcontrol, if_pos ⟨hpause, hqueue⟩]
    · rw [exec_slotTxStart_data hcarries hlock htx hcontrol, if_neg]
      rintro ⟨hpause, hqueue⟩
      exact hnothing.elim (· hpause) hqueue
  · simp [exec, execControlTxEnd, LinkRecord.sendsControl, htx]

end Sys2Proof.Machine
end

section
/-! SUPPORT. Frames are conserved: no operation but an arrival takes a cell of the Frame Buffer, no queue grows past its
capacity, and a bin's in-flight count stays the number of its frames in egress queues (`Flows`; R40, R63, R85, R93, R103). -/

namespace Sys2Proof.Machine

/-! Sums over tables. -/

theorem tableSum_eq_sum {α : Type} {n : Nat} (f : α → Nat) (t : Table α n) : tableSum f t = ∑ i, f (t.get i) := by
  rw [tableSum, Table.cells_eq_map, List.map_map, Fin.sum_univ_def]
  rfl

theorem tableSum_le {α : Type} {n : Nat} {f : α → Nat} {t u : Table α n} (h : ∀ i, f (t.get i) ≤ f (u.get i)) :
    tableSum f t ≤ tableSum f u := by
  rw [tableSum_eq_sum, tableSum_eq_sum]
  exact Finset.sum_le_sum fun i _ => h i

/-- A sum over slots or engines in which one term changes. -/
theorem sum_change {n : Nat} {f g : Fin n → Nat} (i : Fin n) (h : ∀ j, j ≠ i → f j = g j) :
    (∑ j, f j) + g i = (∑ j, g j) + f i := by
  have hf := Finset.add_sum_erase Finset.univ f (Finset.mem_univ i)
  have hg := Finset.add_sum_erase Finset.univ g (Finset.mem_univ i)
  have hrest : ∑ j ∈ Finset.univ.erase i, f j = ∑ j ∈ Finset.univ.erase i, g j :=
    Finset.sum_congr rfl fun j hj => h j (Finset.ne_of_mem_erase hj)
  omega

theorem tableSum_change {α : Type} {n : Nat} (f : α → Nat) {t u : Table α n} (i : Fin n)
    (h : ∀ j, j ≠ i → t.get j = u.get j) : tableSum f t + f (u.get i) = tableSum f u + f (t.get i) := by
  rw [tableSum_eq_sum, tableSum_eq_sum]
  exact sum_change (f := fun j => f (t.get j)) (g := fun j => f (u.get j)) i fun j hj => by rw [h j hj]

theorem tableSum_set {α : Type} {n : Nat} (f : α → Nat) (t : Table α n) (i : Fin n) (a : α) :
    tableSum f (t.set i a) + f (t.get i) = tableSum f t + f a := by
  have h := tableSum_change f (t := t.set i a) (u := t) i fun j hj => Table.get_set_of_ne t hj a
  rwa [Table.get_set_self] at h

/-! Frames steered through a bin. -/

/-- The frames of an egress queue that are steered through bin `b` of pool `p`. -/
def steeredIn (p : PoolIx) (b : BinIx) (q : List EgressEntry) : Nat :=
  (q.filter fun entry => entry.steered = some (p, b)).length

theorem steeredFrames_eq_sum (s : State) (p : PoolIx) (b : BinIx) :
    steeredFrames s p b = ∑ i, steeredIn p b (s.egress.get i) :=
  (Fin.sum_univ_def fun i => steeredIn p b (s.egress.get i)).symm

theorem steeredFrames_congr {s t : State} (h : t.egress = s.egress) (p : PoolIx) (b : BinIx) :
    steeredFrames t p b = steeredFrames s p b := by
  rw [steeredFrames, steeredFrames, h]

theorem steeredFrames_setEgress (s : State) (i : SlotIx) (q : List EgressEntry) (p : PoolIx) (b : BinIx) :
    steeredFrames (s.setEgress i q) p b + steeredIn p b (s.egress.get i) = steeredFrames s p b + steeredIn p b q := by
  rw [steeredFrames_eq_sum, steeredFrames_eq_sum]
  have h := sum_change (f := fun j => steeredIn p b ((s.setEgress i q).egress.get j))
    (g := fun j => steeredIn p b (s.egress.get j)) i fun j hj => by
      simp [Table.get_set_of_ne _ hj]
  simpa using h

/-! Conservation. -/

/-- Every hold list is within its capacity (R63). -/
def HoldsWithin (s : State) : Prop := ∀ e m, s.engines.get e = some m → m.hold.length ≤ 32

/-- Frames are conserved from `s` to `t`. -/
structure Flows (s t : State) : Prop where
  cells : cellsInUse t ≤ cellsInUse s
  egress : ∀ i, (t.egress.get i).length ≤ max 256 (s.egress.get i).length
  holds : HoldsWithin s → HoldsWithin t
  upstream : ∀ i, (t.upstream.get i).queue.length ≤ (s.upstream.get i).queue.length
  inflight : InflightLaw s → InflightLaw t

theorem Flows.refl (s : State) : Flows s s := ⟨le_rfl, fun _ => le_max_right _ _, id, fun _ => le_rfl, id⟩

theorem Flows.trans {s t u : State} (h : Flows s t) (h' : Flows t u) : Flows s u where
  cells := h'.cells.trans h.cells
  egress i := by
    have := h.egress i
    have := h'.egress i
    omega
  holds hs := h'.holds (h.holds hs)
  upstream i := (h'.upstream i).trans (h.upstream i)
  inflight hs := h'.inflight (h.inflight hs)

theorem Flows.ite {s t t' : State} {c : Prop} [Decidable c] (h : c → Flows s t) (h' : ¬ c → Flows s t') :
    Flows s (if c then t else t') := by
  split
  · exact h ‹_›
  · exact h' ‹_›

theorem forEach_flows {ι : Type} {f : ι → State → State} (h : ∀ i s, Flows s (f i s)) (is : List ι) (s : State) :
    Flows s (forEach f is s) :=
  forEach_relates .refl (fun _ _ _ => .trans) h is s

theorem cellsInUse_le {s t : State} (hcore : receptionCells t.core.rx ≤ receptionCells s.core.rx)
    (hlinks : ∀ i, receptionCells (t.links.get i).rx ≤ receptionCells (s.links.get i).rx)
    (hegress : ∀ i, (t.egress.get i).length ≤ (s.egress.get i).length)
    (hengines : ∀ e, holdCells (t.engines.get e) ≤ holdCells (s.engines.get e))
    (hupstream : ∀ i, (t.upstream.get i).queue.length ≤ (s.upstream.get i).queue.length) :
    cellsInUse t ≤ cellsInUse s := by
  have h1 := tableSum_le (f := fun l : LinkRecord => receptionCells l.rx) hlinks
  have h2 := tableSum_le (f := List.length) hegress
  have h3 := tableSum_le (f := holdCells) hengines
  have h4 := tableSum_le (f := fun u : UpstreamRecord => u.queue.length) hupstream
  simp only [cellsInUse]
  omega

/-- What changes no egress queue, engine and in-flight count, and lets no reception or upstream queue grow, conserves
frames. -/
theorem Flows.of_still {s t : State} (hegress : t.egress = s.egress) (hengines : t.engines = s.engines)
    (hbins : ∀ p b, ((t.pools.get p).bins.get b).inflight = ((s.pools.get p).bins.get b).inflight)
    (hcore : receptionCells t.core.rx ≤ receptionCells s.core.rx)
    (hlinks : ∀ i, receptionCells (t.links.get i).rx ≤ receptionCells (s.links.get i).rx)
    (hupstream : ∀ i, (t.upstream.get i).queue.length ≤ (s.upstream.get i).queue.length) : Flows s t where
  cells := cellsInUse_le hcore hlinks (fun i => by rw [hegress]) (fun e => by rw [hengines]) hupstream
  egress i := by rw [hegress]; exact le_max_right _ _
  holds hs e m he := hs e m (hengines ▸ he)
  upstream := hupstream
  inflight hs p b := by rw [hbins, hs p b, steeredFrames_congr hegress]

variable (s : State)

theorem Flows.updSlot (i : SlotIx) (f : SlotRecord → SlotRecord) : Flows s (s.updSlot i f) :=
  .of_still rfl rfl (fun _ _ => rfl) le_rfl (fun _ => le_rfl) fun _ => le_rfl

theorem Flows.agent (a : AgentRecord) : Flows s { s with agent := a } :=
  .of_still rfl rfl (fun _ _ => rfl) le_rfl (fun _ => le_rfl) fun _ => le_rfl

theorem Flows.updMonitor (i : SlotIx) (f : MonitorRecord → MonitorRecord) : Flows s (s.updMonitor i f) :=
  .of_still rfl rfl (fun _ _ => rfl) le_rfl (fun _ => le_rfl) fun _ => le_rfl

theorem Flows.updPort (i : SlotIx) (f : PortRecord → PortRecord) : Flows s (s.updPort i f) :=
  .of_still rfl rfl (fun _ _ => rfl) le_rfl (fun _ => le_rfl) fun _ => le_rfl

theorem Flows.updScanner (f : ScannerRecord → ScannerRecord) : Flows s (s.updScanner f) :=
  .of_still rfl rfl (fun _ _ => rfl) le_rfl (fun _ => le_rfl) fun _ => le_rfl

theorem Flows.updLamps (f : LampRecord → LampRecord) : Flows s (s.updLamps f) :=
  .of_still rfl rfl (fun _ _ => rfl) le_rfl (fun _ => le_rfl) fun _ => le_rfl

theorem Flows.bumpSlotBy (i : SlotIx) (c : SlotCounter) (n : Nat) : Flows s (bumpSlotBy i c n s) :=
  .of_still rfl rfl (fun _ _ => rfl) le_rfl (fun _ => le_rfl) fun _ => le_rfl

/-- The core port changes with no reception begun. -/
theorem Flows.updCore {f : CorePort → CorePort} (hf : ∀ k, receptionCells (f k).rx ≤ receptionCells k.rx) :
    Flows s (s.updCore f) :=
  .of_still rfl rfl (fun _ _ => rfl) (hf _) (fun _ => le_rfl) fun _ => le_rfl

/-- A link changes with no reception begun. -/
theorem Flows.updLink (i : SlotIx) {f : LinkRecord → LinkRecord}
    (hf : ∀ l, receptionCells (f l).rx ≤ receptionCells l.rx) : Flows s (s.updLink i f) :=
  .of_still rfl rfl (fun _ _ => rfl) le_rfl (fun j => by
    rw [State.updLink_links, Table.get_modify]
    split
    · next h => rw [h]; exact hf _
    · exact le_rfl) fun _ => le_rfl

/-- An upstream record changes, its queue not growing. -/
theorem Flows.updUpstream (i : SlotIx) {f : UpstreamRecord → UpstreamRecord}
    (hf : ∀ u, (f u).queue.length ≤ u.queue.length) : Flows s (s.updUpstream i f) :=
  .of_still rfl rfl (fun _ _ => rfl) le_rfl (fun _ => le_rfl) fun j => by
    rw [State.updUpstream_upstream, Table.get_modify]
    split
    · next h => rw [h]; exact hf _
    · exact le_rfl

/-- A pool changes, its in-flight counts kept. -/
theorem Flows.updPool {p : PoolIx} {f : PoolRecord → PoolRecord}
    (hf : ∀ r b, ((f r).bins.get b).inflight = (r.bins.get b).inflight) : Flows s (s.updPool p f) :=
  .of_still rfl rfl (fun q b => by
    rw [State.updPool_pools, Table.get_modify]
    split
    · next h => rw [h]; exact hf _ _
    · rfl) le_rfl (fun _ => le_rfl) fun _ => le_rfl

theorem Flows.updBin (p : PoolIx) (b : BinIx) {f : BinRecord → BinRecord} (hf : ∀ r, (f r).inflight = r.inflight) :
    Flows s (s.updBin p b f) :=
  .updPool s fun r c => by
    dsimp only
    rw [Table.get_modify]
    split
    · next h => rw [h]; exact hf _
    · rfl

theorem bumpPool_flows (p : PoolIx) (c : PoolCounter) (n : Nat) : Flows s (bumpPool p c n s) :=
  .updPool s fun _ _ => rfl

theorem offerNotice_flows (p : List Byte) : Flows s (offerNotice p s) := by
  obtain ⟨a, h⟩ := offerNotice_frame p s
  rw [h]
  exact .agent s a

theorem raiseFlag_flows (i : SlotIx) (f : SlotFlag) : Flows s (raiseFlag i f s) :=
  .ite (fun _ => .refl s) fun _ => (Flows.updSlot s i _).trans (offerNotice_flows _ _)

theorem changeState_flows (i : SlotIx) (new : SlotState) : Flows s (changeState i new s) :=
  .ite (fun _ => .refl s) fun _ => (Flows.updSlot s i _).trans (offerNotice_flows _ _)

theorem askControl_flows (i : SlotIx) (f : ControlFrame) : Flows s (askControl i f s) :=
  .ite (fun _ => .updLink s i fun _ => le_rfl) fun _ => .refl s

theorem evaluateConfirmation_flows (i : SlotIx) : Flows s (evaluateConfirmation i s) :=
  .ite (fun _ => ((changeState_flows s i _).trans (askControl_flows _ i _)).trans (.updSlot _ i _)) fun _ => .refl s

theorem evaluateAdmission_flows (i : SlotIx) : Flows s (evaluateAdmission i s) :=
  .ite (fun _ => changeState_flows s i _) fun _ => .refl s

theorem reportHoldings_flows (i : SlotIx) : Flows s (reportHoldings i s) :=
  (evaluateAdmission_flows s i).trans (evaluateConfirmation_flows _ i)

/-! Pools. -/

theorem giveBins_flows (p : PoolIx) (gifts : List (BinIx × SlotIx)) : Flows s (giveBins p gifts s) := by
  refine .trans ?_ (bumpPool_flows _ p _ _)
  refine forEach_flows (fun g s => ?_) gifts s
  exact .updBin s p g.1 fun _ => rfl

theorem rebuildPlan_flows (p : PoolIx) : Flows s (rebuildPlan p s) := .updPool s fun _ _ => rfl

theorem recomputeTables_flows (p : PoolIx) : Flows s (recomputeTables p s) := by
  refine .trans ?_ (rebuildPlan_flows _ p)
  refine .trans ?_ (giveBins_flows _ p _)
  exact .updPool s fun _ _ => rfl

theorem recompute_flows (p : PoolIx) : Flows s (recompute p s) :=
  .ite (fun _ => (recomputeTables_flows s p).trans (forEach_flows (fun i s => reportHoldings_flows s i) _ _))
    fun _ => .refl s

theorem adoptBins_flows (p : PoolIx) (i : SlotIx) : Flows s (adoptBins p i s) := by
  have hadopt : Flows s (s.updPool p fun r =>
      { r with bins := Table.tab fun b =>
          let br := r.bins.get b
          if br.owner = .stale i then { br with owner := .owned i } else br }) := by
    refine .updPool s fun r b => ?_
    simp only [Table.get_tab]
    split <;> rfl
  exact .ite (fun _ => hadopt.trans (.updPool _ fun _ _ => rfl)) fun _ => hadopt

theorem dropStale_flows (p : PoolIx) : Flows s (dropStale p s) := by
  refine .updPool s fun r b => ?_
  simp only [Table.get_tab]
  split <;> rfl

theorem gainEligibility_flows (i : SlotIx) : Flows s (gainEligibility i s) := by
  unfold gainEligibility
  split
  · next p _ =>
    refine .ite (fun _ => ?_) fun _ => .refl s
    exact (Flows.ite (fun _ => adoptBins_flows s p i) fun _ => .refl s).trans (recompute_flows _ p)
  · exact .refl s

theorem disownBins_flows (p : PoolIx) (i : SlotIx) : Flows s (disownBins p i s) := by
  refine .updPool s fun r b => ?_
  simp only [Table.get_tab]
  split <;> rfl

theorem giveAway_flows (p : PoolIx) (i : SlotIx) : Flows s (giveAway p i s) :=
  .ite (fun _ => disownBins_flows s p i) fun _ => giveBins_flows s p _

theorem releaseBins_flows (i : SlotIx) : Flows s (releaseBins i s) := by
  unfold releaseBins
  split
  · exact .refl s
  · exact (disownBins_flows s _ i).trans (reportHoldings_flows _ i)

end Sys2Proof.Machine
end

section
/-! SUPPORT. Frames are conserved by the moves and by what leaves an egress queue (R40, R67–R78, R94, R96): a hold list passes to
an egress queue as far as there is room, and a frame that leaves takes its bin's count with it. -/

namespace Sys2Proof.Machine

variable (s : State)

/-! Offers to egress queues (R93). -/

/-- Frames, at most `n` of them, have been offered to egress queues. -/
structure Offers (n : Nat) (s t : State) : Prop where
  cells : cellsInUse t ≤ cellsInUse s + n
  egress : ∀ i, (t.egress.get i).length ≤ max 256 (s.egress.get i).length
  engines : t.engines = s.engines
  upstream : t.upstream = s.upstream
  inflight : InflightLaw s → InflightLaw t

theorem Offers.refl : Offers 0 s s := ⟨le_rfl, fun _ => le_max_right _ _, rfl, rfl, id⟩

theorem Offers.trans {m n : Nat} {s t u : State} (h : Offers m s t) (h' : Offers n t u) : Offers (n + m) s u where
  cells := by
    have := h.cells
    have := h'.cells
    omega
  egress i := by
    have := h.egress i
    have := h'.egress i
    omega
  engines := h'.engines.trans h.engines
  upstream := h'.upstream.trans h.upstream
  inflight hs := h'.inflight (h.inflight hs)

theorem Offers.mono {m n : Nat} {s t : State} (h : Offers m s t) (hmn : m ≤ n) : Offers n s t :=
  { h with cells := h.cells.trans (by omega) }

theorem steeredIn_append (p : PoolIx) (b : BinIx) (q : List EgressEntry) (entry : EgressEntry) :
    steeredIn p b (q ++ [entry]) = steeredIn p b q + if entry.steered = some (p, b) then 1 else 0 := by
  simp only [steeredIn, List.filter_append, List.length_append, List.filter_singleton]
  split <;> simp_all

theorem steeredIn_cons (p : PoolIx) (b : BinIx) (q : List EgressEntry) (entry : EgressEntry) :
    steeredIn p b (entry :: q) = steeredIn p b q + if entry.steered = some (p, b) then 1 else 0 := by
  simp only [steeredIn, List.filter_cons]
  split <;> simp_all

/-- An egress queue rewritten changes the cells in use by the change of its length. -/
theorem cellsInUse_setEgress (i : SlotIx) (q : List EgressEntry) :
    cellsInUse (s.setEgress i q) + (s.egress.get i).length = cellsInUse s + q.length := by
  have h := tableSum_set List.length s.egress i q
  simp only [cellsInUse, State.setEgress]
  omega

theorem cellsInUse_updBin (p : PoolIx) (b : BinIx) (f : BinRecord → BinRecord) :
    cellsInUse (s.updBin p b f) = cellsInUse s := rfl

theorem get_bin_updBin (p q : PoolIx) (b c : BinIx) (f : BinRecord → BinRecord) :
    ((s.updBin p b f).pools.get q).bins.get c
      = if q = p ∧ c = b then f ((s.pools.get q).bins.get c) else (s.pools.get q).bins.get c := by
  by_cases hq : q = p
  · subst hq
    by_cases hc : c = b
    · subst hc
      simp
    · simp [hc, Table.get_modify_of_ne]
  · simp [hq, Table.get_modify_of_ne]

theorem offerEgress_offers (i : SlotIx) (entry : EgressEntry) : Offers 1 s (offerEgress i entry s) := by
  have hjoin := cellsInUse_setEgress s i (s.egress.get i ++ [entry])
  have hsteered := steeredFrames_setEgress s i (s.egress.get i ++ [entry])
  have hgrow (hroom : (s.egress.get i).length < 256) (j : SlotIx) :
      ((s.setEgress i (s.egress.get i ++ [entry])).egress.get j).length ≤ max 256 (s.egress.get j).length := by
    rw [State.setEgress_egress, Table.get_set]
    split
    · rw [List.length_append, List.length_singleton]
      exact le_max_of_le_left hroom
    · exact le_max_right _ _
  simp only [List.length_append, List.length_singleton, steeredIn_append] at hjoin hsteered
  obtain ⟨hroom, ⟨hnone, h⟩ | ⟨p, b, hsome, h⟩⟩ | ⟨-, h⟩ := offerEgress_cases i entry s <;> rw [h]
  · refine ⟨by omega, hgrow hroom, rfl, rfl, fun hlaw p b => ?_⟩
    have := hsteered p b
    have := hlaw p b
    simp only [hnone, reduceCtorEq, if_false, State.setEgress_pools] at *
    omega
  · refine ⟨by rw [cellsInUse_updBin]; omega, hgrow hroom, rfl, rfl, fun hlaw q c => ?_⟩
    have h1 := hsteered q c
    have h2 := hlaw q c
    rw [steeredFrames_congr (State.updBin_egress ..), get_bin_updBin, State.setEgress_pools]
    simp only [hsome, Option.some.injEq, Prod.mk.injEq] at h1
    by_cases hqc : q = p ∧ c = b
    · rw [if_pos hqc]
      rw [if_pos ⟨hqc.1.symm, hqc.2.symm⟩] at h1
      dsimp only
      omega
    · rw [if_neg hqc]
      rw [if_neg fun e => hqc ⟨e.1.symm, e.2.symm⟩] at h1
      omega
  · exact ⟨Nat.le_succ _, fun _ => le_max_right _ _, rfl, rfl, id⟩

theorem releaseHold_offers (i : SlotIx) (p : PoolIx) (b : BinIx) (hold : List FrameBytes) :
    Offers hold.length s (releaseHold i p b hold s) := by
  induction hold generalizing s with
  | nil => exact .refl s
  | cons bytes rest ih => exact (offerEgress_offers s i ⟨bytes, some (p, b)⟩).trans (ih _)

/-! Engines (R65–R78). -/

theorem cellsInUse_setEngine (e : EngineIx) (m : Option MoveRecord) :
    cellsInUse (s.setEngine e m) + holdCells (s.engines.get e) = cellsInUse s + holdCells m := by
  have h := tableSum_set holdCells s.engines e m
  simp only [cellsInUse, State.setEngine]
  omega

/-- An engine's record is rewritten with no more held frames, its hold list within capacity as it was. -/
theorem setEngine_flows (e : EngineIx) {m : Option MoveRecord} (h : holdCells m ≤ holdCells (s.engines.get e)) :
    Flows s (s.setEngine e m) where
  cells := by
    have := cellsInUse_setEngine s e m
    omega
  egress _ := le_max_right _ _
  holds hs e' m' he' := by
    rw [State.setEngine_engines, Table.get_set] at he'
    split at he'
    · subst he'
      cases hold : s.engines.get e with
      | none =>
        rw [hold] at h
        exact h.trans (Nat.zero_le _)
      | some m0 =>
        rw [hold] at h
        exact h.trans (hs e m0 hold)
    · exact hs e' m' he'
  upstream _ := le_rfl
  inflight := id

/-- A hold list passes to egress queues as its engine becomes IDLE. -/
theorem Offers.free {s t : State} {e : EngineIx} {m : MoveRecord} (h : Offers m.hold.length s t)
    (he : s.engines.get e = some m) : Flows s (freeEngine e m t) := by
  have hcells := cellsInUse_setEngine (t.updBin m.pool m.bin fun r => { r with engine := none }) e none
  rw [State.updBin_engines, h.engines, he, cellsInUse_updBin] at hcells
  have hle := h.cells
  have hbin := Flows.updBin t m.pool m.bin (f := fun r => { r with engine := none }) fun _ => rfl
  have hengine := setEngine_flows (t.updBin m.pool m.bin fun r => { r with engine := none }) e (m := none)
    (Nat.zero_le _)
  exact {
    cells := by
      have hfree : freeEngine e m t = (t.updBin m.pool m.bin fun r => { r with engine := none }).setEngine e none := rfl
      simp only [holdCells] at hcells
      rw [hfree]
      omega
    egress := h.egress
    holds := fun hs => hengine.holds (hbin.holds fun e' m' he' => hs e' m' (h.engines ▸ he'))
    upstream := fun i => by
      have : (freeEngine e m t).upstream = s.upstream := h.upstream
      rw [this]
    inflight := fun hs => hengine.inflight (hbin.inflight (h.inflight hs)) }

theorem commitMove_flows {e : EngineIx} {m : MoveRecord} (he : s.engines.get e = some m) : Flows s (commitMove e m s) := by
  refine .trans ?_ (bumpPool_flows _ m.pool _ _)
  refine .trans (Flows.updBin s m.pool m.bin (f := fun r => { r with owner := .owned m.destination }) fun _ => rfl) ?_
  exact (releaseHold_offers _ m.destination m.pool m.bin m.hold).free he

theorem abortMove_flows {e : EngineIx} {m : MoveRecord} (he : s.engines.get e = some m) : Flows s (abortMove e m s) :=
  ((releaseHold_offers s m.source m.pool m.bin m.hold).free he).trans (bumpPool_flows _ m.pool _ _)

theorem abortDiscard_flows {e : EngineIx} {m : MoveRecord} : Flows s (abortDiscard e m s) := by
  refine .trans ?_ (bumpPool_flows _ m.pool _ _)
  refine .trans (Flows.bumpSlotBy s m.source .flushed m.hold.length) ?_
  refine .trans ?_ (setEngine_flows _ e (Nat.zero_le _))
  exact .updBin _ m.pool m.bin fun _ => rfl

theorem onMoves_flows {q : MoveRecord → Bool} {f : EngineIx → MoveRecord → State → State}
    (h : ∀ e m s, s.engines.get e = some m → Flows s (f e m s)) : Flows s (onMoves q f s) := by
  refine forEach_flows (fun e s => ?_) _ s
  split
  · next m hm => exact .ite (fun _ => h _ _ _ hm) fun _ => .refl s
  · exact .refl s

theorem afterCommit_flows (m : MoveRecord) : Flows s (afterCommit m s) :=
  .ite (fun _ => recompute_flows s _) fun _ => (reportHoldings_flows s _).trans (reportHoldings_flows _ _)

theorem engineCommit_flows {e : EngineIx} {m : MoveRecord} (he : s.engines.get e = some m) :
    Flows s (engineCommit e m s) :=
  (commitMove_flows s he).trans (afterCommit_flows _ m)

theorem drainEnd_flows {e : EngineIx} {m : MoveRecord} (he : s.engines.get e = some m) : Flows s (drainEnd e m s) :=
  .ite (fun _ => engineCommit_flows s he) fun _ => setEngine_flows s e (by rw [he]; exact le_rfl)

theorem loseEligibility_flows (i : SlotIx) : Flows s (loseEligibility i s) := by
  unfold loseEligibility
  split
  · exact .ite (fun _ => (onMoves_flows s fun _ _ s he => abortMove_flows s he).trans (recompute_flows _ _))
      fun _ => .refl s
  · exact .refl s

theorem evacuate_flows (i : SlotIx) : Flows s (evacuate i s) := by
  unfold evacuate
  split
  · exact .refl s
  · next p _ =>
    refine .trans ?_ (forEach_flows (fun i s => reportHoldings_flows s i) _ _)
    refine .trans ?_ (rebuildPlan_flows _ p)
    refine .trans ?_ (giveAway_flows _ p i)
    exact (onMoves_flows s fun _ _ s he => commitMove_flows s he).trans
      (onMoves_flows _ fun _ _ s he => abortMove_flows s he)

/-! Frames that leave an egress queue (R40, R94, R96). -/

/-- Once a bin's count has fallen, the rest of what a frame that has left does conserves frames. -/
theorem lowerInflight_flows (p : PoolIx) (b : BinIx) :
    Flows (s.updBin p b fun r => { r with inflight := r.inflight - 1 }) (lowerInflight p b s) := by
  simp only [lowerInflight]
  split
  · exact .refl _
  · split
    · exact .refl _
    · next m hm => exact .ite (fun _ => drainEnd_flows _ hm) fun _ => .refl _

theorem popEgress_eq {i : SlotIx} {entry : EgressEntry} {rest : List EgressEntry} (h : s.egress.get i = entry :: rest) :
    popEgress i s = s.setEgress i rest := by
  rw [popEgress, h, List.tail_cons]

/-- The head of an egress queue leaves, its bin's count with it. -/
theorem reportLeft_flows {i : SlotIx} {entry : EgressEntry} {rest : List EgressEntry} (c : SlotCounter)
    (h : s.egress.get i = entry :: rest) : Flows s (reportLeft entry (bumpSlot i c (popEgress i s))) := by
  have hcells := cellsInUse_setEgress s i rest
  have hsteered := steeredFrames_setEgress s i rest
  simp only [h, steeredIn_cons, List.length_cons] at hcells hsteered
  have hshrink (j : SlotIx) : ((s.setEgress i rest).egress.get j).length ≤ max 256 (s.egress.get j).length := by
    rw [State.setEgress_egress, Table.get_set]
    split
    · next hj =>
      rw [hj, h, List.length_cons]
      omega
    · exact le_max_right _ _
  rw [popEgress_eq s h]
  unfold reportLeft
  split
  · next p b hsome =>
    refine .trans ?_ (lowerInflight_flows _ p b)
    refine ⟨?_, hshrink, id, fun _ => le_rfl, fun hlaw q d => ?_⟩
    · have : cellsInUse ((bumpSlot i c (s.setEgress i rest)).updBin p b fun r => { r with inflight := r.inflight - 1 })
          = cellsInUse (s.setEgress i rest) := rfl
      omega
    · have h1 := hsteered q d
      have h2 := hlaw q d
      have hsame : steeredFrames ((bumpSlot i c (s.setEgress i rest)).updBin p b
          fun r => { r with inflight := r.inflight - 1 }) q d = steeredFrames (s.setEgress i rest) q d :=
        steeredFrames_congr rfl q d
      rw [get_bin_updBin, hsame]
      simp only [hsome, Option.some.injEq, Prod.mk.injEq] at h1
      by_cases hqd : q = p ∧ d = b
      · rw [if_pos hqd]
        rw [if_pos ⟨hqd.1.symm, hqd.2.symm⟩] at h1
        show ((s.pools.get q).bins.get d).inflight - 1 = _
        omega
      · rw [if_neg hqd]
        rw [if_neg fun e => hqd ⟨e.1.symm, e.2.symm⟩] at h1
        show ((s.pools.get q).bins.get d).inflight = _
        omega
  · next hnone =>
    refine ⟨?_, hshrink, id, fun _ => le_rfl, fun hlaw q d => ?_⟩
    · have : cellsInUse (bumpSlot i c (s.setEgress i rest)) = cellsInUse (s.setEgress i rest) := rfl
      omega
    · have h1 := hsteered q d
      have h2 := hlaw q d
      have hsame : steeredFrames (bumpSlot i c (s.setEgress i rest)) q d = steeredFrames (s.setEgress i rest) q d :=
        steeredFrames_congr rfl q d
      rw [hsame]
      simp only [hnone, reduceCtorEq, if_false] at h1
      show ((s.pools.get q).bins.get d).inflight = _
      omega

/-! Egress queues only take frames at the tail, but where a frame leaves. -/

/-- Every egress queue of `s` begins that of `t`. -/
def Appends (s t : State) : Prop := ∀ i, s.egress.get i <+: t.egress.get i

theorem Appends.refl : Appends s s := fun _ => List.prefix_rfl

theorem Appends.trans {s t u : State} (h : Appends s t) (h' : Appends t u) : Appends s u :=
  fun i => (h i).trans (h' i)

theorem Appends.of_eq {s t : State} (h : t.egress = s.egress) : Appends s t := fun i => by rw [h]

theorem TouchesPools.egress_eq {s t : State} : TouchesPools s t → t.egress = s.egress := by
  rintro ⟨_, _, _, _, rfl⟩
  rfl

theorem TouchesMembers.egress_eq {s t : State} (h : TouchesMembers s t) : t.egress = s.egress := h.pools.egress_eq

theorem offerEgress_appends (i : SlotIx) (entry : EgressEntry) : Appends s (offerEgress i entry s) := by
  have hjoin : Appends s (s.setEgress i (s.egress.get i ++ [entry])) := fun j => by
    rw [State.setEgress_egress, Table.get_set]
    split
    · next hj => rw [hj]; exact List.prefix_append _ _
    · exact List.prefix_rfl
  obtain ⟨-, ⟨-, h⟩ | ⟨p, b, -, h⟩⟩ | ⟨-, h⟩ := offerEgress_cases i entry s <;> rw [h]
  · exact hjoin
  · exact hjoin
  · exact .refl s

theorem releaseHold_appends (i : SlotIx) (p : PoolIx) (b : BinIx) (hold : List FrameBytes) :
    Appends s (releaseHold i p b hold s) :=
  forEach_relates .refl (fun _ _ _ => .trans) (fun bytes s => offerEgress_appends s i ⟨bytes, some (p, b)⟩) hold s

theorem engineCommit_appends (e : EngineIx) (m : MoveRecord) : Appends s (engineCommit e m s) := by
  have hcommit : Appends s (commitMove e m s) := fun i =>
    releaseHold_appends (s.updBin m.pool m.bin fun r => { r with owner := .owned m.destination }) _ _ _ _ i
  exact hcommit.trans (.of_eq (afterCommit_pools m _).egress_eq)

theorem lowerInflight_appends (p : PoolIx) (b : BinIx) : Appends s (lowerInflight p b s) := by
  simp only [lowerInflight]
  split
  · exact .refl s
  · split
    · exact .refl s
    · split
      · simp only [drainEnd]
        split
        · exact engineCommit_appends (s.updBin p b fun r => { r with inflight := r.inflight - 1 }) _ _
        · exact .refl s
      · exact .refl s

theorem reportLeft_appends (entry : EgressEntry) : Appends s (reportLeft entry s) := by
  unfold reportLeft
  split
  · exact lowerInflight_appends s _ _
  · exact .refl s

/-- The frames of a flush leave one by one from the head. -/
theorem forEach_flushOne_flows (i : SlotIx) (entries : List EgressEntry) (h : entries <+: s.egress.get i) :
    Flows s (forEach (flushOne i) entries s) := by
  induction entries generalizing s with
  | nil => exact .refl s
  | cons entry rest ih =>
    obtain ⟨extra, hextra⟩ := h
    have hhead : s.egress.get i = entry :: (rest ++ extra) := hextra.symm
    refine (reportLeft_flows s .flushed hhead).trans (ih _ ?_)
    refine .trans ?_ (reportLeft_appends (bumpSlot i .flushed (popEgress i s)) entry i)
    have hpopped : (bumpSlot i .flushed (popEgress i s)).egress.get i = rest ++ extra := by
      simp [bumpSlot, bumpSlotBy, popEgress_eq s hhead]
    rw [hpopped]
    exact List.prefix_append _ _

theorem flushEgress_flows (i : SlotIx) : Flows s (flushEgress i s) := by
  refine .trans ?_ (evaluateConfirmation_flows _ i)
  have habort : Flows s (abortData i s) := .ite (fun _ => .updLink s i fun _ => le_rfl) fun _ => .refl s
  refine habort.trans (forEach_flushOne_flows _ i _ ?_)
  have : (abortData i s).egress = s.egress := by
    unfold abortData
    split <;> rfl
  rw [this]

end Sys2Proof.Machine
end

section
/-! SUPPORT. Frames are conserved by the operations on one slot, its queues, its link and its lifecycle. -/

namespace Sys2Proof.Machine

variable (i : SlotIx) (s : State)

/-! Queues and links (R96, R108–R114, R121–R126). -/

theorem askPause_flows (time : Nat) (timer : Timer) : Flows s (bumpSlot i .pauseSent
    ((askControl i (.pause time) s).updUpstream i fun u => { u with pause := timer })) := by
  refine .trans ?_ (.bumpSlotBy _ i _ 1)
  exact (askControl_flows s i _).trans (.updUpstream _ i fun _ => le_rfl)

theorem sendPause_flows : Flows s (sendPause i s) := askPause_flows i s _ _

theorem sendResume_flows : Flows s (sendResume i s) := askPause_flows i s _ _

theorem clearLocalPause_flows : Flows s (clearLocalPause i s) := .updUpstream s i fun _ => le_rfl

theorem pauseAtArrival_flows : Flows s (pauseAtArrival i s) := by
  unfold pauseAtArrival
  split
  · exact .ite (fun _ => sendPause_flows i s) fun _ => .refl s
  all_goals exact .refl s

theorem pauseAtTxEnd_flows : Flows s (pauseAtTxEnd i s) := by
  unfold pauseAtTxEnd
  split
  · exact .ite (fun _ => sendPause_flows i s) fun _ => .refl s
  · exact .ite (fun _ => sendResume_flows i s) fun _ => .refl s
  · exact .refl s

theorem pauseAtRefresh_flows : Flows s (pauseAtRefresh i s) := by
  unfold pauseAtRefresh
  split
  · exact .ite (fun _ => sendResume_flows i s) fun _ => sendPause_flows i s
  all_goals exact .refl s

theorem pauseAtFlush_flows : Flows s (pauseAtFlush i s) := by
  unfold pauseAtFlush
  split
  · exact .refl s
  · exact .ite (fun _ => sendResume_flows i s) fun _ => clearLocalPause_flows i s

theorem abortUpstream_flows : Flows s (abortUpstream i s) :=
  .ite (fun _ => .updCore s fun _ => le_rfl) fun _ => .refl s

theorem flushUpstream_flows : Flows s (flushUpstream i s) := by
  refine .trans ?_ (pauseAtFlush_flows i _)
  refine .trans ?_ (.bumpSlotBy _ i _ _)
  exact (abortUpstream_flows i s).trans (.updUpstream _ i fun _ => Nat.zero_le _)

theorem flushQueues_flows : Flows s (flushQueues i s) := (flushEgress_flows s i).trans (flushUpstream_flows i _)

theorem cutReception_flows : Flows s (cutReception i s) := by
  unfold cutReception
  split
  · exact .refl s
  · exact (Flows.updLink s i fun _ => Nat.zero_le _).trans (.bumpSlotBy _ i _ 1)

theorem reportLeftUp_flows : Flows s (reportLeftUp i s) :=
  (Flows.updMonitor s i _).trans (clearLocalPause_flows i _)

theorem dropLink_flows : Flows s (dropLink i s) := by
  unfold dropLink
  split
  · refine .trans ?_ (reportLeftUp_flows i _)
    exact (cutReception_flows i s).trans (.updLink _ i fun _ => le_rfl)
  · exact cutReception_flows i s
  all_goals exact .refl s

theorem linkTrain_flows : Flows s (linkTrain i s) := (dropLink_flows i s).trans (.updLink _ i fun _ => le_rfl)

theorem linkGoDark_flows : Flows s (linkGoDark i s) := by
  unfold linkGoDark
  split
  · exact .refl s
  all_goals exact (dropLink_flows i s).trans (.updLink _ i fun _ => le_rfl)

theorem linkPark_flows : Flows s (linkPark i s) := by
  unfold linkPark
  split
  · exact .refl s
  · exact .refl s
  · exact linkGoDark_flows i s
  · refine .trans ?_ (reportLeftUp_flows i _)
    exact .updLink s i fun _ => le_rfl

theorem linkResume_flows : Flows s (linkResume i s) := by
  unfold linkResume
  split
  · exact linkTrain_flows i s
  · exact .refl s
  · exact .refl s
  · refine .trans ?_ (.updMonitor _ i _)
    exact .updLink s i fun _ => le_rfl

/-! Lifecycle (chapter 1). -/

theorem depart_flows (old : SlotState) : Flows s (depart i old s) := by
  have h : Flows s (if old.eligible then loseEligibility i s else s) :=
    .ite (fun _ => loseEligibility_flows s i) fun _ => .refl s
  exact (h.trans (.ite (fun _ => evacuate_flows _ i) fun _ => .refl _)).trans (flushQueues_flows i _)

theorem enterFaulted_flows (cause : FaultCause) : Flows s (enterFaulted i cause s) :=
  ((((changeState_flows s i .faulted).trans (.updSlot _ i _)).trans (raiseFlag_flows _ i .fault)).trans
    (linkGoDark_flows i _)).trans (depart_flows i _ _)

theorem seat_flows : Flows s (seat i s) :=
  ((changeState_flows s i .seated).trans (.ite (fun _ => .refl _) fun _ => raiseFlag_flows _ i .handleOpened)).trans
    (linkTrain_flows i _)

theorem seatIfReady_flows : Flows s (seatIfReady i s) := .ite (fun _ => seat_flows i s) fun _ => .refl s

theorem beginProbing_flows : Flows s (beginProbing i s) :=
  ((Flows.updSlot s i _).trans (.updMonitor _ i _)).trans
    (forEach_flows (fun n s => askControl_flows s i (.probe n)) _ _)

theorem checkClass_flows : Flows s (checkClass i s) :=
  .ite (fun _ => (Flows.updSlot s i _).trans (beginProbing_flows i _)) fun _ =>
    (Flows.updSlot s i _).trans (enterFaulted_flows i _ _)

theorem enterProbingFromDrained_flows {flag : State → State} (hf : ∀ s, Flows s (flag s)) :
    Flows s (enterProbingFromDrained i flag s) :=
  (((changeState_flows s i .probing).trans (hf _)).trans (linkResume_flows i _)).trans (checkClass_flows i _)

theorem admitToPool_flows : Flows s (admitToPool i s) :=
  (((changeState_flows s i .admitting).trans (askControl_flows _ i _)).trans (gainEligibility_flows _ i)).trans
    (evaluateAdmission_flows _ i)

theorem completeQualification_flows : Flows s (completeQualification i s) :=
  .ite (fun _ => admitToPool_flows i s) fun _ => changeState_flows s i .standby

theorem evaluateQualification_flows : Flows s (evaluateQualification i s) :=
  .ite (fun _ => completeQualification_flows i s) fun _ => .refl s

theorem qualificationReported_flows : Flows s (qualificationReported i s) :=
  .ite (fun _ => (Flows.updSlot s i _).trans (evaluateQualification_flows i _)) fun _ => .refl s

theorem enterRetiring_flows {flags release : State → State} (hf : ∀ s, Flows s (flags s))
    (hr : ∀ s, Flows s (release s)) : Flows s (enterRetiring i flags release s) :=
  (((((changeState_flows s i (.retiring .moving)).trans (hf _)).trans (.updSlot _ i _)).trans
    (loseEligibility_flows _ i)).trans (hr _)).trans (evaluateConfirmation_flows _ i)

theorem retireAutomatically_flows {flags : State → State} (hf : ∀ s, Flows s (flags s)) :
    Flows s (retireAutomatically i flags s) := by
  unfold retireAutomatically
  refine enterRetiring_flows i s (fun s => ?_) fun s => .refl s
  exact .ite (fun _ => (hf s).trans (raiseFlag_flows _ i _)) fun _ => hf s

theorem enterDrained_flows {flags : State → State} (hf : ∀ s, Flows s (flags s)) : Flows s (enterDrained i flags s) :=
  ((changeState_flows s i .drained).trans (hf _)).trans (linkPark_flows i _)

theorem presenceLost_flows : Flows s (presenceLost i s) := by
  refine .ite (fun _ => .refl s) fun _ => ?_
  exact (((changeState_flows s i .empty).trans
    (.ite (fun _ => raiseFlag_flows _ i .surpriseRemoval) fun _ => .refl _)).trans (linkGoDark_flows i _)).trans
    (depart_flows i _ _)

theorem powerLost_flows : Flows s (powerLost i s) := .ite (fun _ => .refl s) fun _ => enterFaulted_flows i s .powerLost

theorem handleOpened_flows : Flows s (handleOpened i s) :=
  .ite (fun _ => .refl s) fun _ => .ite
    (fun _ => retireAutomatically_flows i s fun s => raiseFlag_flows s i .handleOpened)
    fun _ => raiseFlag_flows s i .handleOpened

theorem handleClosed_flows : Flows s (handleClosed i s) := by
  unfold handleClosed
  split
  · exact .refl s
  · exact enterProbingFromDrained_flows i s fun s => raiseFlag_flows s i .handleClosed
  all_goals exact raiseFlag_flows s i .handleClosed

theorem deliver_flows (d : Delivery) : Flows s (deliver i d s) := by
  obtain ⟨presence, power, handle⟩ := d
  have hpresence : Flows s (deliver i ⟨presence, none, none⟩ s) := by
    cases presence with
    | none => exact .refl s
    | some present => cases present <;> [exact presenceLost_flows i s; exact seatIfReady_flows i s]
  have hpower (s : State) : Flows s (deliver i ⟨none, power, none⟩ s) := by
    cases power with
    | none => exact .refl s
    | some good => cases good <;> [exact powerLost_flows i s; exact seatIfReady_flows i s]
  have hhandle (s : State) : Flows s (deliver i ⟨none, none, handle⟩ s) := by
    cases handle with
    | none => exact .refl s
    | some closed => cases closed <;> [exact handleOpened_flows i s; exact handleClosed_flows i s]
  exact (hpresence.trans (hpower _)).trans (hhandle _)

theorem lockLossReported_flows : Flows s (lockLossReported i s) := by
  unfold lockLossReported
  split
  any_goals exact enterFaulted_flows i s .linkLost
  · exact enterDrained_flows i s fun s => .refl s
  all_goals exact .refl s

theorem alarmReported_flows : Flows s (alarmReported i s) :=
  .ite (fun _ => enterFaulted_flows i s .beaconAlarm) fun _ =>
    .ite (fun _ => retireAutomatically_flows i s fun s => .refl s) fun _ => .refl s

theorem linkUpReported_flows : Flows s (linkUpReported i s) :=
  .ite (fun _ => (changeState_flows s i .probing).trans (checkClass_flows i _)) fun _ => .refl s

theorem trainingFailed_flows : Flows s (trainingFailed i s) :=
  .ite (fun _ => enterFaulted_flows i s .trainTimeout) fun _ => .refl s

theorem deadlinePasses_flows : Flows s (deadlinePasses i s) :=
  .ite (fun _ => ((Flows.updSlot s i _).trans (evacuate_flows _ i)).trans (flushEgress_flows _ i)) fun _ =>
    (Flows.updSlot s i _).trans (raiseFlag_flows _ i .deadlinePassed)

theorem reseat_flows : Flows s (reseat i s) := (changeState_flows s i .seated).trans (linkTrain_flows i _)

theorem fenceSlot_flows : Flows s (fenceSlot i s) :=
  ((changeState_flows s i .fenced).trans (linkPark_flows i _)).trans (depart_flows i _ _)

theorem resetSlot_flows : Flows s (resetSlot i s) :=
  ((((changeState_flows s i .seated).trans (.updSlot _ i _)).trans (depart_flows i _ _)).trans
    (.updMonitor _ i _)).trans (linkTrain_flows i _)

end Sys2Proof.Machine
end

section
/-! SUPPORT. What the processing of a request can do (R184): its entry leaves and its response joins, and between the two the
effect that its owner's answer names is taken. The effects of all requests are listed once. -/

namespace Sys2Proof.Machine

/-- Only the request queue and the transmit queue may differ: no request has joined, and no payload beyond the capacity of the
transmit queue (R184, R185). -/
def QueuesOnly (s t : State) : Prop :=
  ∃ requests transmit, requests.length ≤ s.agent.requests.length
    ∧ transmit.length ≤ max 16 s.agent.transmit.length
    ∧ t = { s with agent := { s.agent with requests := requests, transmit := transmit } }

theorem QueuesOnly.refl (s : State) : QueuesOnly s s := ⟨_, _, le_rfl, le_max_right _ _, rfl⟩

theorem QueuesOnly.trans {s t u : State} : QueuesOnly s t → QueuesOnly t u → QueuesOnly s u := by
  rintro ⟨r, w, hr, hw, rfl⟩ ⟨r', w', hr', hw', rfl⟩
  refine ⟨_, _, hr'.trans hr, ?_, rfl⟩
  dsimp only at hw'
  omega

theorem dropRequest_queues (s : State) : QueuesOnly s (dropRequest s) :=
  ⟨_, _, (List.length_tail (l := s.agent.requests)).trans_le (Nat.sub_le _ _), le_max_right _ _, rfl⟩

theorem joinTransmit_queues {s : State} (h : hasRoom s = true) (p : List Byte) : QueuesOnly s (joinTransmit p s) := by
  have hroom : s.agent.transmit.length < 16 := of_decide_eq_true h
  refine ⟨_, _, le_rfl, ?_, rfl⟩
  rw [List.length_append, List.length_singleton]
  omega

/-- The answer takes an effect (R184). -/
inductive Answer.Takes : Answer → (State → State) → Prop where
  | accept (effect : State → State) (results : State → List Byte) : Takes (.accept effect results) effect
  | later (effect : State → State) : Takes (.later effect) effect

variable {effect : State → State}

theorem takes_withSlot {b : Byte} {f : SlotIx → Answer} (h : (withSlot b f).Takes effect) :
    ∃ i, slotOf b = some i ∧ (f i).Takes effect := by
  unfold withSlot at h
  split at h
  · next i hi => exact ⟨i, hi, h⟩
  · cases h

theorem takes_withPool {b : Byte} {f : PoolIx → Answer} (h : (withPool b f).Takes effect) :
    ∃ p, poolOf b = some p ∧ (f p).Takes effect := by
  unfold withPool at h
  split at h
  · next p hp => exact ⟨p, hp, h⟩
  · cases h

theorem takes_report {results : State → List Byte} (h : (report results).Takes effect) : effect = id := by
  cases h
  rfl

theorem takes_accept {e : State → State} {results : State → List Byte} (h : (Answer.accept e results).Takes effect) :
    effect = e := by
  cases h
  rfl

theorem not_takes_refuse {status : Status} (h : (Answer.refuse status).Takes effect) : False := by cases h

/-- A relation of states that ignores the two queues holds across the processing of a request, where it holds across every
effect that the request can take. -/
theorem processRequest_relates {R : State → State → Prop} (refl : ∀ s, R s s)
    (trans : ∀ a b c, R a b → R b c → R a c) (queues : ∀ a b, QueuesOnly a b → R a b) {c : Instr}
    {owner : State → Answer} {s : State}
    (heffect : ∀ u v effect, QueuesOnly s u → QueuesOnly s v → (owner u).Takes effect → R v (effect v)) :
    R s (processRequest c owner s) := by
  unfold processRequest
  split
  · exact refl s
  · next r rest hr =>
    split
    · next hhead =>
      have hdrop := dropRequest_queues s
      have hroom : hasRoom (dropRequest s) = true := hhead.1
      refine trans _ _ _ (queues _ _ hdrop) ?_
      unfold answerRequest
      split
      · exact queues _ _ (joinTransmit_queues hroom _)
      · next e results he =>
        have hjoin := joinTransmit_queues hroom []
        refine trans _ _ _ (queues _ _ hjoin) ?_
        refine trans _ _ _ (heffect _ _ e hdrop (hdrop.trans hjoin) (he ▸ .accept e results)) ?_
        exact queues _ _ ⟨_, _, le_rfl, (List.length_set ..).trans_le (le_max_right _ _), rfl⟩
      · next e he => exact heffect _ _ e hdrop hdrop (he ▸ .later e)
    · exact refl s

/-- The effects that the requests can take, in a part that differs from `s` in its queues alone. -/
inductive RequestEffect (s : State) : Instr → (State → State) → Prop where
  | reports (c) : RequestEffect s c id
  | setPolicy (tag slot clear set toggle pool cls deadline mode quota) (i : SlotIx) (pool' : Option (Option PoolIx))
      (cls' : Option Nat) (mode' : Option RateMode)
      (hpool : (s.slots.get i).state.holding = true → carried (s.slots.get i).pool pool' = (s.slots.get i).pool) :
      RequestEffect s (.setPolicy tag slot clear set toggle pool cls deadline mode quota)
        fun s => s.updSlot i fun r => r.withPolicy clear set toggle pool' cls' deadline mode' quota
  | setWeight (tag slot weight) (i : SlotIx) (hweight : weight ≠ 0) :
      RequestEffect s (.setWeight tag slot weight) (writeWeight i (min 15 weight.toNat))
  | admission (tag slot pool weight) (i : SlotIx) (p : PoolIx) (hweight : weight ≠ 0)
      (hstate : (s.slots.get i).state = .standby
        ∨ (s.slots.get i).state = .retiring .moving ∧ (s.slots.get i).pool = some p)
      (henabled : (s.pools.get p).enabled = true) :
      RequestEffect s (.admitSlot tag slot pool weight) (admitWith i p (min 15 weight.toNat))
  | retire (tag slot force) (i : SlotIx) (hstate : (s.slots.get i).state.eligible = true)
      (hlast : isLastMember s i = false) : RequestEffect s (.retire tag slot force) (enterRetiring i id id)
  | retireLast (tag slot force) (i : SlotIx) (hstate : (s.slots.get i).state.eligible = true)
      (hlast : isLastMember s i = true) :
      RequestEffect s (.retire tag slot force) (enterRetiring i id (releaseBins i))
  | fence (tag slot) (i : SlotIx) (hstate : (s.slots.get i).state ≠ .empty) :
      RequestEffect s (.fence tag slot) (fenceSlot i)
  | unfence (tag slot) (i : SlotIx) (hstate : (s.slots.get i).state = .fenced) :
      RequestEffect s (.unfence tag slot) (reseat i)
  | requalify (tag slot) (i : SlotIx) (hstate : (s.slots.get i).state = .drained) :
      RequestEffect s (.requalify tag slot) (enterProbingFromDrained i id)
  | reseat (tag slot) (i : SlotIx) (hstate : (s.slots.get i).state = .faulted) :
      RequestEffect s (.requalify tag slot) (reseat i)
  | slotReset (tag slot force) (i : SlotIx) (hstate : (s.slots.get i).state ≠ .empty) :
      RequestEffect s (.slotReset tag slot force) (resetSlot i)
  | clearAlarm (tag slot) (i : SlotIx) :
      RequestEffect s (.clearAlarm tag slot) fun s => s.updMonitor i MonitorRecord.endAlarm
  | setBeacon (tag slot mode divisor low high alarm) (i : SlotIx) (mode' : Option MonitorMode) (divisor' : Option Nat)
      (hdivisor : known monitorDivisorOf divisor = some divisor') :
      RequestEffect s (.setBeacon tag slot mode divisor low high alarm)
        fun s => s.updMonitor i fun m => (m.withSettings mode' divisor' low high alarm).clear
  | poolSet (tag pool salt ramp settle drain width adoption) (p : PoolIx)
      (hwidth : poolSetRefused s p salt width = false) :
      RequestEffect s (.poolSet tag pool salt ramp settle drain width adoption)
        fun s => s.updPool p fun r => r.withSettings salt ramp settle drain width adoption
  | poolEnable (tag pool) (p : PoolIx) : RequestEffect s (.poolEnable tag pool) (enablePool p)
  | poolDisable (tag pool) (p : PoolIx) (hheld : ∀ i, isHolding s p i = false) :
      RequestEffect s (.poolDisable tag pool) (disablePool p)
  | setScan (tag mode divisor preamble first last debounce) (new : ScannerRecord) :
      RequestEffect s (.setScan tag mode divisor preamble first last debounce) (writeScan new)
  | scanRead (tag slot) (i : SlotIx) : RequestEffect s (.scanRead tag slot) (beginRead tag i)
  | scanRestart (tag) : RequestEffect s (.scanRestart tag) restartScan
  | setLampPattern (tag index length width levels) (k : PatternIx) (p : Pattern) :
      RequestEffect s (.setLampPattern tag index length width levels) (writePattern k p)
  | setLampMap (tag entries) (es : List (Fin 10 × PatternIx)) :
      RequestEffect s (.setLampMap tag entries) (writeMap es)
  | lampOverride (tag slot pattern) (i : SlotIx) (o : Option PatternIx) :
      RequestEffect s (.lampOverride tag slot pattern)
        fun s => s.updLamps fun l => { l with override := l.override.set i o }
  | clearDeviceFlags (tag slot mask) : RequestEffect s (.clearAttention tag slot mask)
      fun s => s.updAgent fun a => { a with deviceFlags := a.deviceFlags &&& ~~~(mask.setWidth 2) }
  | clearSlotFlags (tag slot mask) (i : SlotIx) : RequestEffect s (.clearAttention tag slot mask)
      fun s => s.updSlot i fun r => { r with attention := r.attention &&& ~~~(mask.setWidth 11) }
  | readCounters (tag) : RequestEffect s (.readCounters tag) fun s => { s with freeDraws := s.freeDraws + 12 }
  | clearCounters (tag) : RequestEffect s (.clearCounters tag) clearAllCounters
  | setDevice (tag pause ackTimeout qualifyLimit attempts notices) (notices' : Option Bool) :
      RequestEffect s (.setDevice tag pause ackTimeout qualifyLimit attempts notices)
        fun s => s.updAgent fun a => a.withSettings pause ackTimeout qualifyLimit attempts notices'
  | restart (tag) : RequestEffect s (.restart tag) restartPart

section Owners

variable {s : State} {tag slot pool force weight : Byte}

theorem answerSetPolicy_takes {clear set toggle : Byte} {pool cls deadline mode quota : Option Byte}
    (h : (answerSetPolicy slot clear set toggle pool cls deadline mode quota s).Takes effect) :
    RequestEffect s (.setPolicy tag slot clear set toggle pool cls deadline mode quota) effect := by
  obtain ⟨i, -, h⟩ := takes_withSlot h
  split at h
  · cases h
  · next pool' _ =>
    split at h
    · next cls' mode' _ _ =>
      dsimp only at h
      split at h
      · cases h
      · next hrefused =>
        obtain rfl := takes_accept h
        exact .setPolicy _ _ _ _ _ _ _ _ _ _ i pool' cls' mode' fun hholding =>
          by_contra fun hne => hrefused ⟨hholding, hne⟩
    · cases h

theorem answerSetWeight_takes (h : (answerSetWeight slot weight).Takes effect) :
    RequestEffect s (.setWeight tag slot weight) effect := by
  obtain ⟨i, -, h⟩ := takes_withSlot h
  split at h
  · cases h
  · next hweight =>
    obtain rfl := takes_accept h
    exact .setWeight _ _ _ i hweight

theorem answerAdmit_takes (h : (answerAdmit slot pool weight s).Takes effect) :
    RequestEffect s (.admitSlot tag slot pool weight) effect := by
  obtain ⟨i, -, h⟩ := takes_withSlot h
  obtain ⟨p, -, h⟩ := takes_withPool h
  split at h
  · cases h
  · next hweight =>
    dsimp only at h
    split at h
    · next hstate =>
      split at h
      · next henabled =>
        obtain rfl := takes_accept h
        exact .admission _ _ _ _ i p hweight hstate henabled
      · cases h
    · cases h

theorem answerRetire_takes (h : (answerRetire slot force s).Takes effect) :
    RequestEffect s (.retire tag slot force) effect := by
  obtain ⟨i, -, h⟩ := takes_withSlot h
  have helig (hstate : (s.slots.get i).state.eligible = true)
      (h : (if isLastMember s i then
          if forceOf force then Answer.accept (enterRetiring i id (releaseBins i)) (fun s => slotResult s i)
          else .refuse .lastMember
        else .accept (enterRetiring i id id) fun s => slotResult s i).Takes effect) :
      RequestEffect s (.retire tag slot force) effect := by
    split at h
    · next hlast =>
      split at h
      · obtain rfl := takes_accept h
        exact .retireLast _ _ _ i hstate hlast
      · cases h
    · next hlast =>
      obtain rfl := takes_accept h
      exact .retire _ _ _ i hstate (Bool.eq_false_iff.mpr hlast)
  dsimp only at h
  split at h
  · obtain rfl := takes_report h
    exact .reports _
  · next hstate => exact helig (by rw [hstate]; rfl) h
  · next hstate => exact helig (by rw [hstate]; rfl) h
  all_goals cases h

theorem answerFence_takes (h : (answerFence slot s).Takes effect) : RequestEffect s (.fence tag slot) effect := by
  obtain ⟨i, -, h⟩ := takes_withSlot h
  split at h
  · cases h
  · next hstate =>
    obtain rfl := takes_accept h
    exact .fence _ _ i fun e => hstate (.inl e)

theorem answerUnfence_takes (h : (answerUnfence slot s).Takes effect) : RequestEffect s (.unfence tag slot) effect := by
  obtain ⟨i, -, h⟩ := takes_withSlot h
  split at h
  · next hstate =>
    obtain rfl := takes_accept h
    exact .unfence _ _ i hstate.1
  · cases h

theorem answerRequalify_takes (h : (answerRequalify slot s).Takes effect) :
    RequestEffect s (.requalify tag slot) effect := by
  obtain ⟨i, -, h⟩ := takes_withSlot h
  dsimp only at h
  split at h
  · next hstate =>
    obtain rfl := takes_accept h
    exact .requalify _ _ i hstate
  · next hstate =>
    split at h
    · obtain rfl := takes_accept h
      exact .reseat _ _ i hstate
    · cases h
  all_goals cases h

theorem answerSlotReset_takes (h : (answerSlotReset slot force s).Takes effect) :
    RequestEffect s (.slotReset tag slot force) effect := by
  obtain ⟨i, -, h⟩ := takes_withSlot h
  split at h
  · cases h
  · next hstate =>
    split at h
    · cases h
    · obtain rfl := takes_accept h
      exact .slotReset _ _ _ i fun e => hstate (.inl e)

theorem answerSetBeacon_takes {mode divisor low high alarm : Option Byte}
    (h : (answerSetBeacon slot mode divisor low high alarm).Takes effect) :
    RequestEffect s (.setBeacon tag slot mode divisor low high alarm) effect := by
  obtain ⟨i, -, h⟩ := takes_withSlot h
  split at h
  · next mode' divisor' _ hdivisor =>
    obtain rfl := takes_accept h
    exact .setBeacon _ _ _ _ _ _ _ i mode' divisor' hdivisor
  · cases h

theorem answerPoolSet_takes {salt : Option Byte} {ramp : Option (BitVec 16)} {settle drain width adoption : Option Byte}
    (h : (answerPoolSet pool salt ramp settle drain width adoption s).Takes effect) :
    RequestEffect s (.poolSet tag pool salt ramp settle drain width adoption) effect := by
  obtain ⟨p, -, h⟩ := takes_withPool h
  split at h
  · cases h
  · next hwidth =>
    obtain rfl := takes_accept h
    exact .poolSet _ _ _ _ _ _ _ _ p (Bool.eq_false_iff.mpr hwidth)

theorem answerPoolDisable_takes (h : (answerPoolDisable pool s).Takes effect) :
    RequestEffect s (.poolDisable tag pool) effect := by
  obtain ⟨p, -, h⟩ := takes_withPool h
  split at h
  · cases h
  · next hnone =>
    obtain rfl := takes_accept h
    refine .poolDisable _ _ p fun i => Bool.eq_false_iff.mpr fun hholding => hnone ?_
    exact List.any_eq_true.mpr ⟨i, List.mem_finRange i, hholding⟩

theorem answerSetScan_takes {mode divisor preamble first last debounce : Option Byte}
    (h : (answerSetScan mode divisor preamble first last debounce s).Takes effect) :
    RequestEffect s (.setScan tag mode divisor preamble first last debounce) effect := by
  unfold answerSetScan at h
  split at h
  · cases h
  · split at h
    · cases h
    · split at h
      · dsimp only at h
        split at h
        · cases h
        · obtain rfl := takes_accept h
          exact .setScan _ _ _ _ _ _ _ _
      · cases h

theorem answerScanRead_takes (h : (answerScanRead tag slot s).Takes effect) :
    RequestEffect s (.scanRead tag slot) effect := by
  obtain ⟨i, -, h⟩ := takes_withSlot h
  split at h
  · cases h
  · split at h
    · cases h
    · cases h
      exact .scanRead _ _ i

theorem answerDefinition_takes {index length width count : Byte} {mask : BitVec 16}
    (h : (answerDefinition index length width count mask).Takes effect) : ∃ k p, effect = writePattern k p := by
  unfold answerDefinition at h
  split at h
  · cases h
  · split at h
    · cases h
    · split at h
      · cases h
      · split at h
        · cases h
        · exact ⟨_, _, takes_accept h⟩

theorem answerReportPattern_takes {index : Byte} (h : (answerSetLampPattern index none none none).Takes effect) :
    effect = id := by
  have h : (match patternOf index with
    | none => Answer.refuse .range
    | some k => report fun s => patternResult s k).Takes effect := h
  split at h
  · cases h
  · exact takes_report h

theorem answerSetLampPattern_takes {index : Byte} {length width : Option Byte} {levels : Option (Byte × BitVec 16)}
    (h : (answerSetLampPattern index length width levels).Takes effect) :
    RequestEffect s (.setLampPattern tag index length width levels) effect := by
  have hpart (h : (Answer.refuse .badRequest).Takes effect) :
      RequestEffect s (.setLampPattern tag index length width levels) effect := (not_takes_refuse h).elim
  rcases length with _ | length <;> rcases width with _ | width <;> rcases levels with _ | ⟨count, mask⟩
  case none.none.none =>
    obtain rfl := answerReportPattern_takes h
    exact .reports _
  case some.some.some =>
    have h : (answerDefinition index length width count mask).Takes effect := h
    obtain ⟨k, p, rfl⟩ := answerDefinition_takes h
    exact .setLampPattern _ _ _ _ _ _ _
  all_goals exact hpart h

theorem answerSetLampMap_takes {entries : List (Byte × Byte)} (h : (answerSetLampMap entries).Takes effect) :
    RequestEffect s (.setLampMap tag entries) effect := by
  unfold answerSetLampMap at h
  split at h
  · split at h
    · obtain rfl := takes_accept h
      exact .setLampMap _ _ _
    · cases h
  · cases h

theorem answerLampOverride_takes {pattern : Byte} (h : (answerLampOverride slot pattern).Takes effect) :
    RequestEffect s (.lampOverride tag slot pattern) effect := by
  obtain ⟨i, -, h⟩ := takes_withSlot h
  split at h
  · next o _ =>
    obtain rfl := takes_accept h
    exact .lampOverride _ _ _ i o
  · cases h

theorem answerClearAttention_takes {mask : BitVec 16} (h : (answerClearAttention slot mask).Takes effect) :
    RequestEffect s (.clearAttention tag slot mask) effect := by
  unfold answerClearAttention at h
  split at h
  · split at h
    · obtain rfl := takes_accept h
      exact .clearDeviceFlags _ _ _
    · cases h
  · obtain ⟨i, -, h⟩ := takes_withSlot h
    split at h
    · obtain rfl := takes_accept h
      exact .clearSlotFlags _ _ _ i
    · cases h

theorem answerSetDevice_takes {pause ackTimeout qualifyLimit : Option (BitVec 16)} {attempts notices : Option Byte}
    (h : (answerSetDevice pause ackTimeout qualifyLimit attempts notices).Takes effect) :
    RequestEffect s (.setDevice tag pause ackTimeout qualifyLimit attempts notices) effect := by
  unfold answerSetDevice at h
  split at h
  · cases h
  · obtain rfl := takes_accept h
    exact .setDevice _ _ _ _ _ _ _

end Owners

/-- Whether a command is a request (R201). -/
def isRequest (c : Instr) : Bool := (encodeRequest c).isSome

/-- The state that a command leaves: no command faults, and none is refused. -/
def ran (c : Instr) (s : State) : State :=
  match exec c s with
  | .next t => t
  | .fault _ | .refused _ => s

theorem exec_eq_next (c : Instr) (s : State) : exec c s = .next (ran c s) := by cases c <;> rfl

theorem eq_ran {c : Instr} {s t : State} (h : exec c s = .next t) : t = ran c s := by
  rw [exec_eq_next] at h
  cases h
  rfl

/-- A request is processed by the agent with an owner whose answers take the effects listed. -/
theorem exec_request {c : Instr} (h : isRequest c = true) (s : State) : ∃ owner : State → Answer,
    exec c s = .next (processRequest c owner s) ∧ ∀ u effect, (owner u).Takes effect → RequestEffect u c effect := by
  have hslot {slot : Byte} {f : SlotIx → State → List Byte} {c : Instr} (u : State) (effect : State → State)
      (h : (withSlot slot fun i => report fun s => f i s).Takes effect) : RequestEffect u c effect := by
    obtain ⟨i, -, h⟩ := takes_withSlot h
    obtain rfl := takes_report h
    exact .reports _
  have hpool {pool : Byte} {f : PoolIx → State → List Byte} {c : Instr} (u : State) (effect : State → State)
      (h : (withPool pool fun i => report fun s => f i s).Takes effect) : RequestEffect u c effect := by
    obtain ⟨i, -, h⟩ := takes_withPool h
    obtain rfl := takes_report h
    exact .reports _
  have hreport {results : State → List Byte} {c : Instr} (u : State) (effect : State → State)
      (h : (report results).Takes effect) : RequestEffect u c effect := by
    obtain rfl := takes_report h
    exact .reports _
  cases c
  case identify => exact ⟨_, rfl, hreport⟩
  case readSlot => exact ⟨_, rfl, hslot⟩
  case setPolicy => exact ⟨_, rfl, fun u _ h => answerSetPolicy_takes h⟩
  case setWeight => exact ⟨_, rfl, fun u _ h => answerSetWeight_takes h⟩
  case admitSlot => exact ⟨_, rfl, fun u _ h => answerAdmit_takes h⟩
  case retire => exact ⟨_, rfl, fun u _ h => answerRetire_takes h⟩
  case fence => exact ⟨_, rfl, fun u _ h => answerFence_takes h⟩
  case unfence => exact ⟨_, rfl, fun u _ h => answerUnfence_takes h⟩
  case requalify => exact ⟨_, rfl, fun u _ h => answerRequalify_takes h⟩
  case slotReset => exact ⟨_, rfl, fun u _ h => answerSlotReset_takes h⟩
  case clearAlarm =>
    refine ⟨_, rfl, fun u effect h => ?_⟩
    obtain ⟨i, -, h⟩ := takes_withSlot h
    obtain rfl := takes_accept h
    exact .clearAlarm _ _ i
  case setBeacon => exact ⟨_, rfl, fun u _ h => answerSetBeacon_takes h⟩
  case poolSet => exact ⟨_, rfl, fun u _ h => answerPoolSet_takes h⟩
  case poolEnable =>
    refine ⟨_, rfl, fun u effect h => ?_⟩
    obtain ⟨p, -, h⟩ := takes_withPool h
    obtain rfl := takes_accept h
    exact .poolEnable _ _ p
  case poolDisable => exact ⟨_, rfl, fun u _ h => answerPoolDisable_takes h⟩
  case readPool => exact ⟨_, rfl, hpool⟩
  case readBins => exact ⟨_, rfl, hpool⟩
  case readMoves => exact ⟨_, rfl, hpool⟩
  case setScan => exact ⟨_, rfl, fun u _ h => answerSetScan_takes h⟩
  case scanRead => exact ⟨_, rfl, fun u _ h => answerScanRead_takes h⟩
  case scanRestart =>
    refine ⟨_, rfl, fun u effect h => ?_⟩
    obtain rfl := takes_accept h
    exact .scanRestart _
  case setLampPattern => exact ⟨_, rfl, fun u _ h => answerSetLampPattern_takes h⟩
  case setLampMap => exact ⟨_, rfl, fun u _ h => answerSetLampMap_takes h⟩
  case lampOverride => exact ⟨_, rfl, fun u _ h => answerLampOverride_takes h⟩
  case readAttention => exact ⟨_, rfl, hreport⟩
  case clearAttention => exact ⟨_, rfl, fun u _ h => answerClearAttention_takes h⟩
  case readCounters =>
    refine ⟨_, rfl, fun u effect h => ?_⟩
    obtain rfl := takes_accept h
    exact .readCounters _
  case clearCounters =>
    refine ⟨_, rfl, fun u effect h => ?_⟩
    obtain rfl := takes_accept h
    exact .clearCounters _
  case setDevice => exact ⟨_, rfl, fun u _ h => answerSetDevice_takes h⟩
  case readCause => exact ⟨_, rfl, hreport⟩
  case restart =>
    refine ⟨_, rfl, fun u effect h => ?_⟩
    obtain rfl := takes_accept h
    exact .restart _
  case unknownRequest => exact ⟨_, rfl, fun u _ h => (not_takes_refuse h).elim⟩
  all_goals cases h

/-- What the requests can do does not depend on the queues. -/
theorem RequestEffect.of_queues {c : Instr} {effect : State → State} {u v s : State} (h : RequestEffect u c effect)
    (hu : QueuesOnly s u) (hv : QueuesOnly s v) : RequestEffect v c effect := by
  obtain ⟨_, _, -, -, rfl⟩ := hu
  obtain ⟨_, _, -, -, rfl⟩ := hv
  cases h
  case setPolicy h => exact .setPolicy _ _ _ _ _ _ _ _ _ _ _ _ _ _ h
  case admission hw hs hp => exact .admission _ _ _ _ _ _ hw hs hp
  case retire hs hl => exact .retire _ _ _ _ hs hl
  case retireLast hs hl => exact .retireLast _ _ _ _ hs hl
  case fence h => exact .fence _ _ _ h
  case unfence h => exact .unfence _ _ _ h
  case requalify h => exact .requalify _ _ _ h
  case reseat h => exact .reseat _ _ _ h
  case slotReset h => exact .slotReset _ _ _ _ h
  case poolSet h => exact .poolSet _ _ _ _ _ _ _ _ _ h
  case poolDisable h => exact .poolDisable _ _ _ h
  all_goals constructor <;> assumption

/-- A relation that ignores the queues holds across a request, where it holds across the effects it can take. -/
theorem ran_request_relates {R : State → State → Prop} (refl : ∀ s, R s s) (trans : ∀ a b c, R a b → R b c → R a c)
    (queues : ∀ a b, QueuesOnly a b → R a b) {c : Instr} (hc : isRequest c = true) {s : State}
    (heffect : ∀ v effect, QueuesOnly s v → RequestEffect v c effect → R v (effect v)) : R s (ran c s) := by
  obtain ⟨owner, hexec, htakes⟩ := exec_request hc s
  rw [← eq_ran hexec]
  refine processRequest_relates refl trans queues fun u v effect hu hv h => ?_
  exact heffect v effect hv ((htakes u effect h).of_queues hu hv)

end Sys2Proof.Machine
end

section
/-! SUPPORT. What every command but a reception and a reset keeps of the queues (`Bounded`): frames are conserved, and neither
the agent's queues nor a quota grows past its limit (R63, R85, R93, R103, R183, R185). -/

namespace Sys2Proof.Machine

/-- Frames are conserved, and neither the agent's queues nor a quota grows past its limit. -/
structure Bounded (s t : State) : Prop where
  flows : Flows s t
  quota : ∀ i, (t.slots.get i).quota ≤ max 128 (s.slots.get i).quota
  requests : t.agent.requests.length ≤ s.agent.requests.length
  transmit : t.agent.transmit.length ≤ max 16 s.agent.transmit.length

theorem Bounded.refl (s : State) : Bounded s s := ⟨.refl s, fun _ => le_max_right _ _, le_rfl, le_max_right _ _⟩

theorem Bounded.trans {s t u : State} (h : Bounded s t) (h' : Bounded t u) : Bounded s u where
  flows := h.flows.trans h'.flows
  quota i := by
    have := h.quota i
    have := h'.quota i
    omega
  requests := h'.requests.trans h.requests
  transmit := by
    have := h.transmit
    have := h'.transmit
    omega

theorem Bounded.ite {s t t' : State} {c : Prop} [Decidable c] (h : c → Bounded s t) (h' : ¬ c → Bounded s t') :
    Bounded s (if c then t else t') := by
  split
  · exact h ‹_›
  · exact h' ‹_›

theorem AgentNotices.requests_eq {a a' : AgentRecord} (h : AgentNotices a a') : a'.requests = a.requests := by
  rw [h.fields]

theorem AgentNotices.transmit_le {a a' : AgentRecord} (h : AgentNotices a a') :
    a'.transmit.length ≤ max 16 a.transmit.length := by
  obtain ⟨ns, happend, -, -, hroom⟩ := h.notices
  by_cases hns : ns = []
  · rw [happend, hns, List.append_nil]
    exact le_max_right _ _
  · exact (hroom hns).trans (le_max_left _ _)

variable {s t : State} {i : SlotIx}

/-- What stands of the slots and of the agent is enough, where frames are conserved. -/
theorem Bounded.of_flows (h : Flows s t) (hslots : ∀ j, (t.slots.get j).quota = (s.slots.get j).quota)
    (hagent : t.agent = s.agent) : Bounded s t :=
  ⟨h, fun j => (hslots j).trans_le (le_max_right _ _), by rw [hagent], by rw [hagent]; exact le_max_right _ _⟩

theorem Bounded.of_follows (hf : Flows s t) (h : Follows s t) : Bounded s t where
  flows := hf
  quota j := by
    obtain ⟨-, -, -, -, -, -, hquota⟩ := (h.slots j).settings
    exact hquota.trans_le (le_max_right _ _)
  requests := h.proceeds.agent.requests_eq ▸ le_rfl
  transmit := h.proceeds.agent.transmit_le

theorem Bounded.of_event (hf : Flows s t) (h : EventAt i s t) : Bounded s t where
  flows := hf
  quota j := by
    refine Eq.trans_le ?_ (le_max_right _ _)
    obtain rfl | hj := eq_or_ne j i
    · obtain ⟨-, -, -, -, -, -, hquota⟩ := h.settings
      exact hquota
    · obtain ⟨-, -, -, -, -, -, hquota⟩ := (h.records j hj).settings
      exact hquota
  requests := h.proceeds.agent.requests_eq ▸ le_rfl
  transmit := h.proceeds.agent.transmit_le

variable (s)

theorem Bounded.updLink (i : SlotIx) {f : LinkRecord → LinkRecord}
    (hf : ∀ l, receptionCells (f l).rx ≤ receptionCells l.rx) : Bounded s (s.updLink i f) :=
  .of_flows (.updLink s i hf) (fun _ => rfl) rfl

theorem Bounded.updMonitor (i : SlotIx) (f : MonitorRecord → MonitorRecord) : Bounded s (s.updMonitor i f) :=
  .of_flows (.updMonitor s i f) (fun _ => rfl) rfl

theorem Bounded.updScanner (f : ScannerRecord → ScannerRecord) : Bounded s (s.updScanner f) :=
  .of_flows (.updScanner s f) (fun _ => rfl) rfl

theorem Bounded.updPort (i : SlotIx) (f : PortRecord → PortRecord) : Bounded s (s.updPort i f) :=
  .of_flows (.updPort s i f) (fun _ => rfl) rfl

theorem Bounded.updLamps (f : LampRecord → LampRecord) : Bounded s (s.updLamps f) :=
  .of_flows (.updLamps s f) (fun _ => rfl) rfl

theorem Bounded.updUpstream (i : SlotIx) {f : UpstreamRecord → UpstreamRecord}
    (hf : ∀ u, (f u).queue.length ≤ u.queue.length) : Bounded s (s.updUpstream i f) :=
  .of_flows (.updUpstream s i hf) (fun _ => rfl) rfl

theorem Bounded.updCore {f : CorePort → CorePort} (hf : ∀ k, receptionCells (f k).rx ≤ receptionCells k.rx) :
    Bounded s (s.updCore f) :=
  .of_flows (.updCore s hf) (fun _ => rfl) rfl

theorem Bounded.updPool {p : PoolIx} {f : PoolRecord → PoolRecord}
    (hf : ∀ r b, ((f r).bins.get b).inflight = (r.bins.get b).inflight) : Bounded s (s.updPool p f) :=
  .of_flows (.updPool s hf) (fun _ => rfl) rfl

theorem Bounded.updSlot (i : SlotIx) {f : SlotRecord → SlotRecord} (hf : ∀ r, (f r).quota ≤ max 128 r.quota) :
    Bounded s (s.updSlot i f) where
  flows := .updSlot s i f
  quota j := by
    rw [State.updSlot_slots, Table.get_modify]
    split
    · next h => exact h ▸ hf _
    · exact le_max_right _ _
  requests := le_rfl
  transmit := le_max_right _ _

theorem Bounded.updAgent {f : AgentRecord → AgentRecord} (hr : ∀ a, (f a).requests = a.requests)
    (ht : ∀ a, (f a).transmit.length ≤ a.transmit.length) : Bounded s (s.updAgent f) where
  flows := .agent s _
  quota _ := le_max_right _ _
  requests := (congrArg List.length (hr _)).le
  transmit := (ht _).trans (le_max_right _ _)

theorem bumpSlotBy_bounded (i : SlotIx) (c : SlotCounter) (n : Nat) : Bounded s (bumpSlotBy i c n s) :=
  .of_flows (.bumpSlotBy s i c n) (fun _ => rfl) rfl

theorem bumpPool_bounded (p : PoolIx) (c : PoolCounter) (n : Nat) : Bounded s (bumpPool p c n s) :=
  .of_flows (bumpPool_flows s p c n) (fun _ => rfl) rfl

theorem raiseFlag_bounded (i : SlotIx) (f : SlotFlag) : Bounded s (raiseFlag i f s) :=
  .of_event (raiseFlag_flows s i f) (raiseFlag_eventAt i f s)

theorem recompute_bounded (p : PoolIx) : Bounded s (recompute p s) :=
  .of_follows (recompute_flows s p) (recompute_follows p s)

theorem forEach_bounded {ι : Type} {f : ι → State → State} (h : ∀ i s, Bounded s (f i s)) (is : List ι) :
    Bounded s (forEach f is s) :=
  forEach_relates .refl (fun _ _ _ => .trans) h is s

theorem Bounded.of_queues {s t : State} (h : QueuesOnly s t) : Bounded s t := by
  obtain ⟨requests, transmit, hr, ht, rfl⟩ := h
  exact ⟨.agent s _, fun _ => le_max_right _ _, hr, ht⟩

/-! Requests. -/

theorem raiseDeviceFlag_bounded (f : DeviceFlag) : Bounded s (raiseDeviceFlag f s) := by
  refine .ite (fun _ => .refl s) fun _ => ?_
  refine .trans ?_ (.of_follows (offerNotice_flows _ _) (offerNotice_follows rfl _))
  exact .updAgent s (fun _ => rfl) fun _ => le_rfl

theorem restartPart_bounded : Bounded s (restartPart s) := by
  refine .trans ?_ (raiseDeviceFlag_bounded _ .restarted)
  refine .trans ?_ (.updAgent _ (fun _ => rfl) fun _ => le_rfl)
  refine .trans ?_ (forEach_bounded _ (fun i s => .of_event (flushUpstream_flows i s) (flushUpstream_eventAt i s)) _)
  refine .trans ?_ (forEach_bounded _ (fun p s => recompute_bounded s p) _)
  refine .trans ?_ (forEach_bounded _ (fun i s => .of_event (flushEgress_flows s i) (flushEgress_eventAt i s)) _)
  exact .of_follows (onMoves_flows s fun _ _ s _ => abortDiscard_flows s) (onMoves_follows abortDiscard_follows s)

theorem chooseIfIdle_bounded : Bounded s (chooseIfIdle s) :=
  .ite (fun _ => .updScanner s _) fun _ => .refl s

theorem writeWeight_bounded (i : SlotIx) (w : Nat) : Bounded s (writeWeight i w s) := by
  have hwrite : Bounded s (s.updSlot i fun r => { r with weight := w }) := .updSlot s i fun _ => le_max_right _ _
  refine .ite (fun _ => ?_) fun _ => hwrite
  refine (hwrite.trans ?_).trans (.of_follows (evaluateAdmission_flows _ i) (evaluateAdmission_follows i _))
  unfold recomputeOf
  split
  · exact recompute_bounded _ _
  · exact .refl _

theorem enablePool_bounded (p : PoolIx) : Bounded s (enablePool p s) := by
  refine .ite (fun _ => .refl s) fun _ => ?_
  refine .trans ?_ (recompute_bounded _ p)
  have henable : Bounded s (s.updPool p fun r => { r with enabled := true }) := .updPool s fun _ _ => rfl
  refine henable.trans (.ite (fun _ => ?_) fun _ => ?_)
  · exact .updPool _ fun _ _ => rfl
  · exact .of_follows (dropStale_flows _ p) (dropStale_follows p _)

theorem withPolicy_quota_le (r : SlotRecord) (clear set toggle : Byte) (pool : Option (Option PoolIx)) (cls : Option Nat)
    (deadline : Option Byte) (mode : Option RateMode) (quota : Option Byte) :
    (r.withPolicy clear set toggle pool cls deadline mode quota).quota ≤ max 128 r.quota := by
  cases quota with
  | none => exact le_max_right _ _
  | some b =>
    refine le_trans ?_ (le_max_left _ _)
    simp only [SlotRecord.withPolicy, carried, Option.map_some, Option.getD_some, clampTo]
    omega

theorem admitWith_bounded (i : SlotIx) (p : PoolIx) (w : Nat) : Bounded s (admitWith i p w s) := by
  refine .trans ?_ (.of_event (admitToPool_flows i _) (admitToPool_eventAt i _))
  exact .updSlot s i fun _ => le_max_right _ _

theorem enterRetiring_bounded (i : SlotIx) {release : State → State} (hf : ∀ s, Flows s (release s))
    (he : ∀ s, EventAt i s (release s)) : Bounded s (enterRetiring i id release s) :=
  .of_event (enterRetiring_flows i s (flags := id) .refl hf) (enterRetiring_eventAt i s (flags := id) (.refl i) he)

theorem RequestEffect.bounded {c : Instr} {effect : State → State} {v : State} (h : RequestEffect v c effect) (s : State) :
    Bounded s (effect s) := by
  cases h
  case reports => exact .refl s
  case setPolicy => exact .updSlot s _ fun r => withPolicy_quota_le r ..
  case setWeight i _ => exact writeWeight_bounded s i _
  case admission i p _ _ _ => exact admitWith_bounded s i p _
  case retire i _ _ => exact enterRetiring_bounded s i (release := id) .refl (.refl i)
  case retireLast i _ _ =>
    exact enterRetiring_bounded s i (fun s => releaseBins_flows s i) fun s => (releaseBins_follows i s).eventAt i
  case fence i _ => exact .of_event (fenceSlot_flows i s) (fenceSlot_eventAt i s)
  case unfence i _ => exact .of_event (reseat_flows i s) (reseat_eventAt i s)
  case requalify i _ =>
    exact .of_event (enterProbingFromDrained_flows i s (flag := id) .refl)
      (enterProbingFromDrained_eventAt i s (flag := id) (.refl i))
  case reseat i _ => exact .of_event (reseat_flows i s) (reseat_eventAt i s)
  case slotReset i _ => exact .of_event (resetSlot_flows i s) (resetSlot_eventAt i s)
  case clearAlarm => exact .updMonitor s _ _
  case setBeacon => exact .updMonitor s _ _
  case poolSet => exact .updPool s fun _ _ => rfl
  case poolEnable p => exact enablePool_bounded s p
  case poolDisable => exact .ite (fun _ => .updPool s fun _ _ => rfl) fun _ => .refl s
  case setScan =>
    exact (Bounded.updScanner s _).trans (.ite (fun _ => chooseIfIdle_bounded _) fun _ => .refl _)
  case scanRead => exact (Bounded.updScanner s _).trans (chooseIfIdle_bounded _)
  case scanRestart => exact (Bounded.updScanner s _).trans (.updScanner _ _)
  case setLampPattern => exact .updLamps s _
  case setLampMap => exact .updLamps s _
  case lampOverride => exact .updLamps s _
  case clearDeviceFlags => exact .updAgent s (fun _ => rfl) fun _ => le_rfl
  case clearSlotFlags => exact .updSlot s _ fun _ => le_max_right _ _
  case readCounters =>
    exact .of_flows (.of_still rfl rfl (fun _ _ => rfl) le_rfl (fun _ => le_rfl) fun _ => le_rfl) (fun _ => rfl) rfl
  case clearCounters =>
    refine ⟨.of_still rfl rfl (fun p b => ?_) le_rfl (fun _ => le_rfl) fun _ => le_rfl, fun _ => le_max_right _ _, le_rfl,
      le_max_right _ _⟩
    rw [clearAllCounters, Table.get_tab]
  case setDevice => exact .updAgent s (fun _ => rfl) fun _ => le_rfl
  case restart => exact restartPart_bounded s

theorem request_bounded {c : Instr} (hc : isRequest c = true) : Bounded s (ran c s) :=
  ran_request_relates .refl (fun _ _ _ => .trans) (fun _ _ => .of_queues) hc fun v _ _ h => h.bounded v

end Sys2Proof.Machine
end

section
/-! SUPPORT. The bounds of the queues and the law of in-flight counts across every command and across the clock (R40, R63, R85,
R93, R103, R183, R185). -/

namespace Sys2Proof.Machine

variable {s t : State} {i : SlotIx}

/-! What the events with several outcomes leave. -/

theorem slotTxStart_cases (h : exec (.slotTxStart i) s = .next t) : t = s
    ∨ (s.links.get i).carries = true ∧ ∃ tx rest, rest <:+ (s.links.get i).control
      ∧ t = s.updLink i fun l => { l with control := rest, tx := some tx } := by
  simp only [exec, execSlotTxStart] at h
  split at h
  · next hready =>
    split at h
    · next f rest hcontrol =>
      cases h
      exact .inr ⟨hready.1, _, rest, hcontrol ▸ List.suffix_cons f rest, rfl⟩
    · next hcontrol =>
      split at h
      · cases h
        exact .inr ⟨hready.1, .data, [], List.nil_suffix, updLink_congr (by simp only [hcontrol])⟩
      · cases h
        exact .inl rfl
  · cases h
    exact .inl rfl

theorem egressTxEnd_cases (h : exec (.egressTxEnd i) s = .next t) : t = s
    ∨ ∃ entry rest, s.egress.get i = entry :: rest
      ∧ t = evaluateConfirmation i (reportLeft entry (bumpSlot i .delivered
          (popEgress i (s.updLink i fun l => { l with tx := none })))) := by
  simp only [exec, execEgressTxEnd] at h
  split at h
  · cases h
    exact .inl rfl
  · next entry rest hqueue =>
    split at h
    · cases h
      exact .inr ⟨entry, rest, hqueue, rfl⟩
    · cases h
      exact .inl rfl

/-- The core arbiter starts a transmission, or nothing happens. -/
theorem coreArbiterChoice_cases (h : exec .coreArbiterChoice s = .next t) :
    t = s ∨ ∃ tx pointer, t = s.updCore fun k => { k with tx := tx, pointer := pointer } := by
  simp only [exec, execCoreArbiterChoice] at h
  split at h
  any_goals
    cases h
    exact .inl rfl
  split at h
  · cases h
    exact .inr ⟨_, s.core.pointer, rfl⟩
  · split at h
    · cases h
      exact .inr ⟨_, _, rfl⟩
    · cases h
      exact .inl rfl

theorem upstreamTxEnd_cases (h : exec .upstreamTxEnd s = .next t) : t = s
    ∨ ∃ i, t = pauseAtTxEnd i (bumpSlot i .upstreamSent
        ((s.updCore fun k => { k with tx := .idle }).updUpstream i fun u => { u with queue := u.queue.tail })) := by
  simp only [exec, execUpstreamTxEnd] at h
  split at h
  · cases h
    exact .inr ⟨_, rfl⟩
  · cases h
    exact .inl rfl
  · cases h
    exact .inl rfl

theorem mgmtTxEnd_cases (h : exec .mgmtTxEnd s = .next t) : t = s
    ∨ ∃ c, t = bumpAgent c ((s.updCore fun k => { k with tx := .idle }).updAgent fun a =>
        { a with transmit := a.transmit.tail }) := by
  simp only [exec, execMgmtTxEnd] at h
  split at h
  · next payload rest _ hqueue =>
    cases h
    refine .inr ⟨sentCounter payload, ?_⟩
    have htail : rest = s.agent.transmit.tail := by rw [hqueue, List.tail_cons]
    rw [htail]
    rfl
  · cases h
    exact .inl rfl

/-- The end of a drain or settle timer commits its engine's move, the drain timer's counted as forced. -/
theorem moveTimer_cases {e : EngineIx} (h : exec (.drainTimerExpiry e) s = .next t ∨ exec (.settleTimerExpiry e) s = .next t) :
    t = s ∨ ∃ m, s.engines.get e = some m
      ∧ (t = engineCommit e m s ∨ t = bumpPool m.pool .forcedCommits 1 (engineCommit e m s)) := by
  obtain h | h := h
  · simp only [exec, execDrainTimerExpiry] at h
    split at h
    · cases h
      exact .inl rfl
    · next m hm =>
      split at h
      · cases h
        exact .inr ⟨m, hm, .inr rfl⟩
      · cases h
        exact .inl rfl
  · simp only [exec, execSettleTimerExpiry] at h
    split at h
    · cases h
      exact .inl rfl
    · next m hm =>
      split at h
      · cases h
        exact .inr ⟨m, hm, .inl rfl⟩
      · cases h
        exact .inl rfl

/-- A grant starts the head of a pool's plan on an IDLE engine (R56). -/
theorem engineGrant_cases (h : exec .engineGrant s = .next t) : t = s
    ∨ ∃ e p entry rest, s.engines.get e = none ∧ wantsEngine s p = true ∧ (s.pools.get p).plan = entry :: rest
      ∧ t = grant e p entry rest s := by
  simp only [exec, execEngineGrant] at h
  split at h
  · next e p he hp =>
    split at h
    · next entry rest hplan =>
      cases h
      refine .inr ⟨e, p, entry, rest, ?_, ?_, hplan, rfl⟩
      · simpa using List.find?_some he
      · exact List.find?_some hp
    · cases h
      exact .inl rfl
  · cases h
    exact .inl rfl

theorem readCycleEnd_cases {ack : Bool} {word check : Byte} (h : exec (.readCycleEnd ack word check) s = .next t) :
    t = s ∨ ∃ c, s.scanner.cycle = some c ∧ t = cycleEnds c (readIsGood ack word check) word s := by
  simp only [exec, execReadCycleEnd] at h
  split at h
  · cases h
    exact .inl rfl
  · next c hc =>
    cases h
    exact .inr ⟨c, hc, rfl⟩

/-! The events, the receptions apart. -/

/-- The commands that begin or end a reception, and the two resets. -/
def isReceptionOrReset : Instr → Bool
  | .powerOn | .pinReset | .coreRxStart | .coreRxEnd _ _ | .slotRxStart _ | .slotRxEnd _ _ _ => true
  | _ => false

variable (s)

theorem engineCommit_bounded {e : EngineIx} {m : MoveRecord} (he : s.engines.get e = some m) :
    Bounded s (engineCommit e m s) :=
  .of_follows (engineCommit_flows s he) (engineCommit_follows e m s)

theorem attemptFailed_bounded (i : SlotIx) : Bounded s (attemptFailed i s) := by
  unfold attemptFailed
  split
  · exact .refl s
  · refine .ite (fun _ => .updLink s i fun _ => le_rfl) fun _ => ?_
    refine .trans ?_ (.of_event (trainingFailed_flows i _) (trainingFailed_eventAt i _))
    refine .trans ?_ (bumpSlotBy_bounded _ i .trainFailures 1)
    exact .updLink s i fun _ => le_rfl

theorem startMove_bounded {e : EngineIx} (he : s.engines.get e = none) (m : MoveRecord) (hm : m.hold = []) :
    Bounded s (startMove e m s) := by
  have hset (m' : MoveRecord) (hm' : m'.hold = []) : Bounded s (s.setEngine e (some m')) :=
    .of_flows (setEngine_flows s e (by rw [he, holdCells, hm']; exact le_rfl)) (fun _ => rfl) rfl
  refine .ite (fun _ => hset _ hm) fun _ => .ite (fun _ => hset _ hm) fun _ => ?_
  exact (hset m hm).trans (engineCommit_bounded _ (Table.get_set_self ..))

theorem grant_bounded {e : EngineIx} (he : s.engines.get e = none) (p : PoolIx) (entry : PlanEntry) (rest : List PlanEntry) :
    Bounded s (grant e p entry rest s) := by
  have hgrant : Bounded s
      (({ s.updPool p fun r => { r with plan := rest, rampTimer := some r.rampInterval } with arbiter := p }).updBin p entry.bin
        fun b => { b with engine := some e }) := by
    refine .of_flows (.of_still rfl rfl (fun q b => ?_) le_rfl (fun _ => le_rfl) fun _ => le_rfl) (fun _ => rfl) rfl
    rw [get_bin_updBin]
    dsimp only
    rw [State.updPool_pools, Table.get_modify]
    split <;> split <;> simp_all
  refine hgrant.trans (startMove_bounded _ ?_ (moveOf p (s.pools.get p) entry) rfl)
  exact he

theorem stepLamps_bounded : Bounded s (stepLamps s) := by
  unfold stepLamps
  exact .updLamps s _

theorem joinReadResponse_bounded : Bounded s (joinReadResponse s) := by
  unfold joinReadResponse
  split
  · refine .ite (fun hroom => ?_) fun _ => .refl s
    have hroom : hasRoom (s.updScanner fun c => { c with pendingRead := none }) = true := hroom
    exact (Bounded.updScanner s _).trans (.of_queues (joinTransmit_queues hroom _))
  all_goals exact .refl s

theorem cycleEnds_bounded (c : BusCycle) (good : Bool) (word : Byte) : Bounded s (cycleEnds c good word s) := by
  have hsample : Bounded s (sample c.address good word s) := by
    refine .ite (fun _ => ?_) fun _ => ?_
    · refine .trans ?_ (.of_event (deliver_flows c.address _ _) (deliver_eventAt c.address _ _))
      exact (bumpSlotBy_bounded s c.address _ 1).trans (.updPort _ _ _)
    · have hread := (bumpSlotBy_bounded s c.address .scanFailed 1).trans
        (.updPort _ c.address fun r => { r with noResponse := min 8 (r.noResponse + 1) })
      exact .ite (fun _ => hread.trans (raiseFlag_bounded _ _ _)) fun _ => hread
  refine .trans ?_ (.updScanner _ _)
  refine .ite (fun _ => ?_) fun _ => hsample.trans (.updScanner _ _)
  exact (hsample.trans (.updScanner _ _)).trans (joinReadResponse_bounded _)

theorem reportLeft_delivered_bounded {entry : EgressEntry} {rest : List EgressEntry} (h : s.egress.get i = entry :: rest) :
    Bounded s (evaluateConfirmation i (reportLeft entry (bumpSlot i .delivered
      (popEgress i (s.updLink i fun l => { l with tx := none }))))) := by
  refine .trans (.updLink s i (f := fun l => { l with tx := none }) fun _ => le_rfl) ?_
  refine .trans ?_ (.of_follows (evaluateConfirmation_flows _ i) (evaluateConfirmation_follows i _))
  generalize hu : s.updLink i (fun l => { l with tx := none }) = u
  have hqueue : u.egress.get i = entry :: rest := hu ▸ h
  have hevent := ((Follows.setEgress i (u.egress.get i).tail u).eventAt i).proceeds
  have hleft := reportLeft_follows entry (bumpSlot i .delivered (popEgress i u))
  refine ⟨reportLeft_flows u .delivered hqueue, fun j => ?_, ?_, ?_⟩
  · obtain ⟨-, -, -, -, -, -, hquota⟩ := (hleft.slots j).settings
    exact hquota.trans_le (le_max_right _ _)
  · exact hleft.proceeds.agent.requests_eq ▸ le_rfl
  · exact hleft.proceeds.agent.transmit_le

variable {s}

theorem event_bounded {c : Instr} (hrequest : isRequest c = false) (hother : isReceptionOrReset c = false)
    (h : exec c s = .next t) : Bounded s t := by
  cases c
  case lockGained i =>
    obtain rfl := eq_ran h
    refine .updLink s i fun l => ?_
    unfold LinkRecord.gainLock
    split <;> exact le_rfl
  case lockLost i =>
    obtain rfl := eq_ran h
    refine .ite (fun _ => ?_) fun _ => .refl s
    refine .trans (.of_event (cutReception_flows i s) (cutReception_eventAt i s)) (.updLink _ i fun l => ?_)
    unfold LinkRecord.loseLock
    split <;> exact le_rfl
  case attemptSuccess i =>
    obtain rfl := eq_ran h
    refine .ite (fun _ => ?_) fun _ => .refl s
    refine .trans ?_ (.of_event (linkUpReported_flows i _) (linkUpReported_eventAt i _))
    refine .trans ?_ (.updMonitor _ i _)
    exact (Bounded.updLink s i (f := LinkRecord.enterUp) fun _ => le_rfl).trans (bumpSlotBy_bounded _ i .linkUps 1)
  case attemptTimerExpiry i =>
    obtain rfl := eq_ran h
    exact .ite (fun _ => attemptFailed_bounded s i) fun _ => .refl s
  case trainingLockLoss i =>
    obtain rfl := eq_ran h
    exact .ite (fun _ => (bumpSlotBy_bounded s i .lockLosses 1).trans (attemptFailed_bounded _ i)) fun _ => .refl s
  case lockLossExpiry i =>
    obtain rfl := eq_ran h
    refine .ite (fun _ => ?_) fun _ => .refl s
    refine .trans ?_ (.of_event (lockLossReported_flows i _) (lockLossReported_eventAt i _))
    refine .trans ?_ (.of_event (reportLeftUp_flows i _) (reportLeftUp_eventAt i _))
    refine .trans ?_ (.of_event (cutReception_flows i _) (cutReception_eventAt i _))
    refine .trans ?_ (bumpSlotBy_bounded _ i .lockLosses 1)
    exact .updLink s i fun _ => le_rfl
  case remotePauseExpiry i =>
    obtain rfl := eq_ran h
    exact .updLink s i fun _ => le_rfl
  case slotTxStart i =>
    obtain rfl | ⟨-, tx, rest, -, rfl⟩ := slotTxStart_cases h
    · exact .refl _
    · exact .updLink s i fun _ => le_rfl
  case controlTxEnd i =>
    obtain rfl := eq_ran h
    refine .ite (fun _ => ?_) fun _ => .refl s
    refine .trans ?_ (bumpSlotBy_bounded _ i .controlSent 1)
    exact .updLink s i fun _ => le_rfl
  case egressTxEnd i =>
    obtain rfl | ⟨entry, rest, hqueue, rfl⟩ := egressTxEnd_cases h
    · exact .refl _
    · exact reportLeft_delivered_bounded s hqueue
  case coreArbiterChoice =>
    obtain rfl | ⟨tx, pointer, rfl⟩ := coreArbiterChoice_cases h
    · exact .refl _
    · exact .updCore s fun _ => le_rfl
  case upstreamTxEnd =>
    obtain rfl | ⟨i, rfl⟩ := upstreamTxEnd_cases h
    · exact .refl _
    · refine .trans ?_ (.of_event (pauseAtTxEnd_flows i _) (pauseAtTxEnd_eventAt i _))
      refine .trans ?_ (bumpSlotBy_bounded _ i .upstreamSent 1)
      refine .trans ?_ (.updUpstream _ i fun u => (List.length_tail (l := u.queue)).trans_le (Nat.sub_le _ _))
      exact .updCore s fun _ => le_rfl
  case mgmtTxEnd =>
    obtain rfl | ⟨c, rfl⟩ := mgmtTxEnd_cases h
    · exact .refl _
    · refine .trans ?_ (.updAgent _ (fun _ => rfl) fun _ => le_rfl)
      refine .trans ?_ (.updAgent _ (fun _ => rfl) fun a => (List.length_tail (l := a.transmit)).trans_le (Nat.sub_le _ _))
      exact .updCore s fun _ => le_rfl
  case refreshTimerExpiry i =>
    obtain rfl := eq_ran h
    exact .of_event (pauseAtRefresh_flows i s) (pauseAtRefresh_eventAt i s)
  case probeWindowExpiry i =>
    obtain rfl := eq_ran h
    exact .ite (fun _ => .of_event (enterFaulted_flows i s _) (enterFaulted_eventAt i s _)) fun _ => .refl s
  case qualifyTimerExpiry i =>
    obtain rfl := eq_ran h
    exact .ite (fun _ => .of_event (enterFaulted_flows i s _) (enterFaulted_eventAt i s _)) fun _ => .refl s
  case deadlineExpiry i =>
    obtain rfl := eq_ran h
    exact .ite (fun _ => .of_event (deadlinePasses_flows i s) (deadlinePasses_eventAt i s)) fun _ => .refl s
  case acknowledgmentExpiry i =>
    obtain rfl := eq_ran h
    exact .ite (fun _ => .of_event (enterDrained_flows i s fun s => raiseFlag_flows s i .ackMissing)
      (enterDrained_eventAt i s fun s => raiseFlag_eventAt i .ackMissing s)) fun _ => .refl s
  case drainTimerExpiry e =>
    obtain rfl | ⟨m, hm, rfl | rfl⟩ := moveTimer_cases (.inl h)
    · exact .refl _
    · exact engineCommit_bounded s hm
    · exact (engineCommit_bounded s hm).trans (bumpPool_bounded _ _ _ _)
  case settleTimerExpiry e =>
    obtain rfl | ⟨m, hm, rfl | rfl⟩ := moveTimer_cases (.inr h)
    · exact .refl _
    · exact engineCommit_bounded s hm
    · exact (engineCommit_bounded s hm).trans (bumpPool_bounded _ _ _ _)
  case rampTimerExpiry p =>
    obtain rfl := eq_ran h
    exact .updPool s fun _ _ => rfl
  case engineGrant =>
    obtain rfl | ⟨e, p, entry, rest, he, -, -, rfl⟩ := engineGrant_cases h
    · exact .refl _
    · exact grant_bounded s he p entry rest
  case adoptionTimerExpiry p =>
    obtain rfl := eq_ran h
    refine .ite (fun _ => ?_) fun _ => .refl s
    refine .trans ?_ (recompute_bounded _ p)
    refine .trans (.of_follows (dropStale_flows s p) (dropStale_follows p s)) ?_
    exact .updPool _ fun _ _ => rfl
  case readCycleEnd ack word check =>
    obtain rfl | ⟨c, -, rfl⟩ := readCycleEnd_cases h
    · exact .refl _
    · exact cycleEnds_bounded s c _ word
  case scanReadResponse =>
    obtain rfl := eq_ran h
    exact joinReadResponse_bounded s
  case saturationLatch i =>
    obtain rfl := eq_ran h
    exact .ite (fun _ => .updMonitor s i _) fun _ => .refl s
  case beaconAlarm i =>
    obtain rfl := eq_ran h
    refine .ite (fun _ => ?_) fun _ => .refl s
    refine .trans ?_ (.of_event (alarmReported_flows i _) (alarmReported_eventAt i _))
    exact (Bounded.updMonitor s i _).trans (raiseFlag_bounded _ i .beaconAlarm)
  case lampBaseStep =>
    obtain rfl := eq_ran h
    exact stepLamps_bounded s
  case powerOn | pinReset | coreRxStart | coreRxEnd | slotRxStart | slotRxEnd => cases hother
  all_goals cases hrequest

end Sys2Proof.Machine
end

section
/-! SUPPORT. One microsecond of the part's own clock, record by record (R1), and the steps that an empty queue and a waiting
command make. -/

namespace Sys2Proof.Machine

variable (s : State)

theorem get_mapTable {α β : Type} {n : Nat} (f : α → β) (t : Table α n) (i : Fin n) : (mapTable f t).get i = f (t.get i) :=
  Table.get_tab ..

theorem countDown_one (t : Timer) : countDown 1 s t = tickTimer t := if_pos (Nat.mod_one _)

/-! The records after a tick of the clock. -/

theorem tick_slots (i : SlotIx) : (tick s).slots.get i = { s.slots.get i with
    probeTimer := countDown 1000 s (s.slots.get i).probeTimer
    qualifyTimer := countDown 1000 s (s.slots.get i).qualifyTimer
    deadlineTimer := countDown 1000 s (s.slots.get i).deadlineTimer
    ackTimer := countDown 1000 s (s.slots.get i).ackTimer } := by
  simp only [tick, countDown, TickFalls]
  split <;> split <;> simp [tickMilli, tickMonitor, tickMicro, get_mapTable, SlotRecord.tick, tickTimer]

theorem tick_pools (p : PoolIx) : (tick s).pools.get p = { s.pools.get p with
    rampTimer := countDown 1000 s (s.pools.get p).rampTimer
    adoptionTimer := countDown 1000 s (s.pools.get p).adoptionTimer } := by
  simp only [tick, countDown, TickFalls]
  split <;> split <;> simp [tickMilli, tickMonitor, tickMicro, get_mapTable, PoolRecord.tick, tickTimer]

theorem tick_links (i : SlotIx) : (tick s).links.get i = { s.links.get i with
    attemptTimer := countDown 1000 s (s.links.get i).attemptTimer
    lockLossTimer := countDown 1 s (s.links.get i).lockLossTimer
    remotePause := countDown 1 s (s.links.get i).remotePause } := by
  rw [countDown_one, countDown_one]
  simp only [tick, countDown, TickFalls]
  split <;> split <;>
    simp [tickMilli, tickMonitor, tickMicro, get_mapTable, LinkRecord.tickMilli, LinkRecord.tickMicro, tickTimer]

theorem tick_upstream (i : SlotIx) : (tick s).upstream.get i
    = { s.upstream.get i with pause := countDown 1 s (s.upstream.get i).pause } := by
  rw [countDown_one]
  simp only [tick]
  split <;> split <;> simp [tickMilli, tickMonitor, tickMicro, get_mapTable]

theorem tick_monitors (i : SlotIx) : (tick s).monitors.get i
    = if TickFalls 10 s then (s.monitors.get i).tick else s.monitors.get i := by
  simp only [tick, TickFalls]
  split <;> split <;> simp [tickMilli, tickMonitor, tickMicro, get_mapTable]

/-- The timer of a move counts the unit of its phase. -/
def MoveRecord.ticked (s : State) (m : MoveRecord) : MoveRecord :=
  { m with timer := match m.phase with
      | .draining => if TickFalls 1000 s then m.timer - 1 else m.timer
      | .settling => if TickFalls 10 s then m.timer - 1 else m.timer }

theorem tick_engines (e : EngineIx) : (tick s).engines.get e = (s.engines.get e).map (MoveRecord.ticked s) := by
  simp only [tick]
  rcases h : s.engines.get e with _ | ⟨p, b, i, j, drain, settle, phase, timer, hold⟩
  · split <;> split <;> simp [tickMilli, tickMonitor, tickMicro, get_mapTable, h]
  · cases phase <;> split <;> split <;>
      simp_all [tickMilli, tickMonitor, tickMicro, get_mapTable, MoveRecord.ticked, MoveRecord.tick, TickFalls]

theorem tick_rest : tick s = { s with
    micros := (s.micros + 1) % 25000, slots := (tick s).slots, pools := (tick s).pools, links := (tick s).links
    upstream := (tick s).upstream, engines := (tick s).engines, monitors := (tick s).monitors } := by
  simp only [tick]
  split <;> split <;> rfl

/-! What a step is made of. -/

/-- The commands of the timed events (R1; log entry 3). -/
def isTimed : Instr → Bool
  | .trainingLockLoss _ | .attemptTimerExpiry _ | .lockLossExpiry _ | .remotePauseExpiry _ | .refreshTimerExpiry _
  | .probeWindowExpiry _ | .qualifyTimerExpiry _ | .deadlineExpiry _ | .acknowledgmentExpiry _ | .saturationLatch _
  | .beaconAlarm _ | .drainTimerExpiry _ | .settleTimerExpiry _ | .rampTimerExpiry _ | .adoptionTimerExpiry _
  | .lampBaseStep => true
  | _ => false

theorem isTimed_of_mem {ev : TimedEvent} (h : ev ∈ timedEvents s) : isTimed ev.command = true := by
  simp only [timedEvents, List.mem_append, List.mem_flatMap, slotEvents, engineEvents, poolEvents, List.mem_cons,
    List.not_mem_nil, or_false] at h
  obtain ((⟨_, -, h⟩ | ⟨_, -, h⟩) | ⟨_, -, h⟩) | rfl := h
  · obtain rfl | rfl | rfl | rfl | rfl | rfl | rfl | rfl | rfl | rfl | rfl := h <;> rfl
  · obtain rfl | rfl := h <;> rfl
  · obtain rfl | rfl := h <;> rfl
  · rfl

theorem takeDue_eq (ev : TimedEvent) : takeDue ev s = if ev.due s then ran ev.command s else s := rfl

theorem timed_not_request {c : Instr} (h : isTimed c = true) : isRequest c = false ∧ isReceptionOrReset c = false := by
  cases c <;> cases h <;> exact ⟨rfl, rfl⟩

/-- What the clock's microsecond and every timed command keep, an idle step keeps. -/
theorem idle_keeps {P : State → Prop} (htick : ∀ s, P s → P (tick (chooseIfIdle s)))
    (htimed : ∀ c s t, isTimed c = true → P s → exec c s = .next t → P t) {s : State} (h : P s) : P (idle s) := by
  have hall (evs : List TimedEvent) (hevs : ∀ ev ∈ evs, isTimed ev.command = true) (u : State) (hu : P u) :
      P (forEach takeDue evs u) := by
    induction evs generalizing u with
    | nil => exact hu
    | cons ev evs ih =>
      refine ih (fun ev h => hevs ev (List.mem_cons_of_mem _ h)) _ ?_
      show P (if ev.due u then ran ev.command u else u)
      split
      · exact htimed _ u _ (hevs ev List.mem_cons_self) hu (exec_eq_next _ u)
      · exact hu
  exact hall _ (fun ev => isTimed_of_mem s) _ (htick s h)

/-- A step takes the front command, or the clock runs. -/
theorem step_keeps {P : State → Prop} (hpending : ∀ s rest, P s → P { s with pending := rest })
    (hexec : ∀ c s t, P s → exec c s = .next t → P t) (hidle : ∀ s, P s → P (idle s)) {s t : State} (hs : P s)
    (h : step s = .next t) : P t := by
  unfold step at h
  split at h
  · exact hexec _ _ t (hpending s _ hs) h
  · injection h with h
    exact h ▸ hidle s hs

end Sys2Proof.Machine
end

section
/-! SUPPORT. The bounds of the queues and the law of in-flight counts, kept by every command and by the clock (R40, R63, R85,
R93, R103, R183, R185). -/

namespace Sys2Proof.Machine

variable {s t : State} {i : SlotIx}

theorem Bounded.within (h : Bounded s t) (hs : WithinBounds s) : WithinBounds t where
  cells := h.flows.cells.trans hs.cells
  egress i := (h.flows.egress i).trans (max_le le_rfl (hs.egress i))
  quota i := (h.quota i).trans (max_le le_rfl (hs.quota i))
  upstream i := (h.flows.upstream i).trans (hs.upstream i)
  hold := h.flows.holds hs.hold
  requests := h.requests.trans hs.requests
  transmit := h.transmit.trans (max_le le_rfl hs.transmit)

variable (s) in
theorem tick_bounded : Bounded s (tick s) := by
  have hrest := tick_rest s
  have hegress : (tick s).egress = s.egress := by rw [hrest]
  have hcore : (tick s).core = s.core := by rw [hrest]
  have hagent : (tick s).agent = s.agent := by rw [hrest]
  refine .of_flows ⟨?_, fun j => by rw [hegress]; exact le_max_right _ _, fun h e m hm => ?_, fun j => ?_, fun h p b => ?_⟩
    (fun j => by rw [tick_slots]) hagent
  · refine cellsInUse_le (by rw [hcore]) (fun j => by rw [tick_links]) (fun j => by rw [hegress]) (fun e => ?_) fun j => ?_
    · rw [tick_engines]
      cases s.engines.get e <;> exact le_rfl
    · rw [tick_upstream]
  · rw [tick_engines, Option.map_eq_some_iff] at hm
    obtain ⟨m', hm', rfl⟩ := hm
    exact h e m' hm'
  · rw [tick_upstream]
  · rw [tick_pools, steeredFrames_congr hegress]
    exact h p b

theorem idle_bounded_keeps {P : State → Prop} (hkeeps : ∀ s t, Bounded s t → P s → P t) (h : P s) : P (idle s) := by
  refine idle_keeps (fun s hs => ?_) (fun c u v hc hu h => ?_) h
  · exact hkeeps _ _ ((chooseIfIdle_bounded s).trans (tick_bounded _)) hs
  · obtain ⟨hrequest, hother⟩ := timed_not_request hc
    exact hkeeps u v (event_bounded hrequest hother h) hu

theorem controlArrives_bounded (i : SlotIx) (info : FrameInfo) (s : State) : Bounded s (controlArrives i info s) := by
  have hstray : Bounded s (bumpSlot i .strayControl s) := bumpSlotBy_bounded s i _ 1
  unfold controlArrives
  split
  · refine .ite (fun _ => ?_) fun _ => .refl s
    unfold beaconArrives
    have hcount : Bounded s ((bumpSlot i .beacons s).updMonitor i MonitorRecord.beacon) :=
      (bumpSlotBy_bounded s i .beacons 1).trans (.updMonitor _ i _)
    exact .ite (fun _ => hcount.trans (.of_event (qualificationReported_flows i _) (qualificationReported_eventAt i _)))
      fun _ => hcount
  · unfold echoArrives
    refine .ite (fun _ => ?_) fun _ => hstray
    split
    · exact .of_event (enterFaulted_flows i s _) (enterFaulted_eventAt i s _)
    · refine .trans ?_ (.of_event (evaluateQualification_flows i _) (evaluateQualification_eventAt i _))
      exact .updSlot s i fun _ => le_max_right _ _
  · exact .ite (fun _ => .of_event (enterDrained_flows i s (flags := id) .refl)
      (enterDrained_eventAt i s (flags := id) (.refl i))) fun _ => hstray
  · unfold pauseArrives
    split
    · refine .ite (fun _ => ?_) fun _ => .refl s
      refine .trans ?_ (bumpSlotBy_bounded _ i .remotePauses 1)
      exact .updLink s i fun _ => le_rfl
    · exact hstray
  · exact hstray

/-! Receptions. The two invariants of the queues are kept alike: by what is bounded, and by each place that takes the frame of
a reception. -/

/-- `P` is kept across receptions, where `Room` says that a cell has just been freed. -/
structure ReceptionLaw (P Room : State → Prop) : Prop where
  bounded : ∀ s t, Bounded s t → P s → P t
  roomBounded : ∀ s t, Bounded s t → Room s → Room t
  ofRoom : ∀ s, Room s → P s
  coreStart : ∀ s, s.core.rx = none → P s → P (s.updCore fun k => { k with rx := some (takesCell s) })
  slotStart : ∀ s i, (s.links.get i).rx = none → P s → P (s.updLink i fun l => { l with rx := some (takesCell s) })
  coreEnd : ∀ s, s.core.rx = some true → P s → Room (s.updCore fun k => { k with rx := none })
  slotEnd : ∀ s i, (s.links.get i).rx = some true → P s → Room (s.updLink i fun l => { l with rx := none })
  offer : ∀ s i entry, Room s → P (offerEgress i entry s)
  hold : ∀ s e m bytes, s.engines.get e = some m → m.hold.length < 32 → Room s →
    P (s.setEngine e (some { m with hold := m.hold ++ [bytes] }))
  request : ∀ s bytes payload, P s → P (handOff bytes payload s)
  upstream : ∀ s i q bytes, effectiveQuota s i = some q → (s.upstream.get i).queue.length < q → Room s →
    P (s.updUpstream i fun u => { u with queue := u.queue ++ [bytes] })

theorem bumpCore_bounded (c : CoreCounter) (s : State) : Bounded s (bumpCore c s) := .updCore s fun _ => le_rfl

theorem bumpAgent_bounded (c : AgentCounter) (s : State) : Bounded s (bumpAgent c s) :=
  .updAgent s (fun _ => rfl) fun _ => le_rfl

section

variable {P Room : State → Prop} (L : ReceptionLaw P Room)

include L

theorem ReceptionLaw.steerToEngine {e : EngineIx} {m : MoveRecord} (he : s.engines.get e = some m) (bytes : FrameBytes)
    (hs : Room s) : P (steerToEngine e m bytes s) := by
  unfold Machine.steerToEngine
  split
  · next hroom => exact L.hold s e m bytes he hroom hs
  · refine L.offer _ _ _ (L.roomBounded _ _ ?_ hs)
    exact (engineCommit_bounded s he).trans (bumpPool_bounded _ _ _ _)

theorem ReceptionLaw.steer (p : PoolIx) (key : BitVec 32) (bytes : FrameBytes) (hs : Room s) : P (steer p key bytes s) := by
  have hcount (c : PoolCounter) : P (bumpPool p c 1 s) := L.bounded _ _ (bumpPool_bounded s p c 1) (L.ofRoom s hs)
  unfold Machine.steer
  dsimp only
  split
  · split
    · exact hcount _
    · exact hcount _
    · split
      · next e m hmove =>
        rw [Option.bind_eq_some_iff] at hmove
        obtain ⟨e', -, hm⟩ := hmove
        rw [Option.map_eq_some_iff] at hm
        obtain ⟨m', hm', hpair⟩ := hm
        cases hpair
        exact L.steerToEngine hm' bytes hs
      · exact L.offer s _ _ hs
  · exact hcount _

theorem ReceptionLaw.classify (info : FrameInfo) (bytes : FrameBytes) (hs : Room s) : P (classify info bytes s) := by
  have hbad : P (bumpCore .badTarget s) := L.bounded _ _ (bumpCore_bounded _ s) (L.ofRoom s hs)
  unfold Machine.classify
  split
  · split
    · exact L.steer _ _ bytes hs
    · exact hbad
  · split
    · next i _ =>
      unfold deliverToSlot
      split
      · exact L.offer s i _ hs
      · exact L.bounded _ _ (bumpSlotBy_bounded s i _ 1) (L.ofRoom s hs)
    · exact hbad
  · split
    · exact L.request s bytes _ (L.ofRoom s hs)
    · exact hbad
  · exact hbad

theorem ReceptionLaw.coreRxEnd {how : FrameEnd} {bytes : FrameBytes} (hs : P s)
    (h : exec (.coreRxEnd how bytes) s = .next t) : P t := by
  simp only [exec, execCoreRxEnd] at h
  split at h
  · cases h
    exact hs
  · next stored hrx =>
    cases h
    cases stored with
    | false =>
      refine L.bounded s _ ?_ hs
      refine .trans ?_ (bumpCore_bounded _ _)
      exact .updCore s fun _ => Nat.zero_le _
    | true =>
      have hroom := L.coreEnd s hrx hs
      have hcount (c : CoreCounter) := L.roomBounded _ _ (bumpCore_bounded c _) hroom
      rw [if_pos rfl]
      unfold coreFrameEnds
      split
      · exact L.ofRoom _ (hcount _)
      · split
        · exact L.ofRoom _ (hcount _)
        · exact L.classify _ bytes (hcount _)

theorem ReceptionLaw.admitUpstream (i : SlotIx) (bytes : FrameBytes) (hs : Room s) : P (admitUpstream i bytes s) := by
  unfold Machine.admitUpstream
  split
  · exact L.bounded _ _ (bumpSlotBy_bounded s i _ 1) (L.ofRoom s hs)
  · next q hq =>
    split
    · next hlt =>
      refine L.bounded _ _ ?_ (L.upstream s i q bytes hq hlt hs)
      exact (bumpSlotBy_bounded _ i _ 1).trans (.of_event (pauseAtArrival_flows i _) (pauseAtArrival_eventAt i _))
    · refine L.bounded s _ ?_ (L.ofRoom s hs)
      refine .trans ?_ (.of_event (pauseAtArrival_flows i _) (pauseAtArrival_eventAt i _))
      exact (bumpSlotBy_bounded s i _ 1).trans (raiseFlag_bounded _ i _)

theorem ReceptionLaw.slotRxEnd {how : FrameEnd} {bytes : FrameBytes} (hs : P s)
    (h : exec (.slotRxEnd i how bytes) s = .next t) : P t := by
  simp only [exec, execSlotRxEnd] at h
  split at h
  · cases h
    exact hs
  · next stored hrx =>
    cases h
    cases stored with
    | false =>
      refine L.bounded s _ ?_ hs
      refine .trans ?_ (bumpSlotBy_bounded _ i _ 1)
      exact .updLink s i fun _ => Nat.zero_le _
    | true =>
      have hroom := L.slotEnd s i hrx hs
      have hcount (c : SlotCounter) := L.bounded _ _ (bumpSlotBy_bounded _ i c 1) (L.ofRoom _ hroom)
      rw [if_pos rfl]
      unfold slotFrameEnds
      split
      · exact hcount _
      · split
        · exact hcount _
        · unfold sortFrame
          split
          · exact L.bounded _ _ (controlArrives_bounded i _ _) (L.ofRoom _ hroom)
          · exact hcount _
          · exact L.admitUpstream i bytes hroom
          · exact L.admitUpstream i bytes hroom

theorem ReceptionLaw.exec {c : Instr} (hon : c ≠ .powerOn) (hpin : c ≠ .pinReset) (hs : P s) (h : exec c s = .next t) : P t := by
  by_cases hrequest : isRequest c = true
  · exact eq_ran h ▸ L.bounded s _ (request_bounded s hrequest) hs
  by_cases hother : isReceptionOrReset c = false
  · exact L.bounded s t (event_bounded (Bool.eq_false_iff.mpr hrequest) hother h) hs
  cases c
  case powerOn => exact absurd rfl hon
  case pinReset => exact absurd rfl hpin
  case coreRxStart =>
    simp only [Machine.exec, execCoreRxStart] at h
    split at h
    · next hrx =>
      cases h
      exact L.coreStart s hrx hs
    · cases h
      exact hs
  case slotRxStart i =>
    simp only [Machine.exec, execSlotRxStart] at h
    split at h
    · next hrx =>
      cases h
      exact L.slotStart s i hrx.2 hs
    · cases h
      exact hs
  case coreRxEnd => exact L.coreRxEnd hs h
  case slotRxEnd => exact L.slotRxEnd hs h
  all_goals exact absurd rfl hother

end

end Sys2Proof.Machine
end

section
/-! SUPPORT. The two invariants of the queues: every queue within its capacity, and each bin's in-flight count the number of its
frames in egress queues (R40, R63, R85, R93, R103, R183, R185). -/

namespace Sys2Proof.Machine

variable {s t : State} {i : SlotIx}

theorem cellsInUse_updCore_rx (s : State) (rx : Option Bool) :
    cellsInUse (s.updCore fun k => { k with rx := rx }) + receptionCells s.core.rx = cellsInUse s + receptionCells rx := by
  simp only [cellsInUse, State.updCore]
  omega

theorem cellsInUse_updLink_rx (s : State) (i : SlotIx) (rx : Option Bool) :
    cellsInUse (s.updLink i fun l => { l with rx := rx }) + receptionCells (s.links.get i).rx
      = cellsInUse s + receptionCells rx := by
  have h := tableSum_change (fun l : LinkRecord => receptionCells l.rx)
    (t := (s.updLink i fun l => { l with rx := rx }).links) (u := s.links) i
    fun j hj => by rw [State.updLink_links, Table.get_modify_of_ne _ hj]
  rw [State.updLink_links, Table.get_modify_self] at h
  simp only [cellsInUse, State.updLink] at h ⊢
  omega

theorem cellsInUse_updUpstream_append (s : State) (i : SlotIx) (bytes : FrameBytes) :
    cellsInUse (s.updUpstream i fun u => { u with queue := u.queue ++ [bytes] }) = cellsInUse s + 1 := by
  have h := tableSum_change (fun u : UpstreamRecord => u.queue.length)
    (t := (s.updUpstream i fun u => { u with queue := u.queue ++ [bytes] }).upstream) (u := s.upstream) i
    fun j hj => by rw [State.updUpstream_upstream, Table.get_modify_of_ne _ hj]
  rw [State.updUpstream_upstream, Table.get_modify_self] at h
  simp only [cellsInUse, State.updUpstream, List.length_append, List.length_singleton] at h ⊢
  omega

/-- A reception takes a cell only where one of the 2,048 is free (R85, R86). -/
theorem receptionCells_takesCell (h : cellsInUse s ≤ 2048) : cellsInUse s + receptionCells (some (takesCell s)) ≤ 2048 := by
  rw [takesCell]
  by_cases hfree : cellsInUse s < Config.frameCells
  · rw [decide_eq_true hfree]
    exact hfree
  · rw [decide_eq_false hfree]
    exact h

theorem effectiveQuota_le {q : Nat} (h : effectiveQuota s i = some q) : q ≤ max 4 (s.slots.get i).quota := by
  unfold effectiveQuota at h
  dsimp only at h
  split at h
  case h_3 =>
    cases h
    split <;> omega
  all_goals
    cases h
    try omega

/-- A frame has left a reception: there is a cell for it in the queue that it joins. -/
structure WithRoom (s : State) : Prop where
  within : WithinBounds s
  room : cellsInUse s < 2048

theorem Offers.within (h : Offers 1 s t) (hf : Follows s t) (hs : WithRoom s) : WithinBounds t where
  cells := by
    have := h.cells
    have := hs.room
    omega
  egress i := (h.egress i).trans (max_le le_rfl (hs.within.egress i))
  quota i := by
    obtain ⟨-, -, -, -, -, -, hquota⟩ := (hf.slots i).settings
    rw [hquota]
    exact hs.within.quota i
  upstream i := by
    rw [h.upstream]
    exact hs.within.upstream i
  hold := by
    rw [h.engines]
    exact hs.within.hold
  requests := hf.proceeds.agent.requests_eq ▸ hs.within.requests
  transmit := hf.proceeds.agent.transmit_le.trans (max_le le_rfl hs.within.transmit)

theorem holdsFrame_within {e : EngineIx} {m : MoveRecord} (bytes : FrameBytes) (he : s.engines.get e = some m)
    (hroom : m.hold.length < 32) (hs : WithRoom s) :
    WithinBounds (s.setEngine e (some { m with hold := m.hold ++ [bytes] })) := by
  have hcells := cellsInUse_setEngine s e (some { m with hold := m.hold ++ [bytes] })
  rw [he] at hcells
  simp only [holdCells, List.length_append, List.length_singleton] at hcells
  have hlt := hs.room
  refine { hs.within with cells := by omega, hold := fun e' m' hm' => ?_ }
  rw [State.setEngine, Table.get_set] at hm'
  split at hm'
  · cases hm'
    rw [List.length_append, List.length_singleton]
    omega
  · exact hs.within.hold e' m' hm'

theorem handOff_within (bytes : FrameBytes) (payload : List Byte) (hs : WithinBounds s) :
    WithinBounds (handOff bytes payload s) := by
  unfold handOff
  split
  · next hroom =>
    have hroom : s.agent.requests.length < 8 := hroom
    refine (bumpAgent_bounded _ _).within { hs with requests := ?_ }
    show (s.agent.requests ++ [_]).length ≤ 8
    rw [List.length_append, List.length_singleton]
    omega
  · exact (bumpAgent_bounded _ s).within hs

theorem admitted_within {q : Nat} (bytes : FrameBytes) (hq : effectiveQuota s i = some q)
    (hlt : (s.upstream.get i).queue.length < q) (hs : WithRoom s) :
    WithinBounds (s.updUpstream i fun u => { u with queue := u.queue ++ [bytes] }) := by
  have hle := effectiveQuota_le hq
  have hquota := hs.within.quota i
  have hroom := hs.room
  refine { hs.within with
    cells := by rw [cellsInUse_updUpstream_append]; omega
    upstream := fun j => ?_ }
  rw [State.updUpstream_upstream, Table.get_modify]
  split
  · rw [List.length_append, List.length_singleton]
    omega
  · exact hs.within.upstream j

/-- The bounds of the queues are kept across receptions (R63, R85, R93, R103, R183). -/
theorem withinBounds_reception : ReceptionLaw WithinBounds WithRoom where
  bounded _ _ h hs := h.within hs
  roomBounded _ _ h hs := ⟨h.within hs.within, h.flows.cells.trans_lt hs.room⟩
  ofRoom _ hs := hs.within
  coreStart s hrx hs := by
    have hcells := cellsInUse_updCore_rx s (some (takesCell s))
    have htaken := receptionCells_takesCell hs.cells
    rw [hrx] at hcells
    exact { hs with cells := by rw [receptionCells] at hcells; omega }
  slotStart s i hrx hs := by
    have hcells := cellsInUse_updLink_rx s i (some (takesCell s))
    have htaken := receptionCells_takesCell hs.cells
    rw [hrx] at hcells
    exact { hs with cells := by rw [receptionCells] at hcells; omega }
  coreEnd s hrx hs := by
    have hcells := cellsInUse_updCore_rx s none
    have hle := hs.cells
    simp only [hrx, receptionCells] at hcells
    exact ⟨{ hs with cells := by omega }, by omega⟩
  slotEnd s i hrx hs := by
    have hcells := cellsInUse_updLink_rx s i none
    have hle := hs.cells
    simp only [hrx, receptionCells] at hcells
    exact ⟨{ hs with cells := by omega }, by omega⟩
  offer s i entry hs := (offerEgress_offers s i entry).within (offerEgress_follows i entry s) hs
  hold _ _ _ bytes he hroom hs := holdsFrame_within bytes he hroom hs
  request _ bytes payload hs := handOff_within bytes payload hs
  upstream _ _ _ bytes hq hlt hs := admitted_within bytes hq hlt hs

/-- The law of in-flight counts is kept across receptions (R40). -/
theorem inflightLaw_reception : ReceptionLaw InflightLaw InflightLaw where
  bounded _ _ h := h.flows.inflight
  roomBounded _ _ h := h.flows.inflight
  ofRoom _ := id
  coreStart _ _ := id
  slotStart _ _ _ := id
  coreEnd _ _ := id
  slotEnd _ _ _ := id
  offer s i entry := (offerEgress_offers s i entry).inflight
  hold _ _ _ _ _ _ := id
  request s bytes payload hs := by
    unfold handOff
    split <;> exact hs
  upstream _ _ _ _ _ _ := id

/-! The resets. -/

theorem tableSum_fill {α : Type} {n : Nat} (f : α → Nat) {a : α} (h : f a = 0) : tableSum f (Table.fill n a) = 0 := by
  rw [tableSum_eq_sum]
  exact Finset.sum_eq_zero fun i _ => by rw [Table.get_fill, h]

theorem steeredFrames_of_empty (h : ∀ i, s.egress.get i = []) (p : PoolIx) (b : BinIx) : steeredFrames s p b = 0 := by
  rw [steeredFrames_eq_sum]
  exact Finset.sum_eq_zero fun i _ => by rw [h i]; rfl

/-- No frame anywhere, as the two resets leave the part. -/
structure NoFrames (s : State) : Prop where
  core : s.core.rx = none
  links : s.links = Table.fill 12 LinkRecord.powerOn
  egress : s.egress = Table.fill 12 []
  engines : s.engines = Table.fill 4 none
  upstream : s.upstream = Table.fill 12 ⟨[], none⟩
  inflight : ∀ p b, ((s.pools.get p).bins.get b).inflight = 0
  requests : s.agent.requests = []
  transmit : s.agent.transmit = []

theorem NoFrames.cells (h : NoFrames s) : cellsInUse s = 0 := by
  have hlinks := tableSum_fill (n := 12) (fun l : LinkRecord => receptionCells l.rx) (a := .powerOn) rfl
  have hegress := tableSum_fill (n := 12) (List.length (α := EgressEntry)) (a := []) rfl
  have hengines := tableSum_fill (n := 4) holdCells (a := none) rfl
  have hupstream := tableSum_fill (n := 12) (fun u : UpstreamRecord => u.queue.length) (a := ⟨[], none⟩) rfl
  rw [cellsInUse, h.core, h.links, h.egress, h.engines, h.upstream, hlinks, hegress, hengines, hupstream]
  rfl

theorem NoFrames.within (h : NoFrames s) (hquota : ∀ i, (s.slots.get i).quota ≤ 128) : WithinBounds s where
  cells := h.cells.trans_le (Nat.zero_le _)
  egress i := by
    rw [h.egress, Table.get_fill]
    exact Nat.zero_le _
  quota := hquota
  upstream i := by
    rw [h.upstream, Table.get_fill]
    exact Nat.zero_le _
  hold e m hm := by
    rw [h.engines, Table.get_fill] at hm
    cases hm
  requests := by
    rw [h.requests]
    exact Nat.zero_le _
  transmit := by
    rw [h.transmit]
    exact Nat.zero_le _

theorem NoFrames.inflightLaw (h : NoFrames s) : InflightLaw s := fun p b => by
  rw [h.inflight, steeredFrames_of_empty fun i => by rw [h.egress, Table.get_fill]]

theorem reset_noFrames : NoFrames State.reset where
  core := rfl
  links := rfl
  egress := rfl
  engines := rfl
  upstream := rfl
  inflight p b := by
    show ((State.reset.pools.get p).bins.get b).inflight = 0
    rw [State.reset, Table.get_fill, PoolRecord.powerOn, Table.get_fill]
  requests := rfl
  transmit := rfl

theorem pinResetState_noFrames (s : State) : NoFrames (pinResetState s) where
  core := rfl
  links := rfl
  egress := rfl
  engines := rfl
  upstream := rfl
  inflight p b := by
    rw [pinResetState, Table.get_tab, PoolRecord.pinReset, Table.get_tab]
  requests := rfl
  transmit := rfl

theorem reset_within : WithinBounds State.reset :=
  reset_noFrames.within fun i => by
    rw [State.reset, Table.get_fill]
    decide

/-- Every command keeps what receptions keep and the two resets establish. -/
theorem ReceptionLaw.step {P Room : State → Prop} (L : ReceptionLaw P Room)
    (hpower : ∀ s : State, P { State.reset with pending := s.pending, freeDraws := s.freeDraws })
    (hpin : ∀ s, P s → P (pinResetState s)) (hpending : ∀ s rest, P s → P { s with pending := rest })
    (hs : P s) (h : step s = .next t) : P t := by
  refine step_keeps hpending (fun c u v hu h => ?_) (fun u hu => idle_bounded_keeps L.bounded hu) hs h
  by_cases hc : c = .powerOn
  · subst hc
    exact eq_ran h ▸ L.bounded _ _ (.updScanner _ _) (hpower u)
  by_cases hc' : c = .pinReset
  · subst hc'
    exact eq_ran h ▸ L.bounded _ _ (.updScanner _ _) (hpin u hu)
  exact L.exec hc hc' hu h

/-- Settles O59: in-flight counts follow the frames that join and leave egress queues, step by step. -/
theorem stepsKeepTheInflightLaw : Obligations.StepsKeepTheInflightLaw := fun _ _ hs h =>
  inflightLaw_reception.step (fun _ => reset_noFrames.inflightLaw) (fun s _ => (pinResetState_noFrames s).inflightLaw)
    (fun _ _ => id) hs h

theorem step_withinBounds (hs : WithinBounds s) (h : step s = .next t) : WithinBounds t :=
  withinBounds_reception.step (fun _ => { reset_within with }) (fun s hs => (pinResetState_noFrames s).within fun i => by
    rw [pinResetState, Table.get_tab]
    exact hs.quota i) (fun _ _ hs => { hs with }) hs h

end Sys2Proof.Machine
end

section
/-! SUPPORT. The laws of a link record and of a monitor record, kept by each change that an operation makes to one (R120–R126,
R130, R132, R133, R139–R149). -/

namespace Sys2Proof.Machine

/-! The control list (R132). -/

/-- The control frames that are no PAUSE are ten. -/
def noticeFrames : List ControlFrame := (List.finRange 8).map .probe ++ [.admitNotice, .retireNotice]

theorem control_length_le {list : List ControlFrame} (hnodup : list.Nodup)
    (hpause : (list.filter ControlFrame.isPause).length ≤ 1) : list.length ≤ 11 := by
  have hother : (list.filter fun f => !f.isPause).length ≤ noticeFrames.length := by
    refine ((hnodup.filter _).subperm fun f hf => ?_).length_le
    obtain ⟨-, hnot⟩ := List.mem_filter.mp hf
    cases f with
    | probe n => simp [noticeFrames]
    | admitNotice => simp [noticeFrames]
    | retireNotice => simp [noticeFrames]
    | pause t => cases hnot
  have hsplit := List.length_eq_length_filter_add (l := list) ControlFrame.isPause
  have hten : noticeFrames.length = 10 := rfl
  omega

/-- What the law of a link asks of its control list (R132). -/
abbrev ControlLaw (list : List ControlFrame) : Prop :=
  list.Nodup ∧ (list.filter ControlFrame.isPause).length ≤ 1 ∧ list.length ≤ 11

theorem ControlLaw.of_nodup {list : List ControlFrame} (hnodup : list.Nodup)
    (hpause : (list.filter ControlFrame.isPause).length ≤ 1) : ControlLaw list :=
  ⟨hnodup, hpause, control_length_le hnodup hpause⟩

theorem ControlLaw.nil : ControlLaw [] := .of_nodup List.nodup_nil (Nat.zero_le _)

theorem ControlLaw.suffix {list rest : List ControlFrame} (h : ControlLaw list) (hrest : rest <:+ list) : ControlLaw rest := by
  obtain ⟨hnodup, hpause, -⟩ := h
  exact .of_nodup (hnodup.sublist hrest.sublist) ((hrest.sublist.filter _).length_le.trans hpause)

theorem ControlLaw.append {list : List ControlFrame} {f : ControlFrame} (h : ControlLaw list) (hnew : f ∉ list)
    (hf : f.isPause = true → list.filter ControlFrame.isPause = []) : ControlLaw (list ++ [f]) := by
  obtain ⟨hnodup, hpause, -⟩ := h
  refine .of_nodup (hnodup.append (List.nodup_singleton f) (by simpa using hnew)) ?_
  rw [List.filter_append, List.length_append]
  by_cases hp : f.isPause = true
  · rw [hf hp]
    simp [hp]
  · simpa [hp] using hpause

/-- A PAUSE that takes the place of an unsent PAUSE (R132). -/
theorem ControlLaw.replace {list : List ControlFrame} (time : Nat) (h : ControlLaw list) :
    ControlLaw (list.map fun g => if g.isPause then .pause time else g) := by
  obtain ⟨hnodup, hpause, hlength⟩ := h
  induction list with
  | nil => exact .nil
  | cons g list ih =>
    have hsame (hnone : list.filter ControlFrame.isPause = []) :
        (list.map fun g => if g.isPause then ControlFrame.pause time else g) = list := by
      rw [List.filter_eq_nil_iff] at hnone
      exact (List.map_congr_left fun f hf => if_neg (hnone f hf)).trans (List.map_id' list)
    obtain ⟨hg, hnodup⟩ := List.nodup_cons.mp hnodup
    by_cases hp : g.isPause = true
    · have hnone : list.filter ControlFrame.isPause = [] := by simpa [List.filter_cons, hp] using hpause
      rw [List.map_cons, if_pos hp, hsame hnone]
      refine .of_nodup (List.nodup_cons.mpr ⟨fun hmem => ?_, hnodup⟩) ?_
      · exact List.filter_eq_nil_iff.mp hnone _ hmem rfl
      · simp [List.filter_cons, ControlFrame.isPause, hnone]
    · have hpause' : (list.filter ControlFrame.isPause).length ≤ 1 := by simpa [List.filter_cons, hp] using hpause
      obtain ⟨hn, hl, -⟩ := ih hnodup hpause' (control_length_le hnodup hpause')
      rw [List.map_cons, if_neg hp]
      refine .of_nodup (List.nodup_cons.mpr ⟨fun hmem => ?_, hn⟩) (by simpa [List.filter_cons, hp] using hl)
      obtain ⟨f, hf, hfg⟩ := List.mem_map.mp hmem
      split at hfg
      · exact hp (hfg ▸ rfl)
      · exact hg (hfg ▸ hf)

/-- What joins a control list keeps its law, a PROBE only where that one is not waiting. -/
theorem ControlLaw.join {list : List ControlFrame} {f : ControlFrame} (h : ControlLaw list)
    (hprobe : ∀ n, f = .probe n → f ∉ list) : ControlLaw (joinControl f list) := by
  cases f with
  | probe n => exact h.append (hprobe n rfl) fun hf => by cases hf
  | admitNotice =>
    show ControlLaw (if .admitNotice ∈ list then list else list ++ [.admitNotice])
    split
    · exact h
    · next hnew => exact h.append hnew fun hf => by cases hf
  | retireNotice =>
    show ControlLaw (if .retireNotice ∈ list then list else list ++ [.retireNotice])
    split
    · exact h
    · next hnew => exact h.append hnew fun hf => by cases hf
  | pause time =>
    show ControlLaw (if list.any ControlFrame.isPause then list.map fun g => if g.isPause then .pause time else g
      else list ++ [.pause time])
    split
    · exact h.replace time
    · next hnone =>
      have hfilter : list.filter ControlFrame.isPause = [] := by
        rw [List.filter_eq_nil_iff]
        exact fun g hg hp => hnone (List.any_eq_true.mpr ⟨g, hg, hp⟩)
      exact h.append (fun hmem => List.filter_eq_nil_iff.mp hfilter _ hmem rfl) fun _ => hfilter

/-! A link record. -/

variable {l : LinkRecord}

theorem LinkRecord.carries_iff : l.carries = true ↔ l.state = .up ∧ l.lost = false := by
  simp [LinkRecord.carries]

theorem LinkRecord.receives_iff : l.receives = true ↔ (l.carries = true ∨ l.state = .parked) ∧ l.lock = true := by
  simp [LinkRecord.receives]

theorem LinkRecord.inAttempt_iff : l.inAttempt = true ↔ l.state = .training ∧ l.attemptTimer ≠ none := by
  cases h : l.attemptTimer <;> simp [LinkRecord.inAttempt, h]

theorem LinkLaw.of_control (h : LinkLaw l) (hcarries : l.carries = true) {list : List ControlFrame} (hlist : ControlLaw list) :
    LinkLaw { l with control := list } :=
  { h with
    outsideUp := fun hup => absurd (LinkRecord.carries_iff.mp hcarries).1 hup
    control := hlist }

theorem LinkLaw.follows {l' : LinkRecord} (h : LinkLaw l) (hf : LinkFollows l l') : LinkLaw l' := by
  obtain rfl | ⟨hcarries, hnew, rfl⟩ := hf
  · exact h
  · exact h.of_control hcarries (ControlLaw.append h.control hnew fun hf => by cases hf)

theorem LinkFollows.state_eq {l l' : LinkRecord} (hf : LinkFollows l l') : l'.state = l.state := by
  obtain rfl | ⟨-, -, rfl⟩ := hf <;> rfl

theorem LinkFollows.carries_eq {l l' : LinkRecord} (hf : LinkFollows l l') : l'.carries = l.carries := by
  obtain rfl | ⟨-, -, rfl⟩ := hf <;> rfl

theorem LinkLaw.without_tx (h : LinkLaw l) : LinkLaw { l with tx := none } := { h with sends := fun _ => rfl }

theorem LinkLaw.without_rx (h : LinkLaw l) : LinkLaw { l with rx := none } := { h with receives := fun hrx => absurd rfl hrx }

theorem LinkLaw.with_rx (h : LinkLaw l) (hr : l.receives = true) (stored : Bool) : LinkLaw { l with rx := some stored } :=
  { h with receives := fun _ => hr }

theorem LinkLaw.with_remotePause (h : LinkLaw l) (hup : l.state = .up) (t : Timer) : LinkLaw { l with remotePause := t } :=
  { h with outsideUp := fun hdown => absurd hup hdown }

theorem LinkLaw.without_remotePause (h : LinkLaw l) : LinkLaw { l with remotePause := none } :=
  { h with outsideUp := fun hdown => ⟨(h.outsideUp hdown).1, rfl⟩ }

/-- A link outside UP and PARKED receives nothing. -/
theorem LinkLaw.rx_none (h : LinkLaw l) (hstate : l.state = .dark ∨ l.state = .training) : l.rx = none := by
  by_contra hrx
  obtain ⟨hr, -⟩ := LinkRecord.receives_iff.mp (h.receives hrx)
  rw [LinkRecord.carries_iff] at hr
  obtain hstate | hstate := hstate <;> simp [hstate] at hr

/-- The lock-loss timer of a link that is in no attempt and carries nothing is stopped. -/
theorem LinkLaw.lossTimer_none (h : LinkLaw l) (hattempt : l.inAttempt = false) (hcarries : l.carries = false) :
    l.lockLossTimer = none := by
  by_contra hloss
  obtain ⟨-, hr | hr⟩ := h.lossRuns hloss
  · rw [hattempt] at hr
    cases hr
  · rw [hcarries] at hr
    cases hr

/-- A record in `state` with nothing running, waiting or in progress keeps the law, where its lock and its attempt do. -/
theorem LinkLaw.quiet (hstate : l.state ≠ .up) (hdark : l.state = .dark → l.train = none ∧ l.lock = false)
    (htrain : l.state ≠ .dark → ∃ tr, l.train = some tr ∧ 1 ≤ tr.attempt ∧ tr.attempt ≤ tr.limit ∧ tr.limit ≤ 7)
    (hattempt : l.attemptTimer ≠ none ∨ l.lockedInAttempt = true → l.state = .training) (hloss : l.lockLossTimer = none)
    (hcontrol : l.control = []) (hpause : l.remotePause = none) (htx : l.tx = none)
    (hrx : l.rx ≠ none → l.receives = true) : LinkLaw l where
  dark := hdark
  train := htrain
  attempt := hattempt
  lossRuns h := absurd hloss h
  loss h := absurd (LinkRecord.carries_iff.mp h).1 hstate
  outsideUp _ := ⟨hcontrol, hpause⟩
  sends _ := htx
  receives := hrx
  control := hcontrol ▸ ControlLaw.nil

end Sys2Proof.Machine
end

section
/-! SUPPORT. The changes of a link record and of a monitor record, each within its law (R120–R126, R139–R149). -/

namespace Sys2Proof.Machine

variable {l : LinkRecord}

/-- A link that has dropped what it carried: nothing waits, nothing is sent and nothing is received (R121, R126). -/
structure LinkRecord.Dropped (l : LinkRecord) : Prop where
  control : l.control = []
  pause : l.remotePause = none
  tx : l.tx = none
  rx : l.rx = none

theorem LinkLaw.dropped (h : LinkLaw l) (hstate : l.state = .dark ∨ l.state = .training) : l.Dropped := by
  have hup : l.state ≠ .up := by obtain hstate | hstate := hstate <;> simp [hstate]
  obtain ⟨hcontrol, hpause⟩ := h.outsideUp hup
  exact ⟨hcontrol, hpause, h.sends (Bool.eq_false_iff.mpr fun hc => hup (LinkRecord.carries_iff.mp hc).1), h.rx_none hstate⟩

theorem LinkLaw.startAttempt (h : l.Dropped) (mode : RateMode) {limit n : Nat} (hn : 1 ≤ n) (hle : n ≤ limit) (hlimit : limit ≤ 7) :
    LinkLaw (l.startAttempt mode limit n) where
  dark hdark := by cases hdark
  train _ := ⟨_, rfl, hn, hle, hlimit⟩
  attempt _ := rfl
  lossRuns hloss := absurd rfl hloss
  loss hcarries := by cases (LinkRecord.carries_iff.mp hcarries).1
  outsideUp _ := ⟨h.control, h.pause⟩
  sends _ := h.tx
  receives hrx := absurd h.rx hrx
  control := by
    rw [LinkRecord.startAttempt, h.control]
    exact ControlLaw.nil

theorem LinkLaw.enterDark (h : l.Dropped) : LinkLaw l.enterDark where
  dark _ := ⟨rfl, rfl⟩
  train hdark := absurd rfl hdark
  attempt hattempt := by
    obtain hattempt | hattempt := hattempt
    · exact absurd rfl hattempt
    · cases hattempt
  lossRuns hloss := absurd rfl hloss
  loss hcarries := by cases (LinkRecord.carries_iff.mp hcarries).1
  outsideUp _ := ⟨h.control, h.pause⟩
  sends _ := h.tx
  receives hrx := absurd h.rx hrx
  control := by
    rw [LinkRecord.enterDark, h.control]
    exact ControlLaw.nil

/-- A link from UP to PARKED: its reception goes on (R121, R126). -/
theorem LinkLaw.park (h : LinkLaw l) (hup : l.state = .up) : LinkLaw (l.leaveUp .parked) where
  dark hdark := by cases hdark
  train _ := h.train (by simp [hup])
  attempt hattempt := by
    have htraining := h.attempt hattempt
    rw [hup] at htraining
    cases htraining
  lossRuns hloss := absurd rfl hloss
  loss hcarries := by cases (LinkRecord.carries_iff.mp hcarries).1
  outsideUp _ := ⟨rfl, rfl⟩
  sends _ := rfl
  receives hrx := by
    obtain ⟨-, hlock⟩ := LinkRecord.receives_iff.mp (h.receives hrx)
    exact LinkRecord.receives_iff.mpr ⟨.inr rfl, hlock⟩
  control := ControlLaw.nil

/-- A link from PARKED to UP (R121, R125). -/
theorem LinkLaw.resume (h : LinkLaw l) (hparked : l.state = .parked) :
    LinkLaw { l with state := .up, lost := false, lockLossTimer := if l.lock then none else some 1000 } where
  dark hdark := by cases hdark
  train _ := h.train (by simp [hparked])
  attempt hattempt := by
    have htraining := h.attempt hattempt
    rw [hparked] at htraining
    cases htraining
  lossRuns hloss := by
    cases hlock : l.lock with
    | true => simp [hlock] at hloss
    | false => exact ⟨rfl, .inr rfl⟩
  loss _ := by cases l.lock <;> simp
  outsideUp hup := absurd rfl hup
  sends hcarries := by cases hcarries
  receives hrx := by
    obtain ⟨-, hlock⟩ := LinkRecord.receives_iff.mp (h.receives hrx)
    exact LinkRecord.receives_iff.mpr ⟨.inl rfl, hlock⟩
  control := h.control

theorem LinkLaw.gainLock (h : LinkLaw l) : LinkLaw l.gainLock := by
  obtain ⟨state, train, lock, lost, locked, attempt, loss, pause, control, rx, tx⟩ := l
  cases state with
  | dark => exact h
  | training =>
    exact { h with
      dark := fun hdark => by cases hdark
      attempt := fun _ => rfl
      lossRuns := fun hloss => absurd rfl hloss
      loss := fun hcarries => by cases (LinkRecord.carries_iff.mp hcarries).1
      sends := h.sends
      receives := fun hrx => absurd (h.rx_none (.inr rfl)) hrx }
  | up =>
    exact { h with
      dark := fun hdark => by cases hdark
      attempt := h.attempt
      lossRuns := fun hloss => absurd rfl hloss
      loss := fun _ => by simp [LinkRecord.gainLock]
      sends := h.sends
      receives := fun hrx => by
        obtain ⟨hreceives, -⟩ := LinkRecord.receives_iff.mp (h.receives hrx)
        exact LinkRecord.receives_iff.mpr ⟨hreceives, rfl⟩ }
  | parked =>
    exact { h with
      dark := fun hdark => by cases hdark
      attempt := h.attempt
      lossRuns := fun hloss => absurd rfl hloss
      loss := fun hcarries => by cases (LinkRecord.carries_iff.mp hcarries).1
      sends := h.sends
      receives := fun _ => LinkRecord.receives_iff.mpr ⟨.inr rfl, rfl⟩ }

theorem LinkLaw.loseLock (h : LinkLaw l) (hrx : l.rx = none) : LinkLaw l.loseLock := by
  obtain ⟨state, train, lock, lost, locked, attempt, loss, pause, control, rx, tx⟩ := l
  cases state with
  | dark => exact h
  | training =>
    exact { h with
      dark := fun hdark => by cases hdark
      attempt := h.attempt
      lossRuns := fun hloss => by
        refine ⟨rfl, .inl ?_⟩
        simp only [LinkRecord.loseLock] at hloss
        split at hloss
        · next hlocked => exact LinkRecord.inAttempt_iff.mpr ⟨rfl, Option.isSome_iff_ne_none.mp hlocked.2⟩
        · obtain ⟨-, hattempt | hcarries⟩ := h.lossRuns hloss
          · exact hattempt
          · cases (LinkRecord.carries_iff.mp hcarries).1
      loss := fun hcarries => by cases (LinkRecord.carries_iff.mp hcarries).1
      sends := h.sends
      receives := fun hrx' => absurd hrx hrx' }
  | up =>
    cases lost with
    | true =>
      have hloss : loss = none := h.lossTimer_none rfl rfl
      exact { h with
        dark := fun hdark => by cases hdark
        attempt := h.attempt
        lossRuns := fun hloss' => absurd hloss hloss'
        loss := fun hcarries => by cases hcarries
        sends := h.sends
        receives := fun hrx' => absurd hrx hrx' }
    | false =>
      exact { h with
        dark := fun hdark => by cases hdark
        attempt := h.attempt
        lossRuns := fun _ => ⟨rfl, .inr rfl⟩
        loss := fun _ => by simp [LinkRecord.loseLock]
        sends := h.sends
        receives := fun hrx' => absurd hrx hrx' }
  | parked =>
    have hloss : loss = none := h.lossTimer_none rfl rfl
    exact { h with
      dark := fun hdark => by cases hdark
      attempt := h.attempt
      lossRuns := fun hloss' => absurd hloss hloss'
      loss := fun hcarries => by cases (LinkRecord.carries_iff.mp hcarries).1
      sends := h.sends
      receives := fun hrx' => absurd hrx hrx' }

theorem LinkLaw.enterUp (h : LinkLaw l) (htraining : l.state = .training) : LinkLaw l.enterUp where
  dark hdark := by cases hdark
  train _ := h.train (by simp [htraining])
  attempt hattempt := by
    obtain hattempt | hattempt := hattempt
    · exact absurd rfl hattempt
    · cases hattempt
  lossRuns hloss := absurd rfl hloss
  loss _ := by simp [LinkRecord.enterUp]
  outsideUp hup := absurd rfl hup
  sends hcarries := by cases hcarries
  receives hrx := absurd (h.rx_none (.inr htraining)) hrx
  control := h.control

/-- Lock has been lost for 1 ms in UP, and the reception is cut off (R124, R126). -/
theorem LinkLaw.lose (h : LinkLaw l) (hup : l.state = .up) :
    LinkLaw { l with lost := true, lockLossTimer := none, tx := none, rx := none } where
  dark hdark := h.dark hdark
  train := h.train
  attempt := h.attempt
  lossRuns hloss := absurd rfl hloss
  loss hcarries := by cases (LinkRecord.carries_iff.mp hcarries).2
  outsideUp hdown := absurd hup hdown
  sends _ := rfl
  receives hrx := absurd rfl hrx
  control := h.control

/-- A training has failed: no timer of the link runs (R123). -/
theorem LinkLaw.stopTimers (h : LinkLaw l) (hcarries : l.carries = false) :
    LinkLaw { l with attemptTimer := none, lockLossTimer := none } :=
  { h with
    attempt := fun hattempt => h.attempt (hattempt.imp (fun hne => absurd rfl hne) id)
    lossRuns := fun hloss => absurd rfl hloss
    loss := fun hc => absurd (hcarries.symm.trans hc) Bool.false_ne_true
    receives := h.receives }

theorem LinkLaw.send (h : LinkLaw l) (hcarries : l.carries = true) {rest : List ControlFrame} (hrest : rest <:+ l.control)
    (tx : LinkTx) : LinkLaw { l with control := rest, tx := some tx } :=
  { h with
    outsideUp := fun hup => absurd (LinkRecord.carries_iff.mp hcarries).1 hup
    sends := fun hnot => absurd (hnot.symm.trans hcarries) Bool.false_ne_true
    control := ControlLaw.suffix h.control hrest }

theorem countDown_eq_none_iff (unit : Nat) (s : State) (t : Timer) : countDown unit s t = none ↔ t = none := by
  unfold countDown
  split <;> simp

theorem LinkLaw.tick (h : LinkLaw l) (s : State) (unit unit' unit'' : Nat) : LinkLaw { l with
    attemptTimer := countDown unit s l.attemptTimer, lockLossTimer := countDown unit' s l.lockLossTimer
    remotePause := countDown unit'' s l.remotePause } :=
  { h with
    attempt := fun hattempt => h.attempt (hattempt.imp (fun hne => mt (countDown_eq_none_iff ..).mpr hne) id)
    lossRuns := fun hloss => by
      obtain ⟨hlock, hrun⟩ := h.lossRuns (mt (countDown_eq_none_iff ..).mpr hloss)
      refine ⟨hlock, hrun.imp_left fun hattempt => ?_⟩
      obtain ⟨hstate, hne⟩ := LinkRecord.inAttempt_iff.mp hattempt
      exact LinkRecord.inAttempt_iff.mpr ⟨hstate, mt (countDown_eq_none_iff ..).mp hne⟩
    loss := fun hcarries => (not_congr (countDown_eq_none_iff ..)).trans (h.loss hcarries)
    outsideUp := fun hup => by
      obtain ⟨hcontrol, hpause⟩ := h.outsideUp hup
      exact ⟨hcontrol, (countDown_eq_none_iff ..).mpr hpause⟩ }

/-! A monitor record. -/

/-- A property of a monitor record that every change keeps but a write of the settings and the end of an alarm. -/
structure MonitorStable (K : MonitorRecord → Prop) : Prop where
  up : ∀ m, K m → K { m with linkRunning := true }
  down : ∀ m, K m → K m.linkDown
  clear : ∀ m, K m → K m.clear
  beacon : ∀ m, m.linkRunning = true → K m → K m.beacon
  saturate : ∀ m, m.phase = .counting → m.mode = .poll → K m → K m.saturate
  freeze : ∀ m, m.phase = .counting → m.mode = .alarm → K m → K m.freeze

/-- The law of a monitor record, with the alarm still to come where the count has reached its limit (R144). -/
structure WeakMonitorLaw (m : MonitorRecord) : Prop where
  divisor : m.divisor ∈ [1, 2, 4, 8]
  limits : m.lowLimit ≤ 255 ∧ m.highLimit ≤ 255 ∧ 1 ≤ m.alarmLimit ∧ m.alarmLimit ≤ 255
  counting : m.phase = .counting → m.linkRunning = true
  idle : m.phase = .idle → m.runningCount = 0 ∧ m.tickRemainder = 0
  counts : m.runningCount ≤ 255 ∧ m.tickRemainder < m.divisor ∧ m.latchedCount ≤ 255 ∧ m.run ≤ 4
  saturated : m.latchedSaturated = true → m.latchedCount = 255

/-- In ALARM mode a running count is below the alarm limit until the alarm (R144). -/
def AlarmBelow (m : MonitorRecord) : Prop := m.phase = .counting → m.mode = .alarm → m.runningCount < m.alarmLimit

theorem MonitorLaw.weak {m : MonitorRecord} (h : MonitorLaw m) : WeakMonitorLaw m := { h with }

theorem WeakMonitorLaw.law {m : MonitorRecord} (h : WeakMonitorLaw m) (halarm : AlarmBelow m) : MonitorLaw m :=
  { h with alarm := halarm }

theorem divisor_pos {n : Nat} (h : n ∈ [1, 2, 4, 8]) : 0 < n := by
  simp only [List.mem_cons, List.not_mem_nil, or_false] at h
  omega

theorem weakMonitorLaw_stable : MonitorStable WeakMonitorLaw where
  up m h := { h with counting := fun _ => rfl }
  down m h := by
    have hpos := divisor_pos h.divisor
    obtain ⟨hc, ht, hl, hr⟩ := h.counts
    unfold MonitorRecord.linkDown
    split
    · exact { h with
        counting := fun hphase => by cases hphase
        idle := fun _ => ⟨rfl, rfl⟩
        counts := ⟨Nat.zero_le _, hpos, hl, Nat.zero_le _⟩ }
    · next hphase => exact { h with
        counting := fun hcounting => by rw [hphase] at hcounting; cases hcounting
        counts := ⟨hc, ht, hl, Nat.zero_le _⟩ }
    · next hphase => exact { h with counting := fun hcounting => by rw [hphase] at hcounting; cases hcounting }
  clear m h := { h with
    counting := fun hphase => by cases hphase
    idle := fun _ => ⟨rfl, rfl⟩
    counts := ⟨Nat.zero_le _, divisor_pos h.divisor, Nat.zero_le _, Nat.zero_le _⟩
    saturated := fun hsaturated => by cases hsaturated }
  beacon m hrunning h := by
    have hpos := divisor_pos h.divisor
    obtain ⟨hc, ht, hl, hr⟩ := h.counts
    unfold MonitorRecord.beacon
    split
    · exact { h with
        counting := fun _ => hrunning
        idle := fun hphase => by cases hphase
        counts := ⟨Nat.zero_le _, hpos, hl, hr⟩ }
    · next hphase => exact { h with
        idle := fun _ => ⟨rfl, rfl⟩
        counts := ⟨Nat.zero_le _, hpos, max_le (by omega) hc, by
          simp only [MonitorRecord.judgedRun]
          split <;> omega⟩
        saturated := fun hsaturated => by
          have hcount : m.runningCount = 255 := of_decide_eq_true hsaturated
          simp [hcount] }
    · exact h
  saturate m hphase _ h := by
    have hpos := divisor_pos h.divisor
    obtain ⟨hc, ht, hl, hr⟩ := h.counts
    unfold MonitorRecord.saturate MonitorRecord.atLimit
    split
    · exact { h with
        counts := ⟨hc, ht, le_rfl, Nat.zero_le _⟩
        saturated := fun _ => rfl }
    · exact { h with
        idle := fun hidle => by rw [hphase] at hidle; cases hidle
        counts := ⟨le_rfl, hpos, le_rfl, Nat.zero_le _⟩
        saturated := fun _ => rfl }
  freeze m hphase _ h := by
    have hpos := divisor_pos h.divisor
    obtain ⟨hc, ht, hl, hr⟩ := h.counts
    obtain ⟨hlow, hhigh, hone, halarm⟩ := h.limits
    unfold MonitorRecord.freeze MonitorRecord.atLimit
    split
    · exact { h with
        counting := fun hcounting => by cases hcounting
        idle := fun hidle => by cases hidle
        counts := ⟨hc, ht, halarm, Nat.zero_le _⟩
        saturated := of_decide_eq_true }
    · exact { h with
        counting := fun hcounting => by cases hcounting
        idle := fun hidle => by cases hidle
        counts := ⟨halarm, hpos, halarm, Nat.zero_le _⟩
        saturated := of_decide_eq_true }

theorem linkDown_phase (m : MonitorRecord) (h : m.linkDown.phase = .counting) : False := by
  unfold MonitorRecord.linkDown at h
  split at h
  · cases h
  · next hphase => rw [hphase] at h; cases h
  · next hphase => rw [hphase] at h; cases h

theorem linkDown_alarmLimit (m : MonitorRecord) : m.linkDown.alarmLimit = m.alarmLimit := by
  unfold MonitorRecord.linkDown
  split <;> rfl

theorem beacon_runningCount {m : MonitorRecord} (h : m.beacon.phase = .counting) : m.beacon.runningCount = 0 := by
  unfold MonitorRecord.beacon at h ⊢
  split
  · rfl
  · rfl
  · next hphase =>
    simp only [hphase] at h
    cases h

theorem beacon_alarmLimit (m : MonitorRecord) : m.beacon.alarmLimit = m.alarmLimit := by
  unfold MonitorRecord.beacon
  split <;> rfl

theorem atLimit_alarmLimit (m : MonitorRecord) (n : Nat) : (m.atLimit n).alarmLimit = m.alarmLimit := by
  unfold MonitorRecord.atLimit
  split <;> rfl

theorem atLimit_mode (m : MonitorRecord) (n : Nat) : (m.atLimit n).mode = m.mode := by
  unfold MonitorRecord.atLimit
  split <;> rfl

/-- An alarm limit that stands, and the alarm still to come where `A` says so, are kept too. -/
theorem alarmLaw_stable (A : Prop) (limit : Nat) : MonitorStable fun m =>
    WeakMonitorLaw m ∧ m.alarmLimit = limit ∧ (A → AlarmBelow m) where
  up m h := ⟨weakMonitorLaw_stable.up m h.1, h.2.1, h.2.2⟩
  down m h := ⟨weakMonitorLaw_stable.down m h.1, (linkDown_alarmLimit m).trans h.2.1,
    fun _ hcounting => (linkDown_phase m hcounting).elim⟩
  clear m h := ⟨weakMonitorLaw_stable.clear m h.1, h.2.1, fun _ hcounting => by cases hcounting⟩
  beacon m hrunning h := by
    obtain ⟨-, -, hone, -⟩ := h.1.limits
    refine ⟨weakMonitorLaw_stable.beacon m hrunning h.1, (beacon_alarmLimit m).trans h.2.1, fun _ hcounting _ => ?_⟩
    rw [beacon_runningCount hcounting, beacon_alarmLimit]
    exact hone
  saturate m hphase hmode h := by
    refine ⟨weakMonitorLaw_stable.saturate m hphase hmode h.1, (atLimit_alarmLimit m 255).trans h.2.1, fun _ _ halarm => ?_⟩
    have halarm : (m.atLimit 255).mode = .alarm := halarm
    rw [atLimit_mode, hmode] at halarm
    cases halarm
  freeze m hphase hmode h := ⟨weakMonitorLaw_stable.freeze m hphase hmode h.1, (atLimit_alarmLimit m _).trans h.2.1,
    fun _ hcounting => by cases hcounting⟩

theorem monitorLaw_stable : MonitorStable MonitorLaw := by
  have hiff (m : MonitorRecord) : MonitorLaw m ↔ WeakMonitorLaw m ∧ m.alarmLimit = m.alarmLimit ∧ (True → AlarmBelow m) :=
    ⟨fun h => ⟨h.weak, rfl, fun _ => h.alarm⟩, fun h => h.1.law (h.2.2 trivial)⟩
  exact {
    up := fun m h => (hiff _).mpr ((alarmLaw_stable True m.alarmLimit).up m ((hiff m).mp h))
    down := fun m h => by
      obtain ⟨hweak, -, halarm⟩ := (alarmLaw_stable True m.alarmLimit).down m ((hiff m).mp h)
      exact hweak.law (halarm trivial)
    clear := fun m h => (hiff _).mpr ((alarmLaw_stable True m.alarmLimit).clear m ((hiff m).mp h))
    beacon := fun m hr h => by
      obtain ⟨hweak, -, halarm⟩ := (alarmLaw_stable True m.alarmLimit).beacon m hr ((hiff m).mp h)
      exact hweak.law (halarm trivial)
    saturate := fun m hp hm h => by
      obtain ⟨hweak, -, halarm⟩ := (alarmLaw_stable True m.alarmLimit).saturate m hp hm ((hiff m).mp h)
      exact hweak.law (halarm trivial)
    freeze := fun m hp hm h => by
      obtain ⟨hweak, -, halarm⟩ := (alarmLaw_stable True m.alarmLimit).freeze m hp hm ((hiff m).mp h)
      exact hweak.law (halarm trivial) }

end Sys2Proof.Machine
end

section
/-! SUPPORT. The laws of one slot's link and monitor across the operations on that slot: its link keeps its law, its monitor
keeps a stable property `K` and knows whether the link carries frames, and a DRAINED slot's link is PARKED or DARK (R121, R140). -/

namespace Sys2Proof.Machine

/-- The link of slot `i` keeps its law, and its monitor keeps `K` and knows whether the link carries frames. -/
structure LinkFit (K : MonitorRecord → Prop) (i : SlotIx) (s : State) : Prop where
  link : LinkLaw (s.links.get i)
  monitor : K (s.monitors.get i)
  running : (s.monitors.get i).linkRunning = (s.links.get i).carries

/-- The link is PARKED or DARK (R121). -/
def AtRest (i : SlotIx) (s : State) : Prop := (s.links.get i).state = .parked ∨ (s.links.get i).state = .dark

/-- `LinkFit`, and a DRAINED slot's link at rest. -/
structure SlotFit (K : MonitorRecord → Prop) (i : SlotIx) (s : State) : Prop extends LinkFit K i s where
  drained : (s.slots.get i).state = .drained → AtRest i s

variable {K : MonitorRecord → Prop} {i : SlotIx} {s t : State}

theorem LinkFit.of_eq (h : LinkFit K i s) (hlink : t.links.get i = s.links.get i) (hmonitor : t.monitors.get i = s.monitors.get i) :
    LinkFit K i t where
  link := hlink ▸ h.link
  monitor := hmonitor ▸ h.monitor
  running := by rw [hlink, hmonitor, h.running]

theorem SlotFit.of_eq (h : SlotFit K i s) (hlink : t.links.get i = s.links.get i)
    (hmonitor : t.monitors.get i = s.monitors.get i) (hstate : (t.slots.get i).state = (s.slots.get i).state) : SlotFit K i t where
  toLinkFit := h.toLinkFit.of_eq hlink hmonitor
  drained hd := by
    rw [AtRest, hlink]
    exact h.drained (hstate ▸ hd)

/-- A change of the link record that keeps its law, whether it carries, and its rest. -/
theorem SlotFit.updLink {f : LinkRecord → LinkRecord} (h : SlotFit K i s) (hlaw : LinkLaw (f (s.links.get i)))
    (hcarries : (f (s.links.get i)).carries = (s.links.get i).carries) (hstate : (f (s.links.get i)).state = (s.links.get i).state) :
    SlotFit K i (s.updLink i f) where
  link := by rwa [State.updLink_links, Table.get_modify_self]
  monitor := h.monitor
  running := by
    rw [State.updLink_links, Table.get_modify_self, hcarries]
    exact h.running
  drained hd := by
    rw [AtRest, State.updLink_links, Table.get_modify_self, hstate]
    exact h.drained hd

theorem SlotFit.follows (h : SlotFit K i s) (hf : Follows s t) : SlotFit K i t where
  link := h.link.follows (hf.links i)
  monitor := by
    obtain ⟨_, _, _, _, _, _, _, rfl⟩ := hf.touches
    exact h.monitor
  running := by
    rw [(hf.links i).carries_eq, ← h.running]
    obtain ⟨_, _, _, _, _, _, _, rfl⟩ := hf.touches
    rfl
  drained hd := by
    rw [AtRest, (hf.links i).state_eq]
    refine h.drained ?_
    obtain hs | ⟨-, hs⟩ | ⟨-, hs⟩ := (hf.slots i).state
    · exact hs ▸ hd
    all_goals
      rw [hs] at hd
      cases hd

theorem TouchesMembers.monitors_eq : TouchesMembers s t → t.monitors = s.monitors := by
  rintro ⟨_, _, _, rfl⟩
  rfl

/-- What only raises flags keeps the link as it is. -/
theorem raiseFlag_links (i : SlotIx) (f : SlotFlag) (s : State) : (raiseFlag i f s).links = s.links := by
  obtain ⟨slots, agent, h, -⟩ := raiseFlag_frame i f s
  rw [h]

/-- A change of state keeps the link as it is: to any state but DRAINED it keeps the whole law. -/
theorem changeState_linkFit (new : SlotState) (h : LinkFit K i s) : LinkFit K i (changeState i new s) :=
  h.of_eq (by rw [changeState_links]) (by rw [(changeState_members i new s).monitors_eq])

theorem changeState_fit {new : SlotState} (hnew : new ≠ .drained) (h : SlotFit K i s) : SlotFit K i (changeState i new s) where
  toLinkFit := changeState_linkFit new h.toLinkFit
  drained hd := absurd ((changeState_state i new s).symm.trans hd) hnew

theorem raiseFlag_state (i j : SlotIx) (f : SlotFlag) (s : State) :
    ((raiseFlag i f s).slots.get j).state = (s.slots.get j).state := by
  obtain ⟨slots, agent, h, hslots⟩ := raiseFlag_frame i f s
  obtain ⟨a, ha⟩ := hslots j
  rw [h]
  show (slots.get j).state = _
  rw [ha]

theorem raiseFlag_fit (f : SlotFlag) (h : SlotFit K i s) : SlotFit K i (raiseFlag i f s) :=
  h.of_eq (by rw [raiseFlag_links]) (by rw [(raiseFlag_members i f s).monitors_eq]) (raiseFlag_state i i f s)

theorem SlotFit.updSlot {f : SlotRecord → SlotRecord} (hf : ∀ r, (f r).state = r.state) (h : SlotFit K i s) :
    SlotFit K i (s.updSlot i f) :=
  h.of_eq rfl rfl (by rw [State.updSlot_slots, Table.get_modify_self, hf])

/-- A control frame is asked for: a PROBE only where it is not waiting. -/
theorem askControl_fit {f : ControlFrame} (hprobe : ∀ n, f = .probe n → f ∉ (s.links.get i).control) (h : SlotFit K i s) :
    SlotFit K i (askControl i f s) := by
  unfold askControl
  split
  · next hcarries =>
    exact h.updLink (h.link.of_control hcarries (ControlLaw.join h.link.control hprobe)) rfl rfl
  · exact h

theorem sendPause_fit (h : SlotFit K i s) : SlotFit K i (sendPause i s) :=
  (askControl_fit (f := .pause s.agent.pauseTime) (fun _ hf => by cases hf) h).of_eq rfl rfl rfl

theorem sendResume_fit (h : SlotFit K i s) : SlotFit K i (sendResume i s) :=
  (askControl_fit (f := .pause 0) (fun _ hf => by cases hf) h).of_eq rfl rfl rfl

theorem clearLocalPause_fit (h : SlotFit K i s) : SlotFit K i (clearLocalPause i s) := h.of_eq rfl rfl rfl

theorem SlotFit.ite {c : Prop} [Decidable c] {t' : State} (h : c → SlotFit K i t) (h' : ¬ c → SlotFit K i t') :
    SlotFit K i (if c then t else t') := by
  split
  · exact h ‹_›
  · exact h' ‹_›

theorem pauseAtArrival_fit (h : SlotFit K i s) : SlotFit K i (pauseAtArrival i s) := by
  unfold pauseAtArrival
  split
  · exact .ite (fun _ => sendPause_fit h) fun _ => h
  all_goals exact h

theorem pauseAtTxEnd_fit (h : SlotFit K i s) : SlotFit K i (pauseAtTxEnd i s) := by
  unfold pauseAtTxEnd
  split
  · exact .ite (fun _ => sendPause_fit h) fun _ => h
  · exact .ite (fun _ => sendResume_fit h) fun _ => h
  · exact h

theorem pauseAtRefresh_fit (h : SlotFit K i s) : SlotFit K i (pauseAtRefresh i s) := by
  unfold pauseAtRefresh
  split
  · exact .ite (fun _ => sendResume_fit h) fun _ => sendPause_fit h
  all_goals exact h

theorem pauseAtFlush_fit (h : SlotFit K i s) : SlotFit K i (pauseAtFlush i s) := by
  unfold pauseAtFlush
  split
  · exact h
  · exact .ite (fun _ => sendResume_fit h) fun _ => clearLocalPause_fit h

theorem abortData_fit (h : SlotFit K i s) : SlotFit K i (abortData i s) :=
  .ite (fun _ => h.updLink h.link.without_tx rfl rfl) fun _ => h

theorem flushEgress_fit (h : SlotFit K i s) : SlotFit K i (flushEgress i s) :=
  ((abortData_fit h).follows (forEach_follows (flushOne_follows i) _ _)).follows (evaluateConfirmation_follows i _)

theorem flushUpstream_fit (h : SlotFit K i s) : SlotFit K i (flushUpstream i s) := by
  refine pauseAtFlush_fit ?_
  have habort : SlotFit K i (abortUpstream i s) := .ite (fun _ => h.of_eq rfl rfl rfl) fun _ => h
  exact habort.of_eq rfl rfl rfl

theorem flushQueues_fit (h : SlotFit K i s) : SlotFit K i (flushQueues i s) := flushUpstream_fit (flushEgress_fit h)

theorem depart_fit (old : SlotState) (h : SlotFit K i s) : SlotFit K i (depart i old s) := by
  have hlose : SlotFit K i (if old.eligible then loseEligibility i s else s) :=
    .ite (fun _ => h.follows (loseEligibility_follows i s)) fun _ => h
  exact flushQueues_fit (.ite (fun _ => hlose.follows (evacuate_follows i _)) fun _ => hlose)

/-! The link of the slot. -/

/-- A reception in progress is cut off, whatever it took. -/
theorem cutReception_links_eq (i : SlotIx) (s : State) :
    (cutReception i s).links = (s.updLink i fun l => { l with rx := none }).links := by
  unfold cutReception
  split
  · next hrx => exact (congrArg State.links (updLink_id (by rw [← hrx]))).symm
  · rfl

theorem cutReception_slots (i : SlotIx) (s : State) : (cutReception i s).slots = s.slots :=
  (cutReception_links i s).slots_eq

theorem cutReception_monitors (i : SlotIx) (s : State) : (cutReception i s).monitors = s.monitors := by
  unfold cutReception
  split <;> rfl

theorem linkDown_linkRunning (m : MonitorRecord) : m.linkDown.linkRunning = false := by
  unfold MonitorRecord.linkDown
  split <;> rfl

/-- The record of a link that has dropped what it carried: as it was, but for what waited, ran and was in progress. -/
theorem dropLink_link (h : LinkLaw (s.links.get i)) : ((dropLink i s).links.get i).Dropped
    ∧ ((dropLink i s).links.get i).state = (s.links.get i).state := by
  unfold dropLink
  split
  · next hup =>
    simp only [reportLeftUp, clearLocalPause, monitorLinkDown, State.updUpstream_links, State.updMonitor_links,
      State.updLink_links, Table.get_modify_self, cutReception_links_eq]
    exact ⟨⟨rfl, rfl, rfl, rfl⟩, rfl⟩
  · next hparked =>
    rw [cutReception_links_eq, State.updLink_links, Table.get_modify_self]
    obtain ⟨hcontrol, hpause⟩ := h.outsideUp (by simp [hparked])
    refine ⟨⟨hcontrol, hpause, h.sends (Bool.eq_false_iff.mpr fun hc => ?_), rfl⟩, rfl⟩
    rw [LinkRecord.carries_iff, hparked] at hc
    cases hc.1
  · next hdark => exact ⟨h.dropped (.inl hdark), rfl⟩
  · next htraining => exact ⟨h.dropped (.inr htraining), rfl⟩

theorem dropLink_monitor (hK : MonitorStable K) (h : LinkFit K i s) : K ((dropLink i s).monitors.get i)
    ∧ ((dropLink i s).monitors.get i).linkRunning = false := by
  have hdown (hnot : (s.links.get i).state ≠ .up) : (s.monitors.get i).linkRunning = false := by
    rw [h.running, Bool.eq_false_iff]
    exact fun hc => hnot (LinkRecord.carries_iff.mp hc).1
  unfold dropLink
  split
  · simp only [reportLeftUp, clearLocalPause, monitorLinkDown, State.updUpstream_monitors, State.updMonitor_monitors,
      State.updLink_monitors, Table.get_modify_self, cutReception_monitors]
    exact ⟨hK.down _ h.monitor, linkDown_linkRunning _⟩
  · next hparked =>
    rw [cutReception_monitors]
    exact ⟨h.monitor, hdown (by simp [hparked])⟩
  · next hdark => exact ⟨h.monitor, hdown (by simp [hdark])⟩
  · next htraining => exact ⟨h.monitor, hdown (by simp [htraining])⟩

/-- What a link does after it has dropped what it carried. -/
theorem dropLink_fit (hK : MonitorStable K) (h : LinkFit K i s) {f : LinkRecord → LinkRecord}
    (hlaw : ∀ l : LinkRecord, l.Dropped → LinkLaw (f l)) (hstate : ∀ l, (f l).state ≠ .up)
    (hdrained : (s.slots.get i).state = .drained → ∀ l, (f l).state = .dark) : SlotFit K i ((dropLink i s).updLink i f) where
  link := by
    rw [State.updLink_links, Table.get_modify_self]
    exact hlaw _ (dropLink_link h.link).1
  monitor := (dropLink_monitor hK h).1
  running := by
    rw [State.updLink_links, Table.get_modify_self]
    refine (dropLink_monitor hK h).2.trans (Bool.eq_false_iff.mpr fun hc => ?_).symm
    exact hstate _ (LinkRecord.carries_iff.mp hc).1
  drained hd := by
    rw [State.updLink_slots, (dropLink_links i s).slots_eq] at hd
    rw [AtRest, State.updLink_links, Table.get_modify_self]
    exact .inr (hdrained hd _)

theorem linkTrain_fit (hK : MonitorStable K) (hattempts : 1 ≤ s.agent.trainingAttempts ∧ s.agent.trainingAttempts ≤ 7)
    (hstate : (s.slots.get i).state ≠ .drained) (h : LinkFit K i s) : SlotFit K i (linkTrain i s) :=
  dropLink_fit hK h (fun _ hl => .startAttempt hl _ le_rfl hattempts.1 hattempts.2) (fun _ hup => by cases hup)
    fun hd => absurd hd hstate

theorem linkGoDark_fit (hK : MonitorStable K) (h : LinkFit K i s) : SlotFit K i (linkGoDark i s) := by
  unfold linkGoDark
  split
  · next hdark => exact ⟨h, fun _ => .inr hdark⟩
  all_goals
    exact dropLink_fit hK h (fun _ hl => .enterDark hl) (fun _ hup => by cases hup) fun _ _ => rfl

theorem linkPark_fit (hK : MonitorStable K) (h : LinkFit K i s) : SlotFit K i (linkPark i s) := by
  unfold linkPark
  split
  · next hdark => exact ⟨h, fun _ => .inr hdark⟩
  · next hparked => exact ⟨h, fun _ => .inl hparked⟩
  · exact linkGoDark_fit hK h
  · next hup =>
    have hlink : ((reportLeftUp i (s.updLink i fun l => l.leaveUp .parked)).links.get i)
        = (s.links.get i).leaveUp .parked := Table.get_modify_self ..
    have hmonitor : ((reportLeftUp i (s.updLink i fun l => l.leaveUp .parked)).monitors.get i)
        = (s.monitors.get i).linkDown := Table.get_modify_self ..
    refine ⟨⟨?_, ?_, ?_⟩, fun _ => .inl ?_⟩
    · rw [hlink]
      exact h.link.park hup
    · rw [hmonitor]
      exact hK.down _ h.monitor
    · rw [hlink, hmonitor, linkDown_linkRunning]
      rfl
    · rw [hlink]
      rfl

/-- A link at rest that is asked to resume is UP with an empty control list, or trains (R121, R125). -/
theorem linkResume_fit (hK : MonitorStable K) (hattempts : 1 ≤ s.agent.trainingAttempts ∧ s.agent.trainingAttempts ≤ 7)
    (hstate : (s.slots.get i).state ≠ .drained) (hrest : AtRest i s) (h : LinkFit K i s) :
    SlotFit K i (linkResume i s) ∧ ((linkResume i s).links.get i).control = [] := by
  have hup : (s.links.get i).state ≠ .up := by obtain hrest | hrest := hrest <;> simp [hrest]
  unfold linkResume
  split
  · refine ⟨linkTrain_fit hK hattempts hstate h, ?_⟩
    rw [linkTrain, State.updLink_links, Table.get_modify_self]
    exact (dropLink_link h.link).1.control
  · next htraining => obtain hrest | hrest := hrest <;> simp [hrest] at htraining
  · next hup' => exact absurd hup' hup
  · next hparked =>
    have hlink : ((monitorLinkUp i (s.updLink i fun l =>
        { l with state := .up, lost := false, lockLossTimer := if l.lock then none else some 1000 })).links.get i)
        = { s.links.get i with
            state := .up, lost := false, lockLossTimer := if (s.links.get i).lock then none else some 1000 } :=
      Table.get_modify_self ..
    have hmonitor : ((monitorLinkUp i (s.updLink i fun l =>
        { l with state := .up, lost := false, lockLossTimer := if l.lock then none else some 1000 })).monitors.get i)
        = { s.monitors.get i with linkRunning := true } := Table.get_modify_self ..
    refine ⟨⟨⟨?_, ?_, ?_⟩, fun hd => absurd hd hstate⟩, ?_⟩
    · rw [hlink]
      exact h.link.resume hparked
    · rw [hmonitor]
      exact hK.up _ h.monitor
    · rw [hlink, hmonitor]
      rfl
    · rw [hlink]
      exact (h.link.outsideUp hup).1

end Sys2Proof.Machine
end

section
/-! SUPPORT. The laws of one slot's link and monitor across the lifecycle of that slot (R8–R30, R121, R140). -/

namespace Sys2Proof.Machine

variable {K : MonitorRecord → Prop} {i : SlotIx} {s t : State}

/-- The number of training attempts is 1–7 (R122, R191). -/
abbrev AttemptsFit (s : State) : Prop := 1 ≤ s.agent.trainingAttempts ∧ s.agent.trainingAttempts ≤ 7

theorem EventAt.attempts (h : EventAt i s t) : t.agent.trainingAttempts = s.agent.trainingAttempts := by rw [h.others.agent]

theorem EventAt.attemptsFit (h : EventAt i s t) (hs : AttemptsFit s) : AttemptsFit t := by
  rw [AttemptsFit, h.attempts]
  exact hs

/-! A departure leaves the slot's record as it follows from the moves that end. -/

theorem flushUpstream_records (i : SlotIx) (s : State) : (flushUpstream i s).slots = s.slots := by
  have habort : (abortUpstream i s).slots = s.slots := by
    unfold abortUpstream
    split <;> rfl
  rw [flushUpstream, (pauseAtFlush_links i _).slots_eq]
  exact habort

theorem flushEgress_records (i j : SlotIx) (s : State) :
    RecordFollows (s.slots.get j) ((flushEgress i s).slots.get j) := by
  have habort : (abortData i s).slots = s.slots := by
    unfold abortData
    split <;> rfl
  have hflush := ((forEach_follows (flushOne_follows i) (s.egress.get i) (abortData i s)).trans
    (evaluateConfirmation_follows i _)).slots j
  rwa [habort] at hflush

theorem depart_records (i j : SlotIx) (old : SlotState) (s : State) :
    RecordFollows (s.slots.get j) ((depart i old s).slots.get j) := by
  have hlose : Follows s (if old.eligible then loseEligibility i s else s) :=
    .ite (fun _ => loseEligibility_follows i s) fun _ => .refl s
  have hflush (u : State) : RecordFollows (u.slots.get j) ((flushQueues i u).slots.get j) := by
    rw [flushQueues, flushUpstream_records]
    exact flushEgress_records i j u
  unfold depart
  dsimp only
  refine .trans ?_ (hflush _)
  exact (hlose.trans (.ite (fun _ => evacuate_follows i _) fun _ => .refl _)).slots j

theorem StateFollows.not_drained {old new : SlotState} (h : StateFollows old new) (hold : old ≠ .drained) : new ≠ .drained := by
  obtain rfl | ⟨-, rfl⟩ | ⟨-, rfl⟩ := h
  · exact hold
  all_goals simp

/-! The transitions. -/

theorem enterFaulted_fit (hK : MonitorStable K) (cause : FaultCause) (h : SlotFit K i s) :
    SlotFit K i (enterFaulted i cause s) := by
  refine depart_fit _ (linkGoDark_fit hK (raiseFlag_fit .fault ?_).toLinkFit)
  exact (changeState_fit (by simp) h).updSlot fun _ => rfl

/-- PROBEs that are not waiting are asked for, each once. -/
theorem forEach_askProbe_fit {ns : List (Fin 8)} (hns : ns.Nodup) (hnew : ∀ n ∈ ns, .probe n ∉ (s.links.get i).control)
    (h : SlotFit K i s) : SlotFit K i (forEach (fun n => askControl i (.probe n)) ns s) := by
  induction ns generalizing s with
  | nil => exact h
  | cons n ns ih =>
    obtain ⟨hn, hns⟩ := List.nodup_cons.mp hns
    refine ih hns (fun m hm => ?_) (askControl_fit (fun k hk => ?_) h)
    · rw [askControl_link_self]
      split
      · show _ ∉ (s.links.get i).control ++ [_]
        rw [List.mem_append, List.mem_singleton]
        rintro (hmem | heq)
        · exact hnew m (List.mem_cons_of_mem _ hm) hmem
        · cases heq
          exact hn hm
      · exact hnew m (List.mem_cons_of_mem _ hm)
    · cases hk
      exact hnew n List.mem_cons_self

theorem monitorClear_fit (hK : MonitorStable K) (h : SlotFit K i s) : SlotFit K i (monitorClear i s) where
  link := h.link
  monitor := by
    rw [monitorClear, State.updMonitor_monitors, Table.get_modify_self]
    exact hK.clear _ h.monitor
  running := by
    rw [monitorClear, State.updMonitor_monitors, Table.get_modify_self]
    exact h.running
  drained := h.drained

theorem checkClass_fit (hK : MonitorStable K) (hcontrol : (s.links.get i).control = []) (h : SlotFit K i s) :
    SlotFit K i (checkClass i s) := by
  have hclear : SlotFit K i (clearProgress i s) := h.updSlot fun _ => rfl
  refine .ite (fun _ => ?_) fun _ => enterFaulted_fit hK _ hclear
  refine forEach_askProbe_fit (List.nodup_finRange 8) (fun n _ => ?_) (monitorClear_fit hK (hclear.updSlot fun _ => rfl))
  show _ ∉ (s.links.get i).control
  rw [hcontrol]
  exact List.not_mem_nil

theorem enterProbingFromDrained_fit (hK : MonitorStable K) {flag : State → State}
    (hflag : ∀ s, SlotFit K i s → SlotFit K i (flag s)) (hlinks : ∀ s, (flag s).links = s.links)
    (hevent : ∀ s, EventAt i s (flag s)) (hstate : ∀ s, ((flag s).slots.get i).state = (s.slots.get i).state)
    (hattempts : AttemptsFit s) (hdrained : (s.slots.get i).state = .drained) (h : SlotFit K i s) :
    SlotFit K i (enterProbingFromDrained i flag s) := by
  have hfit := hflag _ (changeState_fit (new := .probing) (by simp) h)
  have hrest : AtRest i (flag (changeState i .probing s)) := by
    rw [AtRest, hlinks, changeState_links]
    exact h.drained hdrained
  have hprobing : ((flag (changeState i .probing s)).slots.get i).state ≠ .drained := by
    rw [hstate, changeState_state]
    simp
  obtain ⟨hresume, hcontrol⟩ := linkResume_fit hK
    (((changeState_eventAt i .probing s).trans (hevent _)).attemptsFit hattempts) hprobing hrest hfit.toLinkFit
  exact checkClass_fit hK hcontrol hresume

theorem requalify_fit (hK : MonitorStable K) (hattempts : AttemptsFit s) (hdrained : (s.slots.get i).state = .drained)
    (h : SlotFit K i s) : SlotFit K i (enterProbingFromDrained i id s) :=
  enterProbingFromDrained_fit hK (fun _ => id) (fun _ => rfl) (fun s => .refl i s) (fun _ => rfl) hattempts hdrained h

theorem admitToPool_fit (h : SlotFit K i s) : SlotFit K i (admitToPool i s) :=
  ((askControl_fit (f := .admitNotice) (fun _ hf => by cases hf) (changeState_fit (new := .admitting) (by simp) h)).follows
    (gainEligibility_follows i _)).follows (evaluateAdmission_follows i _)

theorem evaluateQualification_fit (h : SlotFit K i s) : SlotFit K i (evaluateQualification i s) :=
  .ite (fun _ => .ite (fun _ => admitToPool_fit h) fun _ => changeState_fit (by simp) h) fun _ => h

theorem echoArrives_fit (hK : MonitorStable K) (verdict : Option (Fin 8)) (h : SlotFit K i s) :
    SlotFit K i (echoArrives i verdict s) := by
  refine .ite (fun _ => ?_) fun _ => h.of_eq rfl rfl rfl
  split
  · exact enterFaulted_fit hK _ h
  · exact evaluateQualification_fit (h.updSlot fun _ => rfl)

theorem beacon_linkRunning (m : MonitorRecord) : m.beacon.linkRunning = m.linkRunning := by
  unfold MonitorRecord.beacon
  split <;> rfl

theorem beaconArrives_fit (hK : MonitorStable K) (hcarries : (s.links.get i).carries = true) (h : SlotFit K i s) :
    SlotFit K i (beaconArrives i s) := by
  have hcount : SlotFit K i ((bumpSlot i .beacons s).updMonitor i MonitorRecord.beacon) := by
    refine ⟨⟨h.link, ?_, ?_⟩, h.drained⟩
    · rw [State.updMonitor_monitors, Table.get_modify_self]
      exact hK.beacon _ (h.running.trans hcarries) h.monitor
    · rw [State.updMonitor_monitors, Table.get_modify_self, beacon_linkRunning]
      exact h.running
  refine .ite (fun _ => ?_) fun _ => hcount
  refine .ite (fun _ => ?_) fun _ => hcount
  exact evaluateQualification_fit (hcount.updSlot fun _ => rfl)

theorem enterRetiring_fit {flags release : State → State} (hflags : ∀ s, SlotFit K i s → SlotFit K i (flags s))
    (hrelease : ∀ s, Follows s (release s)) (h : SlotFit K i s) : SlotFit K i (enterRetiring i flags release s) := by
  have hentry := (hflags _ (changeState_fit (new := .retiring .moving) (by simp) h)).updSlot (f := fun r =>
    { r with deadlineTimer := if r.retireDeadline = 0 then none else some (1000 * r.retireDeadline) }) fun _ => rfl
  exact hentry.follows (((loseEligibility_follows i _).trans (hrelease _)).trans (evaluateConfirmation_follows i _))

theorem retireAutomatically_fit {flags : State → State} (hflags : ∀ s, SlotFit K i s → SlotFit K i (flags s))
    (h : SlotFit K i s) : SlotFit K i (retireAutomatically i flags s) := by
  unfold retireAutomatically
  refine enterRetiring_fit (release := id) (fun s hs => ?_) (fun s => .refl s) h
  exact .ite (fun _ => raiseFlag_fit .lastMember (hflags s hs)) fun _ => hflags s hs

theorem enterDrained_fit (hK : MonitorStable K) {flags : State → State} (hlinks : ∀ s, (flags s).links = s.links)
    (hmonitors : ∀ s, (flags s).monitors = s.monitors) (h : SlotFit K i s) : SlotFit K i (enterDrained i flags s) := by
  refine linkPark_fit hK ((changeState_linkFit .drained h.toLinkFit).of_eq ?_ ?_)
  · rw [hlinks]
  · rw [hmonitors]

theorem presenceLost_fit (hK : MonitorStable K) (h : SlotFit K i s) : SlotFit K i (presenceLost i s) := by
  refine .ite (fun _ => h) fun _ => depart_fit _ (linkGoDark_fit hK (SlotFit.toLinkFit ?_))
  have hempty : SlotFit K i (changeState i .empty s) := changeState_fit (by simp) h
  exact .ite (fun _ => raiseFlag_fit .surpriseRemoval hempty) fun _ => hempty

theorem seatIfReady_fit (hK : MonitorStable K) (hattempts : AttemptsFit s) (h : SlotFit K i s) :
    SlotFit K i (seatIfReady i s) := by
  refine .ite (fun _ => ?_) fun _ => h
  unfold seat
  have hseated : SlotFit K i (changeState i .seated s) := changeState_fit (by simp) h
  have hflag : SlotFit K i (if (s.ports.get i).handle.accepted then changeState i .seated s
      else raiseFlag i .handleOpened (changeState i .seated s)) :=
    .ite (fun _ => hseated) fun _ => raiseFlag_fit .handleOpened hseated
  refine linkTrain_fit hK ?_ ?_ hflag.toLinkFit
  · refine ((changeState_eventAt i .seated s).trans ?_).attemptsFit hattempts
    exact .ite (fun _ => .refl i _) fun _ => raiseFlag_eventAt i .handleOpened _
  · split
    · rw [changeState_state]
      simp
    · rw [raiseFlag_state, changeState_state]
      simp

theorem powerLost_fit (hK : MonitorStable K) (h : SlotFit K i s) : SlotFit K i (powerLost i s) :=
  .ite (fun _ => h) fun _ => enterFaulted_fit hK _ h

theorem handleOpened_fit (h : SlotFit K i s) : SlotFit K i (handleOpened i s) :=
  .ite (fun _ => h) fun _ => .ite (fun _ => retireAutomatically_fit (fun _ hs => raiseFlag_fit .handleOpened hs) h)
    fun _ => raiseFlag_fit .handleOpened h

theorem handleClosed_fit (hK : MonitorStable K) (hattempts : AttemptsFit s) (h : SlotFit K i s) :
    SlotFit K i (handleClosed i s) := by
  unfold handleClosed
  split
  · exact h
  · next hdrained =>
    exact enterProbingFromDrained_fit hK (fun _ hs => raiseFlag_fit .handleClosed hs) (fun s => raiseFlag_links i _ s)
      (fun s => raiseFlag_eventAt i _ s) (fun s => raiseFlag_state i i _ s) hattempts hdrained h
  all_goals exact raiseFlag_fit .handleClosed h

theorem deliver_fit (hK : MonitorStable K) (d : Delivery) (hattempts : AttemptsFit s) (h : SlotFit K i s) :
    SlotFit K i (deliver i d s) := by
  obtain ⟨presence, power, handle⟩ := d
  have hpresence : SlotFit K i (deliver i ⟨presence, none, none⟩ s) := by
    cases presence with
    | none => exact h
    | some present => cases present <;> [exact presenceLost_fit hK h; exact seatIfReady_fit hK hattempts h]
  have hpower (s : State) (hattempts : AttemptsFit s) (h : SlotFit K i s) : SlotFit K i (deliver i ⟨none, power, none⟩ s) := by
    cases power with
    | none => exact h
    | some good => cases good <;> [exact powerLost_fit hK h; exact seatIfReady_fit hK hattempts h]
  have hhandle (s : State) (hattempts : AttemptsFit s) (h : SlotFit K i s) : SlotFit K i (deliver i ⟨none, none, handle⟩ s) := by
    cases handle with
    | none => exact h
    | some closed => cases closed <;> [exact handleOpened_fit h; exact handleClosed_fit hK hattempts h]
  have hattempts' := (deliver_eventAt i s ⟨presence, none, none⟩).attemptsFit hattempts
  exact hhandle _ ((deliver_eventAt i _ ⟨none, power, none⟩).attemptsFit hattempts') (hpower _ hattempts' hpresence)

theorem lockLossReported_fit (hK : MonitorStable K) (h : SlotFit K i s) : SlotFit K i (lockLossReported i s) := by
  unfold lockLossReported
  split
  any_goals exact enterFaulted_fit hK _ h
  · exact enterDrained_fit hK (fun _ => rfl) (fun _ => rfl) h
  all_goals exact h

theorem alarmReported_fit (hK : MonitorStable K) (h : SlotFit K i s) : SlotFit K i (alarmReported i s) :=
  .ite (fun _ => enterFaulted_fit hK _ h) fun _ => .ite (fun _ => retireAutomatically_fit (fun _ => id) h) fun _ => h

theorem deadlinePasses_fit (h : SlotFit K i s) : SlotFit K i (deadlinePasses i s) := by
  have hstop : SlotFit K i (s.updSlot i fun r => { r with deadlineTimer := none }) := h.updSlot fun _ => rfl
  exact .ite (fun _ => flushEgress_fit (hstop.follows (evacuate_follows i _))) fun _ => raiseFlag_fit .deadlinePassed hstop

theorem reseat_fit (hK : MonitorStable K) (hattempts : AttemptsFit s) (h : SlotFit K i s) : SlotFit K i (reseat i s) := by
  refine linkTrain_fit hK ((changeState_eventAt i .seated s).attemptsFit hattempts) ?_
    (changeState_linkFit .seated h.toLinkFit)
  rw [changeState_state]
  simp

theorem fenceSlot_fit (hK : MonitorStable K) (h : SlotFit K i s) : SlotFit K i (fenceSlot i s) :=
  depart_fit _ (linkPark_fit hK (changeState_linkFit .fenced h.toLinkFit))

theorem departAndTrain_fit (hK : MonitorStable K) (old : SlotState) (hattempts : AttemptsFit s)
    (hstate : (s.slots.get i).state ≠ .drained) (h : SlotFit K i s) :
    SlotFit K i (linkTrain i (monitorClear i (depart i old s))) := by
  refine linkTrain_fit hK ?_ ?_ (monitorClear_fit hK (depart_fit _ h)).toLinkFit
  swap
  · rw [monitorClear, State.updMonitor_slots]
    exact (depart_records i i old s).state.not_drained hstate
  exact ((depart_eventAt i s old).trans (.updMonitor i _ _)).attemptsFit hattempts

theorem resetSlot_fit (hK : MonitorStable K) (hattempts : AttemptsFit s) (h : SlotFit K i s) : SlotFit K i (resetSlot i s) := by
  refine departAndTrain_fit hK _ ?_ ?_ ((changeState_fit (new := .seated) (by simp) h).updSlot fun _ => rfl)
  · exact (changeState_eventAt i .seated s).attemptsFit hattempts
  · rw [State.updSlot_slots, Table.get_modify_self]
    show ((changeState i .seated s).slots.get i).state ≠ _
    rw [changeState_state]
    simp

/-! Training attempts. -/

theorem trainingFailed_fit (hK : MonitorStable K) (h : SlotFit K i s) : SlotFit K i (trainingFailed i s) :=
  .ite (fun _ => enterFaulted_fit hK _ h) fun _ => h

theorem attemptFailed_fit (hK : MonitorStable K) (htraining : (s.links.get i).state = .training) (h : SlotFit K i s) :
    SlotFit K i (attemptFailed i s) := by
  have hcarries : (s.links.get i).carries = false := Bool.eq_false_iff.mpr fun hc => by
    rw [LinkRecord.carries_iff, htraining] at hc
    cases hc.1
  unfold attemptFailed
  split
  · exact h
  · next tr htr =>
    split
    · next hbelow =>
      obtain ⟨tr', htr', hone, hle, hlimit⟩ := h.link.train (by simp [htraining])
      obtain rfl : tr = tr' := Option.some.inj (htr.symm.trans htr')
      have hdropped := h.link.dropped (.inr htraining)
      refine h.updLink (.startAttempt hdropped _ (Nat.le_add_left 1 _) hbelow hlimit) ?_ htraining.symm
      rw [hcarries, Bool.eq_false_iff]
      exact fun hc => by cases (LinkRecord.carries_iff.mp hc).1
    · refine trainingFailed_fit hK ?_
      exact (h.updLink (f := fun l => { l with attemptTimer := none, lockLossTimer := none })
        (h.link.stopTimers hcarries) rfl rfl).of_eq rfl rfl rfl

theorem attemptSuccess_fit (hK : MonitorStable K) (htraining : (s.links.get i).state = .training) (h : SlotFit K i s) :
    SlotFit K i (linkUpReported i (monitorLinkUp i (bumpSlot i .linkUps (s.updLink i LinkRecord.enterUp)))) := by
  have hlink : ((monitorLinkUp i (bumpSlot i .linkUps (s.updLink i LinkRecord.enterUp))).links.get i)
      = (s.links.get i).enterUp := Table.get_modify_self ..
  have hmonitor : ((monitorLinkUp i (bumpSlot i .linkUps (s.updLink i LinkRecord.enterUp))).monitors.get i)
      = { s.monitors.get i with linkRunning := true } := Table.get_modify_self ..
  have hup : SlotFit K i (monitorLinkUp i (bumpSlot i .linkUps (s.updLink i LinkRecord.enterUp))) := by
    refine ⟨⟨?_, ?_, ?_⟩, fun hd => ?_⟩
    · rw [hlink]
      exact h.link.enterUp htraining
    · rw [hmonitor]
      exact hK.up _ h.monitor
    · rw [hlink, hmonitor]
      rfl
    · have hrest := h.drained hd
      rw [AtRest, htraining] at hrest
      obtain hrest | hrest := hrest <;> cases hrest
  refine .ite (fun _ => checkClass_fit hK ?_ (changeState_fit (by simp) hup)) fun _ => hup
  rw [changeState_links, hlink]
  exact (h.link.outsideUp (by simp [htraining])).1

theorem lockLossExpiry_fit (hK : MonitorStable K) (hup : (s.links.get i).state = .up) (h : SlotFit K i s) :
    SlotFit K i (lockLossReported i (reportLeftUp i (cutReception i (bumpSlot i .lockLosses
      (s.updLink i fun l => { l with lost := true, lockLossTimer := none, tx := none }))))) := by
  refine lockLossReported_fit hK ?_
  generalize hcut : cutReception i (bumpSlot i .lockLosses
    (s.updLink i fun l => { l with lost := true, lockLossTimer := none, tx := none })) = u
  have hlink : u.links.get i = { s.links.get i with lost := true, lockLossTimer := none, tx := none, rx := none } := by
    rw [← hcut, cutReception_links_eq, State.updLink_links, Table.get_modify_self]
    show { (s.updLink i _).links.get i with rx := none } = _
    rw [State.updLink_links, Table.get_modify_self]
  have hmonitor : (reportLeftUp i u).monitors.get i = (s.monitors.get i).linkDown := by
    show (u.updMonitor i MonitorRecord.linkDown).monitors.get i = _
    rw [State.updMonitor_monitors, Table.get_modify_self, ← hcut, cutReception_monitors]
    rfl
  refine ⟨⟨?_, ?_, ?_⟩, fun hd => ?_⟩
  · show LinkLaw (u.links.get i)
    rw [hlink]
    exact h.link.lose hup
  · rw [hmonitor]
    exact hK.down _ h.monitor
  · rw [hmonitor, linkDown_linkRunning]
    show _ = (u.links.get i).carries
    rw [hlink]
    simp [LinkRecord.carries]
  · have hslots : (reportLeftUp i u).slots = s.slots := by
      show u.slots = _
      rw [← hcut, cutReception_slots]
      rfl
    have hrest := h.drained (hslots ▸ hd)
    rw [AtRest, hup] at hrest
    obtain hrest | hrest := hrest <;> cases hrest

end Sys2Proof.Machine
end

section
/-! SUPPORT. The laws of all links and monitors across every event of the part (R120–R146). -/

namespace Sys2Proof.Machine

variable {K : SlotIx → MonitorRecord → Prop} {i : SlotIx} {s t u : State}

/-- The laws of the links and monitors, with a stable property `K` of each monitor for its law. -/
structure LinkInv (K : SlotIx → MonitorRecord → Prop) (s : State) : Prop where
  attempts : AttemptsFit s
  slots : ∀ i, SlotFit (K i) i s

/-- An event of slot `i` as the laws of the other slots' links and monitors see it. -/
structure LinkOthers (i : SlotIx) (s t : State) : Prop where
  attempts : t.agent.trainingAttempts = s.agent.trainingAttempts
  records : ∀ j, j ≠ i → RecordFollows (s.slots.get j) (t.slots.get j)
  links : ∀ j, j ≠ i → LinkFollows (s.links.get j) (t.links.get j)
  monitors : ∀ j, j ≠ i → t.monitors.get j = s.monitors.get j

theorem LinkOthers.trans (h : LinkOthers i s t) (h' : LinkOthers i t u) : LinkOthers i s u where
  attempts := h'.attempts.trans h.attempts
  records j hj := (h.records j hj).trans (h'.records j hj)
  links j hj := (h.links j hj).trans (h'.links j hj)
  monitors j hj := (h'.monitors j hj).trans (h.monitors j hj)

theorem EventAt.linkOthers (h : EventAt i s t) : LinkOthers i s t := ⟨h.attempts, h.records, h.links, h.others.monitors⟩

/-- What leaves the slots, the links, the monitors and the agent's settings leaves the laws. -/
theorem LinkOthers.of_still (hslots : t.slots = s.slots) (hlinks : t.links = s.links) (hmonitors : t.monitors = s.monitors)
    (hattempts : t.agent.trainingAttempts = s.agent.trainingAttempts) : LinkOthers i s t :=
  ⟨hattempts, fun _ _ => by rw [hslots]; exact .refl _, fun _ _ => by rw [hlinks]; exact .inl rfl, fun _ _ => by rw [hmonitors]⟩

theorem bumpSlotBy_linkOthers (i j : SlotIx) (c : SlotCounter) (n : Nat) (s : State) : LinkOthers i s (bumpSlotBy j c n s) :=
  .of_still rfl rfl rfl rfl

theorem SlotFit.of_others {K : MonitorRecord → Prop} {j : SlotIx} (h : SlotFit K j s) (ho : LinkOthers i s t) (hj : j ≠ i) :
    SlotFit K j t where
  link := h.link.follows (ho.links j hj)
  monitor := (ho.monitors j hj) ▸ h.monitor
  running := by rw [ho.monitors j hj, (ho.links j hj).carries_eq, h.running]
  drained hd := by
    rw [AtRest, (ho.links j hj).state_eq]
    refine h.drained ?_
    by_contra hs
    exact (ho.records j hj).state.not_drained hs hd

/-- An event of one slot that keeps that slot's laws keeps them all. -/
theorem LinkInv.of_others (h : LinkInv K s) (ho : LinkOthers i s t) (hfit : SlotFit (K i) i t) : LinkInv K t where
  attempts := by
    rw [AttemptsFit, ho.attempts]
    exact h.attempts
  slots j := by
    obtain rfl | hj := eq_or_ne j i
    · exact hfit
    · exact (h.slots j).of_others ho hj

theorem LinkInv.of_event (h : LinkInv K s) (he : EventAt i s t) (hfit : SlotFit (K i) i t) : LinkInv K t :=
  h.of_others he.linkOthers hfit

theorem LinkInv.follows (h : LinkInv K s) (hf : Follows s t) : LinkInv K t :=
  ⟨(hf.eventAt 0).attemptsFit h.attempts, fun i => (h.slots i).follows hf⟩

theorem LinkInv.of_still (h : LinkInv K s) (hslots : ∀ i, (t.slots.get i).state = (s.slots.get i).state)
    (hlinks : t.links = s.links) (hmonitors : t.monitors = s.monitors)
    (hattempts : t.agent.trainingAttempts = s.agent.trainingAttempts) : LinkInv K t where
  attempts := by
    rw [AttemptsFit, hattempts]
    exact h.attempts
  slots i := (h.slots i).of_eq (by rw [hlinks]) (by rw [hmonitors]) (hslots i)

theorem LinkInv.ite {c : Prop} [Decidable c] {t' : State} (h : c → LinkInv K t) (h' : ¬ c → LinkInv K t') :
    LinkInv K (if c then t else t') := by
  split
  · exact h ‹_›
  · exact h' ‹_›

/-- A change of one link record that keeps its law, whether it carries, and its state. -/
theorem LinkInv.updLink {f : LinkRecord → LinkRecord} (h : LinkInv K s) (hlaw : LinkLaw (f (s.links.get i)))
    (hcarries : (f (s.links.get i)).carries = (s.links.get i).carries) (hstate : (f (s.links.get i)).state = (s.links.get i).state) :
    LinkInv K (s.updLink i f) :=
  h.of_event (.updLink i f s) ((h.slots i).updLink hlaw hcarries hstate)

theorem bumpSlotBy_linkInv (h : LinkInv K s) (i : SlotIx) (c : SlotCounter) (n : Nat) : LinkInv K (bumpSlotBy i c n s) :=
  h.of_still (fun _ => rfl) rfl rfl rfl

theorem raiseFlag_linkInv (h : LinkInv K s) (i : SlotIx) (f : SlotFlag) : LinkInv K (raiseFlag i f s) :=
  h.of_event (raiseFlag_eventAt i f s) (raiseFlag_fit f (h.slots i))

theorem attemptFailed_linkOthers (i : SlotIx) (s : State) : LinkOthers i s (attemptFailed i s) := by
  unfold attemptFailed
  split
  · exact (EventAt.refl i s).linkOthers
  · split
    · exact (EventAt.updLink i _ s).linkOthers
    · refine .trans ?_ (trainingFailed_eventAt i _).linkOthers
      exact (EventAt.updLink i _ s).linkOthers.trans (bumpSlotBy_linkOthers i i _ 1 _)

theorem echoArrives_linkOthers (i : SlotIx) (verdict : Option (Fin 8)) (s : State) : LinkOthers i s (echoArrives i verdict s) := by
  unfold echoArrives
  split
  · split
    · exact (enterFaulted_eventAt i s _).linkOthers
    · refine .trans ?_ (evaluateQualification_eventAt i _).linkOthers
      refine EventAt.linkOthers ?_
      exact .updSlot (fun _ => by simp) fun _ _ hk => hk
  · exact bumpSlotBy_linkOthers i i _ 1 s

theorem LinkRecord.gainLock_state (l : LinkRecord) : l.gainLock.state = l.state ∧ l.gainLock.carries = l.carries := by
  obtain ⟨state, train, lock, lost, locked, attempt, loss, pause, control, rx, tx⟩ := l
  cases state <;> exact ⟨rfl, rfl⟩

theorem LinkRecord.loseLock_state (l : LinkRecord) : l.loseLock.state = l.state ∧ l.loseLock.carries = l.carries := by
  obtain ⟨state, train, lock, lost, locked, attempt, loss, pause, control, rx, tx⟩ := l
  cases state <;> exact ⟨rfl, rfl⟩

theorem lockLost_linkInv (h : LinkInv K s) : LinkInv K ((cutReception i s).updLink i LinkRecord.loseLock) := by
  have hcut : LinkInv K (cutReception i s) :=
    h.of_event (cutReception_eventAt i s) (((h.slots i).updLink (h.slots i).link.without_rx rfl rfl).of_eq
      (by rw [cutReception_links_eq]) (by rw [cutReception_monitors]; rfl) (by rw [cutReception_slots]; rfl))
  have hrx : ((cutReception i s).links.get i).rx = none := by
    rw [cutReception_links_eq, State.updLink_links, Table.get_modify_self]
  exact hcut.updLink ((hcut.slots i).link.loseLock hrx) (LinkRecord.loseLock_state _).2 (LinkRecord.loseLock_state _).1

theorem controlArrives_linkInv (hK : ∀ i, MonitorStable (K i)) (info : FrameInfo) (hreceived : (s.links.get i).receives = true)
    (h : LinkInv K s) : LinkInv K (controlArrives i info s) := by
  have hstray : LinkInv K (bumpSlot i .strayControl s) := bumpSlotBy_linkInv h i _ 1
  unfold controlArrives
  split
  · refine .ite (fun hup => ?_) fun _ => h
    have hcarries : (s.links.get i).carries = true := by
      obtain ⟨hc | hparked, -⟩ := LinkRecord.receives_iff.mp hreceived
      · exact hc
      · rw [hup] at hparked
        cases hparked
    refine h.of_others (i := i) ?_ (beaconArrives_fit (hK i) hcarries (h.slots i))
    have hcount : LinkOthers i s ((bumpSlot i .beacons s).updMonitor i MonitorRecord.beacon) :=
      (bumpSlotBy_linkOthers i i .beacons 1 s).trans (EventAt.updMonitor i _ _).linkOthers
    unfold beaconArrives
    dsimp only
    split
    · exact hcount.trans (qualificationReported_eventAt i _).linkOthers
    · exact hcount
  · exact h.of_others (echoArrives_linkOthers i _ s) (echoArrives_fit (hK i) _ (h.slots i))
  · refine .ite (fun _ => ?_) fun _ => hstray
    exact h.of_event (enterDrained_eventAt i s (flags := id) (.refl i))
      (enterDrained_fit (hK i) (fun _ => rfl) (fun _ => rfl) (h.slots i))
  · unfold pauseArrives
    split
    · refine .ite (fun hup => ?_) fun _ => h
      exact bumpSlotBy_linkInv (h.updLink ((h.slots i).link.with_remotePause hup _) rfl rfl) i _ 1
    · exact hstray
  · exact hstray

theorem slotRxEnd_linkInv (hK : ∀ i, MonitorStable (K i)) {how : FrameEnd} {bytes : FrameBytes} (hs : LinkInv K s)
    (h : exec (.slotRxEnd i how bytes) s = .next t) : LinkInv K t := by
  simp only [exec, execSlotRxEnd] at h
  split at h
  · cases h
    exact hs
  · next stored hrx =>
    cases h
    have hreceived := (hs.slots i).link.receives (by rw [hrx]; simp)
    have hfree : LinkInv K (s.updLink i fun l => { l with rx := none }) := hs.updLink (hs.slots i).link.without_rx rfl rfl
    have hreceives : ((s.updLink i fun l => { l with rx := none }).links.get i).receives = true := by
      rw [State.updLink_links, Table.get_modify_self]
      exact hreceived
    have hcount (c : SlotCounter) := bumpSlotBy_linkInv hfree i c 1
    refine .ite (fun _ => ?_) fun _ => hcount _
    unfold slotFrameEnds
    split
    · exact hcount _
    · split
      · exact hcount _
      · have hdata : LinkInv K (admitUpstream i bytes (s.updLink i fun l => { l with rx := none })) := by
          unfold admitUpstream
          split
          · exact hcount _
          · refine .ite (fun _ => ?_) fun _ => ?_
            · have hjoin := (hfree.of_event (.updUpstream i (fun u => { u with queue := u.queue ++ [bytes] }) _)
                ((hfree.slots i).of_eq rfl rfl rfl))
              have hadmit := bumpSlotBy_linkInv hjoin i .upstreamAdmitted 1
              exact hadmit.of_event (pauseAtArrival_eventAt i _) (pauseAtArrival_fit (hadmit.slots i))
            · have hdrop := raiseFlag_linkInv (hcount .quotaDrop) i .quotaExceeded
              exact hdrop.of_event (pauseAtArrival_eventAt i _) (pauseAtArrival_fit (hdrop.slots i))
        unfold sortFrame
        split
        · exact controlArrives_linkInv hK _ hreceives hfree
        · exact hcount _
        · exact hdata
        · exact hdata

end Sys2Proof.Machine
end

section
/-! SUPPORT. The laws of the links and monitors, kept by every command and by the clock (R120–R146). -/

namespace Sys2Proof.Machine

variable {K : SlotIx → MonitorRecord → Prop} {s t : State}

theorem engineCommit_linkInv (h : LinkInv K s) (e : EngineIx) (m : MoveRecord) : LinkInv K (engineCommit e m s) :=
  h.follows (engineCommit_follows e m s)

theorem classify_linkInv (h : LinkInv K s) (info : FrameInfo) (bytes : FrameBytes) : LinkInv K (classify info bytes s) := by
  have hbad : LinkInv K (bumpCore .badTarget s) := h.of_still (fun _ => rfl) rfl rfl rfl
  have hpool (p : PoolIx) (c : PoolCounter) {u : State} (hu : LinkInv K u) : LinkInv K (bumpPool p c 1 u) :=
    hu.of_still (fun _ => rfl) rfl rfl rfl
  have hoffer (i : SlotIx) (entry : EgressEntry) {u : State} (hu : LinkInv K u) : LinkInv K (offerEgress i entry u) :=
    hu.follows (offerEgress_follows i entry u)
  have hsteer (p : PoolIx) : LinkInv K (steer p info.flowKey bytes s) := by
    unfold steer
    dsimp only
    refine .ite (fun _ => ?_) fun _ => hpool p _ h
    split
    · exact hpool p _ h
    · exact hpool p _ h
    · split
      · refine .ite (fun _ => h.of_still (fun _ => rfl) rfl rfl rfl) fun _ => ?_
        exact hoffer _ _ (hpool _ _ (engineCommit_linkInv h _ _))
      · exact hoffer _ _ h
  unfold classify
  split
  · split
    · exact hsteer _
    · exact hbad
  · split
    · exact .ite (fun _ => hoffer _ _ h) fun _ => bumpSlotBy_linkInv h _ _ 1
    · exact hbad
  · refine .ite (fun _ => ?_) fun _ => hbad
    exact .ite (fun _ => h.of_still (fun _ => rfl) rfl rfl rfl) fun _ => h.of_still (fun _ => rfl) rfl rfl rfl
  · exact hbad

theorem coreRxEnd_linkInv {how : FrameEnd} {bytes : FrameBytes} (hs : LinkInv K s)
    (h : exec (.coreRxEnd how bytes) s = .next t) : LinkInv K t := by
  simp only [exec, execCoreRxEnd] at h
  split at h
  · cases h
    exact hs
  · cases h
    have hcore (f : CorePort → CorePort) {u : State} (hu : LinkInv K u) : LinkInv K (u.updCore f) :=
      hu.of_still (fun _ => rfl) rfl rfl rfl
    have hfree := hcore (fun k => { k with rx := none }) hs
    refine .ite (fun _ => ?_) fun _ => hcore _ hfree
    unfold coreFrameEnds
    split
    · exact hcore _ hfree
    · split
      · exact hcore _ hfree
      · exact classify_linkInv (hcore _ hfree) _ _

theorem joinReadResponse_linkInv (h : LinkInv K s) : LinkInv K (joinReadResponse s) := by
  unfold joinReadResponse
  split
  · exact .ite (fun _ => h.of_still (fun _ => rfl) rfl rfl rfl) fun _ => h
  all_goals exact h

theorem cycleEnds_linkInv (hK : ∀ i, MonitorStable (K i)) (h : LinkInv K s) (c : BusCycle) (good : Bool) (word : Byte) :
    LinkInv K (cycleEnds c good word s) := by
  have hscanner (f : ScannerRecord → ScannerRecord) {u : State} (hu : LinkInv K u) : LinkInv K (u.updScanner f) :=
    hu.of_still (fun _ => rfl) rfl rfl rfl
  have hport (i : SlotIx) (f : PortRecord → PortRecord) {u : State} (hu : LinkInv K u) : LinkInv K (u.updPort i f) :=
    hu.of_still (fun _ => rfl) rfl rfl rfl
  have hsample : LinkInv K (sample c.address good word s) := by
    refine .ite (fun _ => ?_) fun _ => ?_
    · have hread := hport c.address (PortRecord.goodRead s.scanner.debounce word) (bumpSlotBy_linkInv h c.address .scanGood 1)
      exact hread.of_event (deliver_eventAt _ _ _) (deliver_fit (hK _) _ hread.attempts (hread.slots _))
    · have hread := hport c.address (fun r => { r with noResponse := min 8 (r.noResponse + 1) })
        (bumpSlotBy_linkInv h c.address .scanFailed 1)
      exact .ite (fun _ => raiseFlag_linkInv hread _ _) fun _ => hread
  refine hscanner _ (.ite (fun _ => ?_) fun _ => hscanner _ hsample)
  exact joinReadResponse_linkInv (hscanner _ hsample)

theorem saturate_linkRunning (m : MonitorRecord) : m.saturate.linkRunning = m.linkRunning := by
  unfold MonitorRecord.saturate MonitorRecord.atLimit
  split <;> rfl

theorem freeze_linkRunning (m : MonitorRecord) : m.freeze.linkRunning = m.linkRunning := by
  unfold MonitorRecord.freeze MonitorRecord.atLimit
  split <;> rfl

theorem LinkInv.updMonitor (h : LinkInv K s) (i : SlotIx) {f : MonitorRecord → MonitorRecord} (hK : K i (f (s.monitors.get i)))
    (hrunning : (f (s.monitors.get i)).linkRunning = (s.monitors.get i).linkRunning) : LinkInv K (s.updMonitor i f) := by
  refine h.of_event (.updMonitor i f s) ⟨⟨(h.slots i).link, ?_, ?_⟩, (h.slots i).drained⟩
  · rwa [State.updMonitor_monitors, Table.get_modify_self]
  · rw [State.updMonitor_monitors, Table.get_modify_self, hrunning]
    exact (h.slots i).running

theorem grant_linkInv (h : LinkInv K s) (e : EngineIx) (p : PoolIx) (entry : PlanEntry) (rest : List PlanEntry) :
    LinkInv K (grant e p entry rest s) := by
  have hgrant : LinkInv K
      (({ s.updPool p fun r => { r with plan := rest, rampTimer := some r.rampInterval } with arbiter := p }).updBin p entry.bin
        fun b => { b with engine := some e }) := h.of_still (fun _ => rfl) rfl rfl rfl
  have hset {u : State} (m : Option MoveRecord) (hu : LinkInv K u) : LinkInv K (u.setEngine e m) :=
    hu.of_still (fun _ => rfl) rfl rfl rfl
  exact .ite (fun _ => hset _ hgrant) fun _ => .ite (fun _ => hset _ hgrant) fun _ => engineCommit_linkInv (hset _ hgrant) _ _

theorem recompute_linkInv (h : LinkInv K s) (p : PoolIx) : LinkInv K (recompute p s) := h.follows (recompute_follows p s)

/-- Every event keeps the laws of the links and monitors, with any stable property of the monitors. -/
theorem event_linkInv (hK : ∀ i, MonitorStable (K i)) {c : Instr} (hrequest : isRequest c = false) (hpower : c ≠ .powerOn)
    (hpin : c ≠ .pinReset) (hs : LinkInv K s) (h : exec c s = .next t) : LinkInv K t := by
  cases c
  case powerOn => exact absurd rfl hpower
  case pinReset => exact absurd rfl hpin
  case coreRxStart =>
    simp only [exec, execCoreRxStart] at h
    split at h <;> cases h
    · exact hs.of_still (fun _ => rfl) rfl rfl rfl
    · exact hs
  case coreRxEnd => exact coreRxEnd_linkInv hs h
  case slotRxStart i =>
    obtain rfl := eq_ran h
    exact .ite (fun hr => hs.updLink ((hs.slots i).link.with_rx hr.1 _) rfl rfl) fun _ => hs
  case slotRxEnd => exact slotRxEnd_linkInv hK hs h
  case lockGained i =>
    obtain rfl := eq_ran h
    exact hs.updLink (hs.slots i).link.gainLock (LinkRecord.gainLock_state _).2 (LinkRecord.gainLock_state _).1
  case lockLost i =>
    obtain rfl := eq_ran h
    exact .ite (fun _ => lockLost_linkInv hs) fun _ => hs
  case attemptSuccess i =>
    obtain rfl := eq_ran h
    refine .ite (fun hr => ?_) fun _ => hs
    obtain ⟨htraining, -⟩ := LinkRecord.inAttempt_iff.mp hr.1
    refine hs.of_others (i := i) ?_ (attemptSuccess_fit (hK i) htraining (hs.slots i))
    refine .trans ?_ (linkUpReported_eventAt i _).linkOthers
    refine .trans ?_ (EventAt.updMonitor i _ _).linkOthers
    exact (EventAt.updLink i _ s).linkOthers.trans (bumpSlotBy_linkOthers i i _ 1 _)
  case attemptTimerExpiry i =>
    obtain rfl := eq_ran h
    refine .ite (fun hr => ?_) fun _ => hs
    exact hs.of_others (attemptFailed_linkOthers i s)
      (attemptFailed_fit (hK i) (LinkRecord.inAttempt_iff.mp hr).1 (hs.slots i))
  case trainingLockLoss i =>
    obtain rfl := eq_ran h
    refine .ite (fun hr => ?_) fun _ => hs
    have hcount := bumpSlotBy_linkInv hs i .lockLosses 1
    exact hcount.of_others (attemptFailed_linkOthers i _)
      (attemptFailed_fit (hK i) (LinkRecord.inAttempt_iff.mp hr.1).1 (hcount.slots i))
  case lockLossExpiry i =>
    obtain rfl := eq_ran h
    refine .ite (fun hr => ?_) fun _ => hs
    refine hs.of_others (i := i) ?_ (lockLossExpiry_fit (hK i) (LinkRecord.carries_iff.mp hr.1).1 (hs.slots i))
    refine .trans ?_ (lockLossReported_eventAt i _).linkOthers
    refine .trans ?_ (reportLeftUp_eventAt i _).linkOthers
    refine .trans ?_ (cutReception_eventAt i _).linkOthers
    exact (EventAt.updLink i _ s).linkOthers.trans (bumpSlotBy_linkOthers i i _ 1 _)
  case remotePauseExpiry i =>
    obtain rfl := eq_ran h
    exact hs.updLink (hs.slots i).link.without_remotePause rfl rfl
  case slotTxStart i =>
    obtain rfl | ⟨hcarries, tx, rest, hrest, rfl⟩ := slotTxStart_cases h
    · exact hs
    · exact hs.updLink ((hs.slots i).link.send hcarries hrest tx) rfl rfl
  case controlTxEnd i =>
    obtain rfl := eq_ran h
    exact .ite (fun _ => bumpSlotBy_linkInv (hs.updLink (hs.slots i).link.without_tx rfl rfl) i _ 1) fun _ => hs
  case egressTxEnd i =>
    obtain rfl | ⟨entry, rest, -, rfl⟩ := egressTxEnd_cases h
    · exact hs
    · have hsent : LinkInv K (s.updLink i fun l => { l with tx := none }) :=
        hs.updLink (hs.slots i).link.without_tx rfl rfl
      have hpop : LinkInv K (popEgress i (s.updLink i fun l => { l with tx := none })) :=
        hsent.of_still (fun _ => rfl) rfl rfl rfl
      have hcount := bumpSlotBy_linkInv hpop i .delivered 1
      exact hcount.follows ((reportLeft_follows entry _).trans (evaluateConfirmation_follows i _))
  case coreArbiterChoice =>
    obtain rfl | ⟨tx, pointer, rfl⟩ := coreArbiterChoice_cases h
    · exact hs
    · exact hs.of_still (fun _ => rfl) rfl rfl rfl
  case upstreamTxEnd =>
    obtain rfl | ⟨i, rfl⟩ := upstreamTxEnd_cases h
    · exact hs
    · have hsent : LinkInv K (bumpSlot i .upstreamSent
          ((s.updCore fun k => { k with tx := .idle }).updUpstream i fun u => { u with queue := u.queue.tail })) :=
        hs.of_still (fun _ => rfl) rfl rfl rfl
      exact hsent.of_event (pauseAtTxEnd_eventAt i _) (pauseAtTxEnd_fit (hsent.slots i))
  case mgmtTxEnd =>
    obtain rfl | ⟨c, rfl⟩ := mgmtTxEnd_cases h
    · exact hs
    · exact hs.of_still (fun _ => rfl) rfl rfl rfl
  case refreshTimerExpiry i =>
    obtain rfl := eq_ran h
    exact hs.of_event (pauseAtRefresh_eventAt i s) (pauseAtRefresh_fit (hs.slots i))
  case probeWindowExpiry i =>
    obtain rfl := eq_ran h
    exact .ite (fun _ => hs.of_event (enterFaulted_eventAt i s _) (enterFaulted_fit (hK i) _ (hs.slots i))) fun _ => hs
  case qualifyTimerExpiry i =>
    obtain rfl := eq_ran h
    exact .ite (fun _ => hs.of_event (enterFaulted_eventAt i s _) (enterFaulted_fit (hK i) _ (hs.slots i))) fun _ => hs
  case deadlineExpiry i =>
    obtain rfl := eq_ran h
    exact .ite (fun _ => hs.of_event (deadlinePasses_eventAt i s) (deadlinePasses_fit (hs.slots i))) fun _ => hs
  case acknowledgmentExpiry i =>
    obtain rfl := eq_ran h
    refine .ite (fun _ => ?_) fun _ => hs
    exact hs.of_event (enterDrained_eventAt i s fun s => raiseFlag_eventAt i .ackMissing s)
      (enterDrained_fit (hK i) (fun s => raiseFlag_links i _ s) (fun s => (raiseFlag_members i _ s).monitors_eq) (hs.slots i))
  case drainTimerExpiry e =>
    obtain rfl | ⟨m, -, rfl | rfl⟩ := moveTimer_cases (.inl h)
    · exact hs
    · exact engineCommit_linkInv hs e m
    · exact (engineCommit_linkInv hs e m).of_still (fun _ => rfl) rfl rfl rfl
  case settleTimerExpiry e =>
    obtain rfl | ⟨m, -, rfl | rfl⟩ := moveTimer_cases (.inr h)
    · exact hs
    · exact engineCommit_linkInv hs e m
    · exact (engineCommit_linkInv hs e m).of_still (fun _ => rfl) rfl rfl rfl
  case rampTimerExpiry p =>
    obtain rfl := eq_ran h
    exact hs.of_still (fun _ => rfl) rfl rfl rfl
  case engineGrant =>
    obtain rfl | ⟨e, p, entry, rest, -, -, -, rfl⟩ := engineGrant_cases h
    · exact hs
    · exact grant_linkInv hs e p entry rest
  case adoptionTimerExpiry p =>
    obtain rfl := eq_ran h
    refine .ite (fun _ => recompute_linkInv ?_ p) fun _ => hs
    exact hs.of_still (fun _ => rfl) rfl rfl rfl
  case readCycleEnd ack word check =>
    obtain rfl | ⟨c, -, rfl⟩ := readCycleEnd_cases h
    · exact hs
    · exact cycleEnds_linkInv hK hs c _ word
  case scanReadResponse =>
    obtain rfl := eq_ran h
    exact joinReadResponse_linkInv hs
  case saturationLatch i =>
    obtain rfl := eq_ran h
    exact .ite (fun hr => hs.updMonitor i ((hK i).saturate _ hr.1 hr.2 (hs.slots i).monitor) (saturate_linkRunning _))
      fun _ => hs
  case beaconAlarm i =>
    obtain rfl := eq_ran h
    refine .ite (fun hr => ?_) fun _ => hs
    have hfreeze := hs.updMonitor i ((hK i).freeze _ hr.1 hr.2 (hs.slots i).monitor) (freeze_linkRunning _)
    have hflag := raiseFlag_linkInv hfreeze i .beaconAlarm
    exact hflag.of_event (alarmReported_eventAt i _) (alarmReported_fit (hK i) (hflag.slots i))
  case lampBaseStep =>
    obtain rfl := eq_ran h
    exact hs.of_still (fun _ => rfl) rfl rfl rfl
  all_goals cases hrequest

end Sys2Proof.Machine
end

section
/-! SUPPORT. The laws of the links and monitors across requests, resets and the clock, where a count that has come to its alarm
limit meets its alarm within the step (R120–R149; log entry 24). -/

namespace Sys2Proof.Machine

variable {K K' : SlotIx → MonitorRecord → Prop} {s t : State}

theorem linkLaws_iff : LinkLaws s ↔ LinkInv (fun _ => MonitorLaw) s :=
  ⟨fun h => ⟨h.attempts, fun i => ⟨⟨h.links i, h.monitors i, h.running i⟩, h.drained i⟩⟩,
    fun h => ⟨h.attempts, fun i => (h.slots i).link, fun i => (h.slots i).monitor, fun i => (h.slots i).running,
      fun i => (h.slots i).drained⟩⟩

theorem LinkInv.mono (h : LinkInv K s) (hm : ∀ i, K' i (s.monitors.get i)) : LinkInv K' s :=
  ⟨h.attempts, fun i => { h.slots i with monitor := hm i }⟩

/-! Requests. -/

theorem endAlarm_law {m : MonitorRecord} (h : MonitorLaw m) : MonitorLaw m.endAlarm ∧ m.endAlarm.linkRunning = m.linkRunning := by
  have hpos := divisor_pos h.divisor
  obtain ⟨hc, ht, hl, hr⟩ := h.counts
  obtain ⟨-, -, hone, -⟩ := h.limits
  unfold MonitorRecord.endAlarm
  split
  · refine ⟨?_, rfl⟩
    exact { h with
      counting := fun hphase => by
        cases hrunning : m.linkRunning with
        | true => rfl
        | false => simp [hrunning] at hphase
      idle := fun _ => ⟨rfl, rfl⟩
      counts := ⟨Nat.zero_le _, hpos, hl, hr⟩
      alarm := fun _ _ => hone }
  · exact ⟨h, rfl⟩

theorem monitorDivisorOf_mem {b : Byte} {n : Nat} (h : monitorDivisorOf b = some n) : n ∈ [1, 2, 4, 8] := by
  unfold monitorDivisorOf at h
  split at h
  · next hb =>
    cases h
    simpa using hb
  · cases h

theorem withSettings_clear_law {m : MonitorRecord} (h : MonitorLaw m) (mode : Option MonitorMode) {divisor : Option Byte}
    {divisor' : Option Nat} (hdivisor : known monitorDivisorOf divisor = some divisor') (low high alarm : Option Byte) :
    MonitorLaw (m.withSettings mode divisor' low high alarm).clear
      ∧ (m.withSettings mode divisor' low high alarm).clear.linkRunning = m.linkRunning := by
  have hdiv : carried m.divisor divisor' ∈ [1, 2, 4, 8] := by
    cases divisor with
    | none =>
      cases hdivisor
      exact h.divisor
    | some b =>
      obtain ⟨n, hn, rfl⟩ := Option.map_eq_some_iff.mp hdivisor
      exact monitorDivisorOf_mem hn
  have hcarried (old : Nat) (new : Option Byte) (hold : old ≤ 255) : carried old (new.map BitVec.toNat) ≤ 255 := by
    cases new with
    | none => exact hold
    | some b => exact Nat.lt_succ_iff.mp b.isLt
  obtain ⟨hlow, hhigh, hone, halarm⟩ := h.limits
  have hlimit : 1 ≤ carried m.alarmLimit (alarm.map fun b => max 1 b.toNat)
      ∧ carried m.alarmLimit (alarm.map fun b => max 1 b.toNat) ≤ 255 := by
    cases alarm with
    | none => exact ⟨hone, halarm⟩
    | some b => exact ⟨le_max_left _ _, max_le (by omega) (Nat.lt_succ_iff.mp b.isLt)⟩
  refine ⟨?_, rfl⟩
  exact {
    divisor := hdiv
    limits := ⟨hcarried _ low hlow, hcarried _ high hhigh, hlimit⟩
    counting := fun hphase => by cases hphase
    idle := fun _ => ⟨rfl, rfl⟩
    counts := ⟨Nat.zero_le _, divisor_pos hdiv, Nat.zero_le _, Nat.zero_le _⟩
    saturated := fun hsaturated => by cases hsaturated
    alarm := fun hphase => by cases hphase }

theorem forEach_linkInv {ι : Type} {f : ι → State → State} (h : ∀ i s, LinkInv K s → LinkInv K (f i s)) (is : List ι)
    (hs : LinkInv K s) : LinkInv K (forEach f is s) :=
  forEach_keeps (P := LinkInv K) h is s hs

theorem raiseDeviceFlag_linkInv (f : DeviceFlag) (h : LinkInv K s) : LinkInv K (raiseDeviceFlag f s) := by
  refine .ite (fun _ => h) fun _ => ?_
  refine LinkInv.follows ?_ (offerNotice_follows rfl _)
  exact h.of_still (fun _ => rfl) rfl rfl rfl

theorem LinkInv.updAgent {f : AgentRecord → AgentRecord} (h : LinkInv K s)
    (hf : ∀ a, (f a).trainingAttempts = a.trainingAttempts) : LinkInv K (s.updAgent f) :=
  h.of_still (fun _ => rfl) rfl rfl (hf _)

theorem restartPart_linkInv (h : LinkInv K s) : LinkInv K (restartPart s) := by
  refine raiseDeviceFlag_linkInv .restarted (LinkInv.updAgent ?_ fun _ => rfl)
  refine forEach_linkInv (fun i s hs => hs.of_event (flushUpstream_eventAt i s) (flushUpstream_fit (hs.slots i))) _ ?_
  refine forEach_linkInv (fun p s hs => recompute_linkInv hs p) _ ?_
  refine forEach_linkInv (fun i s hs => hs.of_event (flushEgress_eventAt i s) (flushEgress_fit (hs.slots i))) _ ?_
  exact h.follows (onMoves_follows abortDiscard_follows s)

theorem chooseIfIdle_linkInv (h : LinkInv K s) : LinkInv K (chooseIfIdle s) :=
  .ite (fun _ => h.of_still (fun _ => rfl) rfl rfl rfl) fun _ => h

theorem LinkInv.updSlot (h : LinkInv K s) (i : SlotIx) {f : SlotRecord → SlotRecord} (hf : ∀ r, (f r).state = r.state) :
    LinkInv K (s.updSlot i f) := by
  refine h.of_still (fun j => ?_) rfl rfl rfl
  rw [State.updSlot_slots, Table.get_modify]
  split
  · next hj => rw [hf, hj]
  · rfl

theorem RequestEffect.linkInv {c : Instr} {effect : State → State} (h : RequestEffect s c effect)
    (hs : LinkInv (fun _ => MonitorLaw) s) : LinkInv (fun _ => MonitorLaw) (effect s) := by
  have hK := monitorLaw_stable
  cases h
  case reports => exact hs
  case setPolicy => exact hs.updSlot _ fun _ => rfl
  case setWeight i _ =>
    have hwrite (w : Nat) := hs.updSlot i (f := fun r => { r with weight := w }) fun _ => rfl
    refine .ite (fun _ => LinkInv.follows ?_ (evaluateAdmission_follows i _)) fun _ => hwrite _
    unfold recomputeOf
    split
    · exact recompute_linkInv (hwrite _) _
    · exact hwrite _
  case admission i p _ _ _ =>
    have hwrite (w : Nat) := hs.updSlot i (f := fun r => { r with pool := some p, weight := w }) fun _ => rfl
    exact (hwrite _).of_event (admitToPool_eventAt i _) (admitToPool_fit ((hwrite _).slots i))
  case retire i _ _ =>
    exact hs.of_event (enterRetiring_eventAt i s (flags := id) (release := id) (.refl i) (.refl i))
      (enterRetiring_fit (fun _ => id) .refl (hs.slots i))
  case retireLast i _ _ =>
    exact hs.of_event (enterRetiring_eventAt i s (flags := id) (.refl i) fun s => (releaseBins_follows i s).eventAt i)
      (enterRetiring_fit (fun _ => id) (releaseBins_follows i) (hs.slots i))
  case fence i _ => exact hs.of_event (fenceSlot_eventAt i s) (fenceSlot_fit hK (hs.slots i))
  case unfence i _ => exact hs.of_event (reseat_eventAt i s) (reseat_fit hK hs.attempts (hs.slots i))
  case requalify i hdrained =>
    exact hs.of_event (enterProbingFromDrained_eventAt i s (flag := id) (.refl i))
      (requalify_fit hK hs.attempts hdrained (hs.slots i))
  case reseat i _ => exact hs.of_event (reseat_eventAt i s) (reseat_fit hK hs.attempts (hs.slots i))
  case slotReset i _ => exact hs.of_event (resetSlot_eventAt i s) (resetSlot_fit hK hs.attempts (hs.slots i))
  case clearAlarm i =>
    obtain ⟨hlaw, hrunning⟩ := endAlarm_law (hs.slots i).monitor
    exact hs.updMonitor i hlaw hrunning
  case setBeacon i _ _ hdivisor =>
    obtain ⟨hlaw, hrunning⟩ := withSettings_clear_law (hs.slots i).monitor _ hdivisor _ _ _
    exact hs.updMonitor i hlaw hrunning
  case poolSet => exact hs.of_still (fun _ => rfl) rfl rfl rfl
  case poolEnable p =>
    refine .ite (fun _ => hs) fun _ => recompute_linkInv ?_ p
    exact .ite (fun _ => hs.of_still (fun _ => rfl) rfl rfl rfl) fun _ => hs.of_still (fun _ => rfl) rfl rfl rfl
  case poolDisable => exact .ite (fun _ => hs.of_still (fun _ => rfl) rfl rfl rfl) fun _ => hs
  case setScan new =>
    have hset : LinkInv (fun _ => MonitorLaw) (s.updScanner fun _ => new) := hs.of_still (fun _ => rfl) rfl rfl rfl
    exact .ite (fun _ => chooseIfIdle_linkInv hset) fun _ => hset
  case scanRead i =>
    refine chooseIfIdle_linkInv ?_
    exact hs.of_still (fun _ => rfl) rfl rfl rfl
  case scanRestart => exact hs.of_still (fun _ => rfl) rfl rfl rfl
  case setLampPattern => exact hs.of_still (fun _ => rfl) rfl rfl rfl
  case setLampMap => exact hs.of_still (fun _ => rfl) rfl rfl rfl
  case lampOverride => exact hs.of_still (fun _ => rfl) rfl rfl rfl
  case clearDeviceFlags => exact hs.of_still (fun _ => rfl) rfl rfl rfl
  case clearSlotFlags => exact hs.updSlot _ fun _ => rfl
  case readCounters => exact hs.of_still (fun _ => rfl) rfl rfl rfl
  case clearCounters => exact hs.of_still (fun _ => rfl) rfl rfl rfl
  case setDevice pause ackTimeout qualifyLimit attempts _ notices =>
    refine ⟨?_, fun i => (hs.slots i).of_eq rfl rfl rfl⟩
    show 1 ≤ carried s.agent.trainingAttempts (attempts.map fun b => clampTo 1 7 b.toNat)
      ∧ carried s.agent.trainingAttempts (attempts.map fun b => clampTo 1 7 b.toNat) ≤ 7
    cases attempts with
    | none => exact hs.attempts
    | some b =>
      simp only [carried, Option.map_some, Option.getD_some, clampTo]
      omega
  case restart => exact restartPart_linkInv hs

theorem request_linkInv {c : Instr} (hc : isRequest c = true) (hs : LinkInv (fun _ => MonitorLaw) s) :
    LinkInv (fun _ => MonitorLaw) (ran c s) := by
  refine ran_request_relates (R := fun s t => LinkInv (fun _ => MonitorLaw) s → LinkInv (fun _ => MonitorLaw) t)
    (fun _ => id) (fun _ _ _ h h' => h' ∘ h) (fun a b hq ha => ?_) hc (fun v effect _ h => h.linkInv) hs
  obtain ⟨_, _, -, -, rfl⟩ := hq
  exact ha.of_still (fun _ => rfl) rfl rfl rfl

/-! The clock. -/

theorem tick_weakLaw {m : MonitorRecord} (h : WeakMonitorLaw m) : WeakMonitorLaw m.tick := by
  have hpos := divisor_pos h.divisor
  obtain ⟨hc, ht, hl, hr⟩ := h.counts
  unfold MonitorRecord.tick
  split
  · next hphase =>
    split
    · exact { h with
        idle := fun hidle => by rw [hphase] at hidle; cases hidle
        counts := ⟨hc, by assumption, hl, hr⟩ }
    · exact { h with
        idle := fun hidle => by rw [hphase] at hidle; cases hidle
        counts := ⟨min_le_left _ _, hpos, hl, hr⟩ }
  · exact h
  · exact h

/-- A tick of the clock: a monitor that has come to its alarm limit was below it (R142, R144). -/
theorem tick_monitor_stands (m : MonitorRecord) : m.tick.alarmLimit = m.alarmLimit ∧ m.tick.phase = m.phase
    ∧ m.tick.mode = m.mode ∧ m.tick.linkRunning = m.linkRunning := by
  unfold MonitorRecord.tick
  split
  · split <;> exact ⟨rfl, rfl, rfl, rfl⟩
  · exact ⟨rfl, rfl, rfl, rfl⟩
  · exact ⟨rfl, rfl, rfl, rfl⟩

theorem tick_monitor_cases (s : State) (i : SlotIx) :
    (tick s).monitors.get i = s.monitors.get i ∨ (tick s).monitors.get i = (s.monitors.get i).tick := by
  rw [tick_monitors]
  split
  · exact .inr rfl
  · exact .inl rfl

theorem tick_linkInv {K' : SlotIx → MonitorRecord → Prop} (h : LinkInv K s) (hm : ∀ i, K' i ((tick s).monitors.get i)) :
    LinkInv K' (tick s) where
  attempts := by
    rw [tick_rest]
    exact h.attempts
  slots i := by
    have hlink := tick_links s i
    refine ⟨⟨?_, hm i, ?_⟩, fun hd => ?_⟩
    · rw [hlink]
      exact (h.slots i).link.tick s 1000 1 1
    · have hrunning : ((tick s).monitors.get i).linkRunning = (s.monitors.get i).linkRunning := by
        obtain e | e := tick_monitor_cases s i <;> rw [e]
        exact (tick_monitor_stands _).2.2.2
      rw [hrunning, hlink]
      exact (h.slots i).running
    · rw [AtRest, hlink]
      rw [tick_slots] at hd
      exact (h.slots i).drained hd

/-- What an idle step that began at `before` keeps of the monitors until every alarm that is due has been met: the alarm is
still to come at most where `A` does not say otherwise (R144). -/
def AlarmLaw (before : State) (A : SlotIx → Prop) (i : SlotIx) (m : MonitorRecord) : Prop :=
  WeakMonitorLaw m ∧ m.alarmLimit = (before.monitors.get i).alarmLimit ∧ (A i → AlarmBelow m)

theorem takeDue_alarmLaw {before : State} {A : SlotIx → Prop}
    (hbelow : ∀ i, A i ∨ (before.monitors.get i).runningCount < (before.monitors.get i).alarmLimit) {ev : TimedEvent}
    (hev : ev ∈ timedEvents before) (hs : LinkInv (AlarmLaw before A) s) :
    LinkInv (AlarmLaw before fun i => A i ∨ ev.command = .beaconAlarm i ∧ ∀ u, ev.due u
      = countReaches before i (before.monitors.get i).alarmLimit u) (takeDue ev s) := by
  have hstable (A : SlotIx → Prop) (i : SlotIx) : MonitorStable (AlarmLaw before A i) := alarmLaw_stable (A i) _
  have htimed := isTimed_of_mem before hev
  have hrun : LinkInv (AlarmLaw before A) (takeDue ev s) := by
    refine .ite (fun _ => ?_) fun _ => hs
    refine event_linkInv (hstable A) (timed_not_request htimed).1 ?_ ?_ hs (exec_eq_next _ s)
    all_goals
      intro hc
      rw [hc] at htimed
      cases htimed
  by_cases hwhich : ∃ i, ev.command = .beaconAlarm i ∧ ∀ u, ev.due u
      = countReaches before i (before.monitors.get i).alarmLimit u
  swap
  · refine hrun.mono fun j => ?_
    obtain ⟨hweak, hlimit, halarm⟩ := (hrun.slots j).monitor
    exact ⟨hweak, hlimit, fun hA => halarm (hA.resolve_right fun hr => hwhich ⟨j, hr⟩)⟩
  obtain ⟨i, hcommand, hdue⟩ := hwhich
  have hwiden {u : State} (hu : LinkInv (AlarmLaw before A) u) (hi : AlarmBelow (u.monitors.get i)) :
      LinkInv (AlarmLaw before fun j => A j ∨ ev.command = .beaconAlarm j ∧ ∀ u, ev.due u
        = countReaches before j (before.monitors.get j).alarmLimit u) u := by
    refine hu.mono fun j => ?_
    obtain ⟨hweak, hlimit, halarm⟩ := (hu.slots j).monitor
    refine ⟨hweak, hlimit, fun hA => ?_⟩
    obtain hA | ⟨hj, -⟩ := hA
    · exact halarm hA
    · rw [hcommand] at hj
      cases hj
      exact hi
  unfold takeDue at hrun ⊢
  rw [hdue] at hrun ⊢
  split
  · rw [if_pos ‹_›] at hrun
    rw [hcommand] at hrun ⊢
    show LinkInv _ (if (s.monitors.get i).phase = .counting ∧ (s.monitors.get i).mode = .alarm then
      alarmReported i (raiseFlag i .beaconAlarm (s.updMonitor i MonitorRecord.freeze)) else s)
    split
    · next hcounting =>
      have hfreeze := hs.updMonitor i ((hstable A i).freeze _ hcounting.1 hcounting.2 (hs.slots i).monitor) (freeze_linkRunning _)
      have hfrozen : AlarmBelow ((s.updMonitor i MonitorRecord.freeze).monitors.get i) := by
        rw [State.updMonitor_monitors, Table.get_modify_self]
        exact fun hphase => by cases hphase
      have hflag := raiseFlag_linkInv (hwiden hfreeze hfrozen) i .beaconAlarm
      rw [hcommand] at hflag
      exact hflag.of_event (alarmReported_eventAt i _) (alarmReported_fit (hstable _ i) (hflag.slots i))
    · next hnot =>
      have hkept := hwiden hs fun hphase hmode => absurd ⟨hphase, hmode⟩ hnot
      rwa [hcommand] at hkept
  · next hnot =>
    refine hwiden hs ?_
    obtain ⟨-, hlimit, halarm⟩ := (hs.slots i).monitor
    obtain hA | hlt := hbelow i
    · exact halarm hA
    · intro _ _
      rw [hlimit]
      by_contra hge
      exact hnot (decide_eq_true ⟨hlt, Nat.not_lt.mp hge⟩)

theorem idle_linkLaws (hs : LinkLaws s) : LinkLaws (idle s) := by
  rw [linkLaws_iff] at hs
  let u := tick (chooseIfIdle s)
  let A : SlotIx → Prop := fun i => AlarmBelow (u.monitors.get i)
  have hchoose := chooseIfIdle_linkInv hs
  have hsame (i : SlotIx) : (chooseIfIdle s).monitors.get i = s.monitors.get i := by
    unfold chooseIfIdle
    split <;> rfl
  have hu : LinkInv (AlarmLaw s A) u := by
    refine tick_linkInv hchoose fun i => ?_
    have hlaw := (hchoose.slots i).monitor
    have hstep := tick_monitor_cases (chooseIfIdle s) i
    refine ⟨?_, ?_, id⟩
    · obtain e | e := hstep <;> rw [e]
      · exact hlaw.weak
      · exact tick_weakLaw hlaw.weak
    · obtain e | e := hstep <;> rw [e, ← hsame i]
      exact (tick_monitor_stands _).1
  have hbelow (i : SlotIx) : A i ∨ (s.monitors.get i).runningCount < (s.monitors.get i).alarmLimit := by
    by_cases hA : A i
    · exact .inl hA
    · refine .inr ?_
      have hlaw := (hs.slots i).monitor
      simp only [A, AlarmBelow, Classical.not_imp] at hA
      obtain ⟨hphase, hmode, -⟩ := hA
      obtain e | e := tick_monitor_cases (chooseIfIdle s) i <;> rw [e] at hphase hmode
      · rw [hsame] at hphase hmode
        exact hlaw.alarm hphase hmode
      · obtain ⟨-, hp, hm, -⟩ := tick_monitor_stands ((chooseIfIdle s).monitors.get i)
        rw [hp, hsame] at hphase
        rw [hm, hsame] at hmode
        exact hlaw.alarm hphase hmode
  have hall (evs : List TimedEvent) (hevs : ∀ ev ∈ evs, ev ∈ timedEvents s) (A : SlotIx → Prop)
      (hbelow : ∀ i, A i ∨ (s.monitors.get i).runningCount < (s.monitors.get i).alarmLimit) (v : State)
      (hv : LinkInv (AlarmLaw s A) v) :
      LinkInv (AlarmLaw s fun i => A i ∨ ∃ ev ∈ evs, ev.command = .beaconAlarm i ∧ ∀ u, ev.due u
        = countReaches s i (s.monitors.get i).alarmLimit u) (forEach takeDue evs v) := by
    induction evs generalizing A v with
    | nil =>
      refine hv.mono fun i => ?_
      obtain ⟨hweak, hlimit, halarm⟩ := (hv.slots i).monitor
      exact ⟨hweak, hlimit, fun hA => halarm (hA.resolve_right fun ⟨_, hmem, _⟩ => List.not_mem_nil hmem)⟩
    | cons ev evs ih =>
      have hhead := takeDue_alarmLaw hbelow (hevs ev List.mem_cons_self) hv
      have htail := ih (fun ev h => hevs ev (List.mem_cons_of_mem _ h)) _ (fun i => (hbelow i).imp_left .inl) _ hhead
      refine LinkInv.mono htail fun i => ?_
      obtain ⟨hweak, hlimit, halarm⟩ := (htail.slots i).monitor
      refine ⟨hweak, hlimit, fun hA => halarm ?_⟩
      obtain hA | ⟨ev', hmem, h⟩ := hA
      · exact .inl (.inl hA)
      · obtain rfl | hmem := List.mem_cons.mp hmem
        · exact .inl (.inr h)
        · exact .inr ⟨ev', hmem, h⟩
  have hend := hall (timedEvents s) (fun _ => id) A hbelow u hu
  refine linkLaws_iff.mpr (LinkInv.mono hend fun i => ?_)
  obtain ⟨hweak, -, halarm⟩ := (hend.slots i).monitor
  refine hweak.law (halarm (.inr ⟨⟨countReaches s i (s.monitors.get i).alarmLimit, .beaconAlarm i⟩, ?_, rfl, fun _ => rfl⟩))
  simp only [timedEvents, List.mem_append, List.mem_flatMap]
  exact .inl (.inl (.inl ⟨i, List.mem_finRange i, by simp [slotEvents]⟩))

/-! The resets. -/

theorem linkRecord_powerOn_law : LinkLaw LinkRecord.powerOn :=
  LinkLaw.quiet (by decide) (fun _ => ⟨rfl, rfl⟩) (fun h => absurd rfl h) (fun h => absurd h (by decide)) rfl rfl rfl rfl
    fun h => absurd rfl h

/-- The links after a reset, with any monitors whose links do not run. -/
theorem LinkInv.of_reset (hattempts : AttemptsFit s) (hlinks : s.links = Table.fill 12 LinkRecord.powerOn)
    (hslots : ∀ i, (s.slots.get i).state = .empty) (hm : ∀ i, K i (s.monitors.get i))
    (hrunning : ∀ i, (s.monitors.get i).linkRunning = false) : LinkInv K s where
  attempts := hattempts
  slots i := by
    refine ⟨⟨?_, hm i, ?_⟩, fun hd => ?_⟩
    · rw [hlinks, Table.get_fill]
      exact linkRecord_powerOn_law
    · rw [hlinks, Table.get_fill, hrunning]
      rfl
    · rw [hslots] at hd
      cases hd

theorem monitorRecord_powerOn_law : MonitorLaw MonitorRecord.powerOn where
  divisor := by decide
  limits := by decide
  counting h := by cases h
  idle _ := ⟨rfl, rfl⟩
  counts := by decide
  saturated h := by cases h
  alarm h := by cases h

theorem pinReset_law {m : MonitorRecord} (h : MonitorLaw m) : MonitorLaw m.pinReset where
  divisor := h.divisor
  limits := h.limits
  counting hphase := by cases hphase
  idle _ := ⟨rfl, rfl⟩
  counts := ⟨Nat.zero_le _, divisor_pos h.divisor, Nat.zero_le _, Nat.zero_le _⟩
  saturated hsaturated := by cases hsaturated
  alarm hphase := by cases hphase

theorem reset_linkInv : LinkInv (fun _ => MonitorLaw) State.reset := by
  refine .of_reset (by decide) rfl (fun i => ?_) (fun i => ?_) fun i => ?_
  all_goals rw [State.reset, Table.get_fill]
  · rfl
  · exact monitorRecord_powerOn_law
  · rfl

theorem pinResetState_linkInv (h : LinkInv (fun _ => MonitorLaw) s) : LinkInv (fun _ => MonitorLaw) (pinResetState s) := by
  refine .of_reset h.attempts rfl (fun i => ?_) (fun i => ?_) fun i => ?_
  all_goals rw [pinResetState, Table.get_tab]
  · rfl
  · exact pinReset_law (h.slots i).monitor
  · rfl

theorem exec_linkInv {c : Instr} (hs : LinkInv (fun _ => MonitorLaw) s) (h : exec c s = .next t) :
    LinkInv (fun _ => MonitorLaw) t := by
  by_cases hrequest : isRequest c = true
  · exact eq_ran h ▸ request_linkInv hrequest hs
  by_cases hpower : c = .powerOn
  · subst hpower
    obtain rfl := eq_ran h
    exact reset_linkInv.of_still (fun _ => rfl) rfl rfl rfl
  by_cases hpin : c = .pinReset
  · subst hpin
    obtain rfl := eq_ran h
    exact (pinResetState_linkInv hs).of_still (fun _ => rfl) rfl rfl rfl
  exact event_linkInv (fun _ => monitorLaw_stable) (Bool.eq_false_iff.mpr hrequest) hpower hpin hs h

/-- Settles O57: queues by what a reception may take and a response may join, links and monitors record by record. -/
theorem stepsStayWithinBounds : Obligations.StepsStayWithinBounds := by
  refine ⟨fun s t hs h => step_withinBounds hs h, fun s t hs h => ?_⟩
  refine step_keeps (P := LinkLaws) (fun s rest hs => ?_) (fun c u v hu h => ?_) (fun u hu => idle_linkLaws hu) hs h
  · exact linkLaws_iff.mpr ((linkLaws_iff.mp hs).of_still (fun _ => rfl) rfl rfl rfl)
  · exact linkLaws_iff.mpr (exec_linkInv (linkLaws_iff.mp hu) h)

end Sys2Proof.Machine
end

section
/-! SUPPORT. What the laws of the Bin Table speak of: the roles of the slots, the tables of the pools, the places of the bins
and the courses of the moves (R37, R39, R47, R61); and the laws taken apart into what holds within an event and what a
recomputation restores. -/

namespace Sys2Proof.Machine

variable {s t u : State} {gone : SlotIx → Prop} {p q : PoolIx} {i j : SlotIx}

/-- What a slot is to its pool: the pool, the weight, and whether it is eligible and holding. -/
def SlotRecord.role (r : SlotRecord) : Option PoolIx × Nat × Bool × Bool :=
  (r.pool, r.weight, r.state.eligible, r.state.holding)

/-- What the laws say of a pool, its bins apart. -/
def PoolRecord.tables (r : PoolRecord) : Bool × Nat × Table Nat 12 × List PlanEntry × Bool :=
  (r.enabled, r.width, r.targets, r.plan, r.adoptionTimer.isSome)

/-- A bin without its in-flight count. -/
def BinRecord.place (r : BinRecord) : Owner × Option EngineIx := (r.owner, r.engine)

/-- Which bin a move takes from where to where. -/
def MoveRecord.course (m : MoveRecord) : PoolIx × BinIx × SlotIx × SlotIx := (m.pool, m.bin, m.source, m.destination)

/-- Nothing that the laws of the Bin Table speak of has changed, but that a slot without bins may have entered phase
CONFIRMING. -/
structure BinsStand (s t : State) : Prop where
  roles : ∀ i, (t.slots.get i).role = (s.slots.get i).role
  confirmed : ∀ i, (t.slots.get i).state = .retiring .confirming →
    (s.slots.get i).state = .retiring .confirming ∨ slotHeld s i = 0
  tables : ∀ p, (t.pools.get p).tables = (s.pools.get p).tables
  places : ∀ p b, ((t.pools.get p).bins.get b).place = ((s.pools.get p).bins.get b).place
  courses : ∀ e, (t.engines.get e).map MoveRecord.course = (s.engines.get e).map MoveRecord.course

/-! What follows from each part alone. -/

theorem role_iff {r r' : SlotRecord} : r'.role = r.role ↔ r'.pool = r.pool ∧ r'.weight = r.weight
    ∧ r'.state.eligible = r.state.eligible ∧ r'.state.holding = r.state.holding := by
  simp [SlotRecord.role]

theorem tables_iff {r r' : PoolRecord} : r'.tables = r.tables ↔ r'.enabled = r.enabled ∧ r'.width = r.width
    ∧ r'.targets = r.targets ∧ r'.plan = r.plan ∧ r'.adoptionTimer.isSome = r.adoptionTimer.isSome := by
  simp [PoolRecord.tables]

theorem place_iff {r r' : BinRecord} : r'.place = r.place ↔ r'.owner = r.owner ∧ r'.engine = r.engine := by
  simp [BinRecord.place]

section
variable (h : ∀ i, (t.slots.get i).role = (s.slots.get i).role)
include h

theorem isMember_congr (p : PoolIx) (i : SlotIx) : isMember t p i = isMember s p i := by
  simp only [isMember, (role_iff.mp (h i)).1]

theorem isEligible_congr (p : PoolIx) (i : SlotIx) : isEligible t p i = isEligible s p i := by
  obtain ⟨-, -, he, -⟩ := role_iff.mp (h i)
  simp only [isEligible, isMember_congr h, he]

theorem isHolding_congr (p : PoolIx) (i : SlotIx) : isHolding t p i = isHolding s p i := by
  obtain ⟨-, -, -, hh⟩ := role_iff.mp (h i)
  simp only [isHolding, isMember_congr h, hh]

theorem eligibleMembers_congr (p : PoolIx) : eligibleMembers t p = eligibleMembers s p := by
  simp only [eligibleMembers, funext (isEligible_congr h p)]

theorem eligibleWeight_congr (p : PoolIx) : eligibleWeight t p = eligibleWeight s p := by
  funext i
  simp only [eligibleWeight, isEligible_congr h, (role_iff.mp (h i)).2.1]

end

section
variable (h : ∀ e, (t.engines.get e).map MoveRecord.course = (s.engines.get e).map MoveRecord.course)
include h

theorem course_exists {e : EngineIx} {m : MoveRecord} (hm : t.engines.get e = some m) :
    ∃ m', s.engines.get e = some m' ∧ m'.pool = m.pool ∧ m'.bin = m.bin ∧ m'.source = m.source
      ∧ m'.destination = m.destination := by
  have he := h e
  rw [hm, Option.map_some, eq_comm, Option.map_eq_some_iff] at he
  obtain ⟨m', hm', hcourse⟩ := he
  simp only [MoveRecord.course, Prod.mk.injEq] at hcourse
  exact ⟨m', hm', hcourse⟩

theorem engineServes_congr (p : PoolIx) (e : EngineIx) : engineServes t p e = engineServes s p e := by
  have he := h e
  unfold engineServes
  cases ht : t.engines.get e <;> cases hs : s.engines.get e <;> simp_all [MoveRecord.course]

theorem engineMovesTo_congr (p : PoolIx) (i : SlotIx) (e : EngineIx) : engineMovesTo t p i e = engineMovesTo s p i e := by
  have he := h e
  unfold engineMovesTo
  cases ht : t.engines.get e <;> cases hs : s.engines.get e <;> simp_all [MoveRecord.course]

theorem activeMoves_congr (p : PoolIx) : activeMoves t p = activeMoves s p := by
  simp only [activeMoves, funext (engineServes_congr h p)]

theorem movesTo_congr (p : PoolIx) (i : SlotIx) : movesTo t p i = movesTo s p i := by
  simp only [movesTo, funext (engineMovesTo_congr h p i)]

end

theorem filter_cells_length {α : Type} {n : Nat} (t : Table α n) (f : α → Bool) :
    (t.cells.filter f).length = ((List.finRange n).filter fun i => f (t.get i)).length := by
  rw [Table.cells_eq_map, List.filter_map, List.length_map]
  rfl

theorem binsHeld_eq (s : State) (p : PoolIx) (i : SlotIx) : binsHeld s p i = (ownedBins s p i).length :=
  filter_cells_length _ _

theorem holdings_eq (s : State) (p : PoolIx) (i : SlotIx) : holdings s p i = countsFor s p i := by
  simp only [holdings, countsFor, atRest, filter_cells_length]

theorem binsHeld_eq_zero_iff : binsHeld s p i = 0 ↔ ∀ b, ((s.pools.get p).bins.get b).owner ≠ .owned i := by
  simp [binsHeld_eq, ownedBins, binsWhere, List.length_eq_zero_iff, List.filter_eq_nil_iff]

theorem slotHeld_eq (h : isMember s p i = true) : slotHeld s i = binsHeld s p i := by
  have hp : (s.slots.get i).pool = some p := of_decide_eq_true h
  rw [slotHeld, hp]

theorem BinsStand.refl (s : State) : BinsStand s s :=
  ⟨fun _ => rfl, fun _ => .inl, fun _ => rfl, fun _ _ => rfl, fun _ => rfl⟩

theorem BinsStand.owner (h : BinsStand s t) (p : PoolIx) (b : BinIx) :
    ((t.pools.get p).bins.get b).owner = ((s.pools.get p).bins.get b).owner := (place_iff.mp (h.places p b)).1

theorem BinsStand.engine (h : BinsStand s t) (p : PoolIx) (b : BinIx) :
    ((t.pools.get p).bins.get b).engine = ((s.pools.get p).bins.get b).engine := (place_iff.mp (h.places p b)).2

theorem BinsStand.slotHeld (h : BinsStand s t) (i : SlotIx) : slotHeld t i = slotHeld s i := by
  simp only [Machine.slotHeld, (role_iff.mp (h.roles i)).1, binsHeld_eq, ownedBins, binsWhere, h.owner]

theorem BinsStand.trans (h : BinsStand s t) (h' : BinsStand t u) : BinsStand s u where
  roles i := (h'.roles i).trans (h.roles i)
  confirmed i hi := by
    obtain hi | hi := h'.confirmed i hi
    · exact h.confirmed i hi
    · exact .inr (h.slotHeld i ▸ hi)
  tables p := (h'.tables p).trans (h.tables p)
  places p b := (h'.places p b).trans (h.places p b)
  courses e := (h'.courses e).trans (h.courses e)

theorem BinsStand.ite {t t' : State} {c : Prop} [Decidable c] (h : c → BinsStand s t) (h' : ¬ c → BinsStand s t') :
    BinsStand s (if c then t else t') := by
  split
  · exact h ‹_›
  · exact h' ‹_›

/-! The laws, taken apart. -/

/-- The laws of bins and moves that hold within an event too, the slots of `gone` on the way out of their pool: they may still
own bins and be destinations. -/
structure BinCore (gone : SlotIx → Prop) (s : State) : Prop where
  move : ∀ e m, s.engines.get e = some m →
    ((s.pools.get m.pool).bins.get m.bin).engine = some e
      ∧ ((s.pools.get m.pool).bins.get m.bin).owner = .owned m.source
      ∧ isMember s m.pool m.destination = true
      ∧ ((s.slots.get m.destination).state.eligible = true ∨ gone m.destination)
      ∧ (s.pools.get m.pool).enabled = true
  bin : ∀ p b e, ((s.pools.get p).bins.get b).engine = some e →
    ∃ m, s.engines.get e = some m ∧ m.pool = p ∧ m.bin = b
  width : ∀ p, activeMoves s p ≤ (s.pools.get p).width
  holding : ∀ i, (s.slots.get i).state.holding = true →
    ∃ p, (s.slots.get i).pool = some p ∧ (s.pools.get p).enabled = true
  weight : ∀ i, 1 ≤ (s.slots.get i).weight
  confirming : ∀ i, (s.slots.get i).state = .retiring .confirming →
    ∀ p b, ((s.pools.get p).bins.get b).owner ≠ .owned i
  owned : ∀ p b i, ((s.pools.get p).bins.get b).owner = .owned i →
    (s.pools.get p).enabled = true ∧ isMember s p i = true ∧ ((s.slots.get i).state.holding = true ∨ gone i)
  stale : ∀ p b i, ((s.pools.get p).bins.get b).owner = .stale i → (s.pools.get p).enabled = true →
    windowOpen s p = true

/-- The targets of pool `p` are those of its eligible members. -/
def TargetsStand (s : State) (p : PoolIx) : Prop :=
  (s.pools.get p).enabled = true → ∀ i, (s.pools.get p).targets.get i = targetOf (eligibleWeight s p) i

/-- The plan of pool `p` can be carried out. -/
structure PlanFits (s : State) (p : PoolIx) : Prop where
  entry : ∀ entry, entry ∈ (s.pools.get p).plan →
    ((s.pools.get p).bins.get entry.bin).engine = none
      ∧ ((s.pools.get p).bins.get entry.bin).owner = .owned entry.source
      ∧ isEligible s p entry.destination = true
  once : ((s.pools.get p).plan.map PlanEntry.bin).Nodup

/-- No bin of pool `p` is UNOWNED, unless the pool is dark or in its window. -/
def NoneLeft (s : State) (p : PoolIx) : Prop :=
  ∀ b, ((s.pools.get p).bins.get b).owner = .unowned → (s.pools.get p).enabled = true →
    isDark s p = true ∨ windowOpen s p = true

/-- Pool `p` stands as a recomputation leaves it. -/
structure PoolCurrent (s : State) (p : PoolIx) : Prop where
  targets : TargetsStand s p
  plan : PlanFits s p
  none : NoneLeft s p

/-- No slot is on its way out. -/
abbrev nobody : SlotIx → Prop := fun _ => False

theorem isEligible_iff : isEligible s p i = true ↔ isMember s p i = true ∧ (s.slots.get i).state.eligible = true := by
  simp [isEligible]

theorem isHolding_iff : isHolding s p i = true ↔ isMember s p i = true ∧ (s.slots.get i).state.holding = true := by
  simp [isHolding]

theorem isMember_iff : isMember s p i = true ↔ (s.slots.get i).pool = some p := by simp [isMember]

theorem binLaws_iff : BinLaws s ↔ BinCore nobody s ∧ ∀ p, PoolCurrent s p := by
  constructor
  · intro h
    refine ⟨⟨fun e m hm => ?_, h.moves.bin, h.moves.width, h.holding, h.weight, h.confirming, fun p b i ho => ?_, h.stale⟩,
      fun p => ⟨fun he i => h.targets p i he, ⟨h.moves.plan p, h.moves.once p⟩, h.unowned p⟩⟩
    · obtain ⟨hengine, howner, heligible, henabled⟩ := h.moves.move e m hm
      obtain ⟨hmember, helig⟩ := isEligible_iff.mp heligible
      exact ⟨hengine, howner, hmember, .inl helig, henabled⟩
    · obtain ⟨henabled, hholding⟩ := h.owned p b i ho
      obtain ⟨hmember, hhold⟩ := isHolding_iff.mp hholding
      exact ⟨henabled, hmember, .inl hhold⟩
  · rintro ⟨hcore, hpools⟩
    refine ⟨⟨fun e m hm => ?_, hcore.bin, fun p => (hpools p).plan.entry, fun p => (hpools p).plan.once, hcore.width⟩,
      hcore.holding, hcore.weight, fun p i he => (hpools p).targets he i, hcore.confirming, fun p b i ho => ?_,
      fun p => (hpools p).none, hcore.stale⟩
    · obtain ⟨hengine, howner, hmember, helig | hgone, henabled⟩ := hcore.move e m hm
      · exact ⟨hengine, howner, isEligible_iff.mpr ⟨hmember, helig⟩, henabled⟩
      · exact hgone.elim
    · obtain ⟨henabled, hmember, hhold | hgone⟩ := hcore.owned p b i ho
      · exact ⟨henabled, isHolding_iff.mpr ⟨hmember, hhold⟩⟩
      · exact hgone.elim

theorem BinLaws.core (h : BinLaws s) : BinCore nobody s := (binLaws_iff.mp h).1

theorem BinLaws.current (h : BinLaws s) (p : PoolIx) : PoolCurrent s p := (binLaws_iff.mp h).2 p

/-! What stands with the bins. -/

theorem BinCore.noBins (h : BinCore gone s) (hi : slotHeld s i = 0) (p : PoolIx) (b : BinIx) :
    ((s.pools.get p).bins.get b).owner ≠ .owned i := by
  intro ho
  obtain ⟨-, hmember, -⟩ := h.owned p b i ho
  rw [slotHeld_eq hmember, binsHeld_eq_zero_iff] at hi
  exact hi b ho

theorem BinsStand.core (h : BinsStand s t) (hs : BinCore gone s) : BinCore gone t where
  move e m hm := by
    obtain ⟨m', hm', hpool, hbin, hsource, hdest⟩ := course_exists h.courses hm
    obtain ⟨-, -, helig, -⟩ := role_iff.mp (h.roles m.destination)
    obtain ⟨henabled, -⟩ := tables_iff.mp (h.tables m.pool)
    have hmove := hs.move e m' hm'
    rw [hpool, hbin, hsource, hdest] at hmove
    rwa [h.engine, h.owner, isMember_congr h.roles, helig, henabled]
  bin p b e he := by
    obtain ⟨m, hm, rfl, rfl⟩ := hs.bin p b e (h.engine p b ▸ he)
    have hcourse := h.courses e
    rw [hm, Option.map_some, Option.map_eq_some_iff] at hcourse
    obtain ⟨m', hm', hcourse⟩ := hcourse
    simp only [MoveRecord.course, Prod.mk.injEq] at hcourse
    obtain ⟨hpool, hbin, -⟩ := hcourse
    exact ⟨m', hm', hpool, hbin⟩
  width p := by
    obtain ⟨-, hwidth, -⟩ := tables_iff.mp (h.tables p)
    rw [activeMoves_congr h.courses, hwidth]
    exact hs.width p
  holding i hi := by
    obtain ⟨hpool, -, -, hhold⟩ := role_iff.mp (h.roles i)
    obtain ⟨p, hp, henabled⟩ := hs.holding i (hhold ▸ hi)
    exact ⟨p, hpool.trans hp, (tables_iff.mp (h.tables p)).1.trans henabled⟩
  weight i := by
    rw [(role_iff.mp (h.roles i)).2.1]
    exact hs.weight i
  confirming i hi p b := by
    rw [h.owner]
    obtain hi | hi := h.confirmed i hi
    · exact hs.confirming i hi p b
    · exact hs.noBins hi p b
  owned p b i ho := by
    obtain ⟨-, -, -, hhold⟩ := role_iff.mp (h.roles i)
    rw [(tables_iff.mp (h.tables p)).1, isMember_congr h.roles, hhold]
    exact hs.owned p b i (h.owner p b ▸ ho)
  stale p b i ho he := by
    obtain ⟨henabled, -, -, -, hwindow⟩ := tables_iff.mp (h.tables p)
    rw [windowOpen, hwindow]
    exact hs.stale p b i (h.owner p b ▸ ho) (henabled ▸ he)

/-- What a recomputation of pool `p` looks at, its moves apart, has not changed. -/
structure PoolStands (p : PoolIx) (s t : State) : Prop where
  eligible : ∀ i, isEligible t p i = isEligible s p i
  weight : ∀ i, isEligible t p i = true → (t.slots.get i).weight = (s.slots.get i).weight
  tables : (t.pools.get p).tables = (s.pools.get p).tables
  places : ∀ b, ((t.pools.get p).bins.get b).place = ((s.pools.get p).bins.get b).place

theorem PoolStands.eligibleWeight (h : PoolStands p s t) : eligibleWeight t p = eligibleWeight s p := by
  funext i
  unfold Machine.eligibleWeight
  by_cases hi : isEligible t p i = true
  · rw [if_pos hi, if_pos (h.eligible i ▸ hi), h.weight i hi]
  · rw [if_neg hi, if_neg (h.eligible i ▸ hi)]

theorem PoolStands.isDark (h : PoolStands p s t) : isDark t p = isDark s p := by
  simp only [Machine.isDark, eligibleMembers, funext h.eligible, (tables_iff.mp h.tables).1]

theorem PoolStands.current (h : PoolStands p s t) (hs : PoolCurrent s p) : PoolCurrent t p := by
  obtain ⟨henabled, -, htargets, hplan, hwindow⟩ := tables_iff.mp h.tables
  have howner b := (place_iff.mp (h.places b)).1
  have hengine b := (place_iff.mp (h.places b)).2
  refine ⟨fun he i => ?_, ⟨fun entry hmem => ?_, ?_⟩, fun b ho he => ?_⟩
  · rw [htargets, h.eligibleWeight]
    exact hs.targets (henabled ▸ he) i
  · rw [hengine, howner, h.eligible]
    exact hs.plan.entry entry (hplan ▸ hmem)
  · rw [hplan]
    exact hs.plan.once
  · rw [h.isDark, windowOpen, hwindow]
    exact hs.none b (howner b ▸ ho) (henabled ▸ he)

theorem BinsStand.pool (h : BinsStand s t) (p : PoolIx) : PoolStands p s t :=
  ⟨isEligible_congr h.roles p, fun i _ => (role_iff.mp (h.roles i)).2.1, h.tables p, h.places p⟩

/-- The laws stand where nothing that they speak of changes. -/
theorem BinsStand.laws (h : BinsStand s t) (hs : BinLaws s) : BinLaws t :=
  binLaws_iff.mpr ⟨h.core hs.core, fun p => (h.pool p).current (hs.current p)⟩

end Sys2Proof.Machine
end

section
/-! SUPPORT. The operations that leave the bins, moves and memberships alone: counters, flags, links, frames in the queues, and
the reports of holdings (R7, R14, R18, R40, R93). -/

namespace Sys2Proof.Machine

variable {s t : State} {i : SlotIx} {p : PoolIx}

theorem BinsStand.of_eq (hslots : t.slots = s.slots) (hpools : t.pools = s.pools) (hengines : t.engines = s.engines) :
    BinsStand s t :=
  ⟨fun _ => by rw [hslots], fun _ => by rw [hslots]; exact .inl, fun _ => by rw [hpools], fun _ _ => by rw [hpools],
    fun _ => by rw [hengines]⟩

theorem TouchesLinks.binsStand (h : TouchesLinks s t) : BinsStand s t := by
  obtain ⟨_, _, _, _, rfl⟩ := h
  exact .of_eq rfl rfl rfl

theorem TouchesMembers.binsStand (h : TouchesMembers s t) (hroles : ∀ i, (t.slots.get i).role = (s.slots.get i).role)
    (hconfirmed : ∀ i, (t.slots.get i).state = .retiring .confirming →
      (s.slots.get i).state = .retiring .confirming ∨ slotHeld s i = 0) : BinsStand s t := by
  obtain ⟨_, _, _, rfl⟩ := h
  exact ⟨hroles, hconfirmed, fun _ => rfl, fun _ _ => rfl, fun _ => rfl⟩

theorem BinsStand.updSlot (i : SlotIx) {f : SlotRecord → SlotRecord}
    (hrole : (f (s.slots.get i)).role = (s.slots.get i).role)
    (hconfirmed : (f (s.slots.get i)).state = .retiring .confirming →
      (s.slots.get i).state = .retiring .confirming ∨ Machine.slotHeld s i = 0) : BinsStand s (s.updSlot i f) := by
  refine (updSlot_members i f s).binsStand (fun j => ?_) fun j => ?_
  · rw [State.updSlot_slots, Table.get_modify]
    split
    · next hj => exact hj ▸ hrole
    · rfl
  · rw [State.updSlot_slots, Table.get_modify]
    split
    · next hj => exact hj ▸ hconfirmed
    · exact .inl

theorem BinsStand.updPool (p : PoolIx) {f : PoolRecord → PoolRecord} (htables : ∀ r, (f r).tables = r.tables)
    (hbins : ∀ r b, ((f r).bins.get b).place = (r.bins.get b).place) : BinsStand s (s.updPool p f) := by
  refine ⟨fun _ => rfl, fun _ => .inl, fun q => ?_, fun q b => ?_, fun _ => rfl⟩
  · rw [State.updPool_pools, Table.get_modify]
    split
    · next hq => rw [hq, htables]
    · rfl
  · rw [State.updPool_pools, Table.get_modify]
    split
    · next hq => rw [hq, hbins]
    · rfl

theorem BinsStand.updBin (p : PoolIx) (b : BinIx) {f : BinRecord → BinRecord} (hf : ∀ r, (f r).place = r.place) :
    BinsStand s (s.updBin p b f) :=
  .updPool p (fun _ => rfl) fun r c => by
    show ((r.bins.modify b f).get c).place = _
    rw [Table.get_modify]
    split
    · next hc => rw [hc, hf]
    · rfl

theorem BinsStand.setEngine (e : EngineIx) {m : Option MoveRecord}
    (h : m.map MoveRecord.course = (s.engines.get e).map MoveRecord.course) : BinsStand s (s.setEngine e m) := by
  refine ⟨fun _ => rfl, fun _ => .inl, fun _ => rfl, fun _ _ => rfl, fun e' => ?_⟩
  rw [State.setEngine_engines, Table.get_set]
  split
  · next he => exact he ▸ h
  · rfl

theorem bumpPool_stand (p : PoolIx) (c : PoolCounter) (n : Nat) (s : State) : BinsStand s (bumpPool p c n s) :=
  .updPool p (fun _ => rfl) fun _ _ => rfl

theorem bumpSlotBy_stand (i : SlotIx) (c : SlotCounter) (n : Nat) (s : State) : BinsStand s (bumpSlotBy i c n s) :=
  .of_eq rfl rfl rfl

theorem raiseFlag_stand (i : SlotIx) (f : SlotFlag) (s : State) : BinsStand s (raiseFlag i f s) := by
  obtain ⟨slots, agent, h, hslots⟩ := raiseFlag_frame i f s
  rw [h]
  refine TouchesMembers.binsStand ⟨slots, s.links, agent, rfl⟩ (fun j => ?_) fun j hj => ?_
  · obtain ⟨a, ha⟩ := hslots j
    show (slots.get j).role = _
    rw [ha]
    rfl
  · obtain ⟨a, ha⟩ := hslots j
    replace hj : (slots.get j).state = _ := hj
    rw [ha] at hj
    exact .inl hj

theorem askControl_stand (i : SlotIx) (f : ControlFrame) (s : State) : BinsStand s (askControl i f s) :=
  (askControl_links i f s).binsStand

theorem changeState_role_of_ne {j : SlotIx} (h : j ≠ i) (new : SlotState) (s : State) :
    ((changeState i new s).slots.get j).role = (s.slots.get j).role := by rw [changeState_get_of_ne h]

theorem changeState_role_self (i : SlotIx) (new : SlotState) (s : State) :
    ((changeState i new s).slots.get i).role
      = ((s.slots.get i).pool, (s.slots.get i).weight, new.eligible, new.holding) := by
  have hstate := changeState_state i new s
  rw [changeState_get_self] at hstate ⊢
  split
  · next h => rw [SlotRecord.role, h]
  · rfl

/-- A change between states of the same part in the pool (R4, R37). -/
theorem changeState_stand {new : SlotState} (heligible : new.eligible = (s.slots.get i).state.eligible)
    (hholding : new.holding = (s.slots.get i).state.holding)
    (hconfirmed : new = .retiring .confirming → (s.slots.get i).state = .retiring .confirming ∨ slotHeld s i = 0) :
    BinsStand s (changeState i new s) := by
  refine (changeState_members i new s).binsStand (fun j => ?_) fun j hj => ?_
  · obtain rfl | h := eq_or_ne j i
    · rw [changeState_role_self, heligible, hholding]
      rfl
    · exact changeState_role_of_ne h new s
  · obtain rfl | h := eq_or_ne j i
    · exact hconfirmed ((changeState_state j new s).symm.trans hj)
    · rw [changeState_get_of_ne h] at hj
      exact .inl hj

theorem enterConfirming_stand (h : (s.slots.get i).state = .retiring .moving) (hheld : slotHeld s i = 0) :
    BinsStand s (enterConfirming i s) := by
  have hstate : BinsStand s (changeState i (.retiring .confirming) s) :=
    changeState_stand (by rw [h]; exact rfl) (by rw [h]; exact rfl) fun _ => .inr hheld
  refine (hstate.trans (askControl_stand i .retireNotice _)).trans ?_
  exact .updSlot i rfl fun hstate => .inl hstate

theorem evaluateConfirmation_stand (i : SlotIx) (s : State) : BinsStand s (evaluateConfirmation i s) :=
  .ite (fun h => by
    obtain ⟨hstate, hholds⟩ := h
    simp only [confirmationHolds, Bool.and_eq_true, decide_eq_true_eq] at hholds
    exact enterConfirming_stand hstate hholds.1.1) fun _ => .refl s

theorem evaluateAdmission_stand (i : SlotIx) (s : State) : BinsStand s (evaluateAdmission i s) :=
  .ite (fun h => changeState_stand (by rw [h.1]; exact rfl) (by rw [h.1]; exact rfl) nofun) fun _ => .refl s

theorem reportHoldings_stand (i : SlotIx) (s : State) : BinsStand s (reportHoldings i s) :=
  (evaluateAdmission_stand i s).trans (evaluateConfirmation_stand i _)

theorem forEach_stand {ι : Type} {f : ι → State → State} (h : ∀ i s, BinsStand s (f i s)) (is : List ι) (s : State) :
    BinsStand s (forEach f is s) :=
  forEach_relates .refl (fun _ _ _ => .trans) h is s

theorem offerEgress_stand (i : SlotIx) (entry : EgressEntry) (s : State) : BinsStand s (offerEgress i entry s) := by
  obtain ⟨-, ⟨-, h⟩ | ⟨p, b, -, h⟩⟩ | ⟨-, h⟩ := offerEgress_cases i entry s <;> rw [h]
  · exact .of_eq rfl rfl rfl
  · exact .trans (.of_eq (t := s.setEgress i (s.egress.get i ++ [entry])) rfl rfl rfl) (.updBin p b fun _ => rfl)
  · exact bumpSlotBy_stand i _ 1 s

theorem releaseHold_stand (i : SlotIx) (p : PoolIx) (b : BinIx) (hold : List FrameBytes) (s : State) :
    BinsStand s (releaseHold i p b hold s) :=
  forEach_stand (fun _ s => offerEgress_stand i _ s) hold s

end Sys2Proof.Machine
end

section
/-! SUPPORT. The end of a move, by a commit or an abort, keeps the laws of bins and moves (R71, R74). -/

namespace Sys2Proof.Machine

variable {s t u : State} {gone : SlotIx → Prop} {p q : PoolIx} {i j : SlotIx} {e : EngineIx} {m : MoveRecord}

/-- A move has ended with its bin at slot `j`, its hold list apart. -/
def endMove (e : EngineIx) (m : MoveRecord) (j : SlotIx) (s : State) : State :=
  freeEngine e m (s.updBin m.pool m.bin fun r => { r with owner := .owned j })

theorem freeEngine_engines (e e' : EngineIx) (m : MoveRecord) (s : State) :
    (freeEngine e m s).engines.get e' = if e' = e then none else s.engines.get e' := by
  rw [freeEngine, State.setEngine_engines, Table.get_set]
  rfl

theorem freeEngine_bin (e : EngineIx) (m : MoveRecord) (s : State) (q : PoolIx) (c : BinIx) :
    ((freeEngine e m s).pools.get q).bins.get c
      = if q = m.pool ∧ c = m.bin then { (s.pools.get q).bins.get c with engine := none }
        else (s.pools.get q).bins.get c :=
  get_bin_updBin s m.pool q m.bin c _

theorem freeEngine_tables (e : EngineIx) (m : MoveRecord) (s : State) (q : PoolIx) :
    ((freeEngine e m s).pools.get q).tables = (s.pools.get q).tables := by
  rw [freeEngine, State.setEngine_pools, State.updBin, State.updPool_pools, Table.get_modify]
  split
  · next hq => rw [hq]; rfl
  · rfl

theorem freeEngine_slotHeld (e : EngineIx) (m : MoveRecord) (s : State) (i : SlotIx) :
    slotHeld (freeEngine e m s) i = slotHeld s i := by
  have howner (q : PoolIx) (c : BinIx) :
      (((freeEngine e m s).pools.get q).bins.get c).owner = ((s.pools.get q).bins.get c).owner := by
    rw [freeEngine_bin]
    split <;> rfl
  have hslots : (freeEngine e m s).slots = s.slots := rfl
  simp only [slotHeld, hslots, binsHeld_eq, ownedBins, binsWhere, howner]

theorem freeEngine_stand (e : EngineIx) (m : MoveRecord) (h : BinsStand s t) :
    BinsStand (freeEngine e m s) (freeEngine e m t) where
  roles := h.roles
  confirmed i hi := by
    rw [freeEngine_slotHeld]
    exact h.confirmed i hi
  tables q := by
    rw [freeEngine_tables, freeEngine_tables]
    exact h.tables q
  places q c := by
    rw [freeEngine_bin, freeEngine_bin]
    split
    · exact place_iff.mpr ⟨h.owner q c, rfl⟩
    · exact h.places q c
  courses e' := by
    rw [freeEngine_engines, freeEngine_engines]
    split
    · rfl
    · exact h.courses e'

/-- A commit ends its move at the destination (R71). -/
theorem commitMove_stand (e : EngineIx) (m : MoveRecord) (s : State) :
    BinsStand (endMove e m m.destination s) (commitMove e m s) :=
  (freeEngine_stand e m (releaseHold_stand _ _ _ _ _)).trans (bumpPool_stand _ _ _ _)

theorem updBin_owner_self {b : BinIx} (h : ((s.pools.get p).bins.get b).owner = .owned j) :
    (s.updBin p b fun r => { r with owner := .owned j }) = s := by
  have hbins : ((s.pools.get p).bins.modify b fun r => { r with owner := .owned j }) = (s.pools.get p).bins :=
    Table.modify_id _ b (by rw [← h])
  have hpools : (s.pools.modify p fun r => { r with bins := r.bins.modify b fun r => { r with owner := .owned j } })
      = s.pools := Table.modify_id _ p (by rw [hbins])
  show { s with pools := _ } = s
  rw [hpools]

/-- An abort ends its move at the source (R74, R78). -/
theorem abortMove_stand (h : ((s.pools.get m.pool).bins.get m.bin).owner = .owned m.source) :
    BinsStand (endMove e m m.source s) (abortMove e m s) := by
  rw [endMove, updBin_owner_self h]
  exact (freeEngine_stand e m (releaseHold_stand _ _ _ _ _)).trans (bumpPool_stand _ _ _ _)

theorem abortDiscard_stand (h : ((s.pools.get m.pool).bins.get m.bin).owner = .owned m.source) :
    BinsStand (endMove e m m.source s) (abortDiscard e m s) := by
  rw [endMove, updBin_owner_self h]
  exact (freeEngine_stand e m (bumpSlotBy_stand _ _ _ _)).trans (bumpPool_stand _ _ _ _)

theorem endMove_engines (e e' : EngineIx) (m : MoveRecord) (j : SlotIx) (s : State) :
    (endMove e m j s).engines.get e' = if e' = e then none else s.engines.get e' :=
  freeEngine_engines e e' m _

theorem endMove_place (e : EngineIx) (m : MoveRecord) (j : SlotIx) (s : State) (q : PoolIx) (c : BinIx) :
    (((endMove e m j s).pools.get q).bins.get c).place
      = if q = m.pool ∧ c = m.bin then (.owned j, none) else ((s.pools.get q).bins.get c).place := by
  rw [endMove, freeEngine_bin, get_bin_updBin]
  split <;> rfl

theorem endMove_tables (e : EngineIx) (m : MoveRecord) (j : SlotIx) (s : State) (q : PoolIx) :
    ((endMove e m j s).pools.get q).tables = (s.pools.get q).tables := by
  rw [endMove, freeEngine_tables, State.updBin, State.updPool_pools, Table.get_modify]
  split
  · next hq => rw [hq]; rfl
  · rfl

theorem endMove_activeMoves_le (e : EngineIx) (m : MoveRecord) (j : SlotIx) (s : State) (p : PoolIx) :
    activeMoves (endMove e m j s) p ≤ activeMoves s p := by
  refine ((List.finRange 4).monotone_filter_right fun e' he' => ?_).length_le
  unfold engineServes at he' ⊢
  rw [endMove_engines] at he'
  split_ifs at he' with h
  exact he'

section
variable (hs : BinCore gone s) (he : s.engines.get e = some m)
include hs he

/-- A bin other than the one moved keeps its place. -/
theorem endMove_other {b : BinIx} (j : SlotIx) (h : ((s.pools.get q).bins.get b).engine ≠ some e) :
    (((endMove e m j s).pools.get q).bins.get b).place = ((s.pools.get q).bins.get b).place := by
  rw [endMove_place, if_neg]
  rintro ⟨rfl, rfl⟩
  exact h (hs.move e m he).1

theorem endMove_core (hj : j = m.source ∨ j = m.destination ∧ (s.slots.get m.destination).state.eligible = true) :
    BinCore gone (endMove e m j s) := by
  have htables (q : PoolIx) := tables_iff.mp (endMove_tables e m j s q)
  obtain ⟨hengine, howner, hmember, -, henabled⟩ := hs.move e m he
  have hplace := endMove_place e m j s
  refine ⟨fun e' m' hm' => ?_, fun q c e' hc => ?_, fun q => ?_, fun k hk => ?_, hs.weight, fun k hk q c hc => ?_,
    fun q c k hc => ?_, fun q c k hc hen => ?_⟩
  · rw [endMove_engines] at hm'
    split_ifs at hm' with hne
    have hmove := hs.move e' m' hm'
    obtain ⟨howner', hengine'⟩ := place_iff.mp (endMove_other hs he j fun h => hne (Option.some.inj (hmove.1.symm.trans h)))
    rw [hengine', howner', (htables m'.pool).1]
    exact hmove
  · rw [endMove_engines]
    have h := hplace q c
    split_ifs at h with hmoved
    · rw [(Prod.mk.inj h).2] at hc
      exact absurd hc (Option.some_ne_none e').symm
    · rw [(place_iff.mp h).2] at hc
      obtain ⟨m', hm', rfl, rfl⟩ := hs.bin q c e' hc
      rw [if_neg]
      · exact ⟨m', hm', rfl, rfl⟩
      · rintro rfl
        obtain rfl := Option.some.inj (hm'.symm.trans he)
        exact hmoved ⟨rfl, rfl⟩
  · rw [(htables q).2.1]
    exact (endMove_activeMoves_le e m j s q).trans (hs.width q)
  · obtain ⟨q, hq, hen⟩ := hs.holding k hk
    exact ⟨q, hq, (htables q).1.trans hen⟩
  · have h := hplace q c
    split_ifs at h with hmoved
    · obtain rfl := Owner.owned.inj ((Prod.mk.inj h).1.symm.trans hc)
      obtain rfl | ⟨rfl, helig⟩ := hj
      · exact hs.confirming _ hk _ _ howner
      · replace hk : (s.slots.get m.destination).state = _ := hk
        rw [hk] at helig
        exact Bool.false_ne_true helig
    · rw [(place_iff.mp h).1] at hc
      exact hs.confirming k hk q c hc
  · rw [(htables q).1]
    have h := hplace q c
    split_ifs at h with hmoved
    · obtain rfl := Owner.owned.inj ((Prod.mk.inj h).1.symm.trans hc)
      obtain ⟨rfl, -⟩ := hmoved
      obtain rfl | ⟨rfl, helig⟩ := hj
      · exact hs.owned _ _ _ howner
      · refine ⟨henabled, hmember, .inl ?_⟩
        show (s.slots.get m.destination).state.holding = true
        revert helig
        cases (s.slots.get m.destination).state <;> simp [SlotState.eligible, SlotState.holding]
    · rw [(place_iff.mp h).1] at hc
      exact hs.owned q c k hc
  · rw [(htables q).1] at hen
    rw [windowOpen, (htables q).2.2.2.2]
    have h := hplace q c
    split_ifs at h with hmoved
    · have howned := (Prod.mk.inj h).1.symm.trans hc
      cases howned
    · rw [(place_iff.mp h).1] at hc
      exact hs.stale q c k hc hen

theorem endMove_current (hq : PoolCurrent s q) : PoolCurrent (endMove e m j s) q := by
  obtain ⟨henabled, -, htargets, hplan, hwindow⟩ := tables_iff.mp (endMove_tables e m j s q)
  refine ⟨fun hen => htargets ▸ hq.targets (henabled ▸ hen), ⟨fun entry hmem => ?_, hplan ▸ hq.plan.once⟩, fun b ho hen => ?_⟩
  · obtain ⟨hfree, howner, helig⟩ := hq.plan.entry entry (hplan ▸ hmem)
    obtain ⟨howner', hengine'⟩ := place_iff.mp (endMove_other hs he j (by rw [hfree]; exact nofun))
    exact ⟨hengine'.trans hfree, howner'.trans howner, helig⟩
  · have hdark : isDark (endMove e m j s) q = isDark s q := by
      rw [isDark, isDark, henabled]
      rfl
    rw [hdark, windowOpen, hwindow]
    have h := endMove_place e m j s q b
    split_ifs at h with hmoved
    · have howned := (Prod.mk.inj h).1.symm.trans ho
      cases howned
    · rw [(place_iff.mp h).1] at ho
      exact hq.none b ho (henabled ▸ hen)

end

/-! The moves that a step selects. -/

/-- A step on the move of engine `e`, if it has one that `q` selects. -/
def moveStep (q : MoveRecord → Bool) (f : EngineIx → MoveRecord → State → State) (e : EngineIx) (s : State) : State :=
  ((s.engines.get e).filter q).elim s fun m => f e m s

theorem onMoves_eq (q : MoveRecord → Bool) (f : EngineIx → MoveRecord → State → State) (s : State) :
    onMoves q f s = forEach (moveStep q f) (List.finRange 4) s := by
  unfold onMoves
  congr 1
  funext e s
  unfold moveStep
  cases s.engines.get e with
  | none => rfl
  | some m =>
    simp only [Option.filter]
    split <;> rfl

variable {sel : MoveRecord → Bool} {f : EngineIx → MoveRecord → State → State}

/-- What every selected move's step keeps, the steps on all keep. -/
theorem onMoves_keeps {P : State → Prop} (h : ∀ e m s, P s → s.engines.get e = some m → sel m = true → P (f e m s))
    (hs : P s) : P (onMoves sel f s) := by
  rw [onMoves_eq]
  refine forEach_keeps (fun e t ht => ?_) _ s hs
  unfold moveStep
  cases hm : (t.engines.get e).filter sel with
  | none => exact ht
  | some m =>
    obtain ⟨hm, hsel⟩ := Option.filter_eq_some_iff.mp hm
    exact h e m t ht hm hsel

theorem moveStep_engines (hf : ∀ e m s e', (f e m s).engines.get e' = if e' = e then none else s.engines.get e')
    (e e' : EngineIx) (s : State) : (moveStep sel f e s).engines.get e'
      = if e' = e then (s.engines.get e').filter fun m => !sel m else s.engines.get e' := by
  unfold moveStep
  by_cases he : e' = e
  · subst he
    cases hm : s.engines.get e' with
    | none => simp [hm]
    | some m => cases hsel : sel m <;> simp [Option.filter, hsel, hm, hf]
  · cases hm : (s.engines.get e).filter sel <;> simp [he, hf]

/-- The selected moves are over, and the others go on. -/
theorem onMoves_engines (hf : ∀ e m s e', (f e m s).engines.get e' = if e' = e then none else s.engines.get e') (s : State)
    (e : EngineIx) : (onMoves sel f s).engines.get e = (s.engines.get e).filter fun m => !sel m := by
  have hsteps (es : List EngineIx) (s : State) : (forEach (moveStep sel f) es s).engines.get e
      = if e ∈ es then (s.engines.get e).filter (fun m => !sel m) else s.engines.get e := by
    induction es generalizing s with
    | nil => rfl
    | cons e' es ih =>
      show (forEach (moveStep sel f) es (moveStep sel f e' s)).engines.get e = _
      rw [ih, moveStep_engines hf]
      by_cases he : e = e'
      · cases s.engines.get e <;> simp [he, Option.filter]
        split <;> simp_all
      · simp [he]
  rw [onMoves_eq, hsteps, if_pos (List.mem_finRange e)]

theorem releaseHold_engines (i : SlotIx) (p : PoolIx) (b : BinIx) (hold : List FrameBytes) (s : State) :
    (releaseHold i p b hold s).engines = s.engines := (releaseHold_offers s i p b hold).engines

theorem commitMove_engines (e : EngineIx) (m : MoveRecord) (s : State) (e' : EngineIx) :
    (commitMove e m s).engines.get e' = if e' = e then none else s.engines.get e' := by
  show (freeEngine e m _).engines.get e' = _
  rw [freeEngine_engines, releaseHold_engines]
  rfl

theorem abortMove_engines (e : EngineIx) (m : MoveRecord) (s : State) (e' : EngineIx) :
    (abortMove e m s).engines.get e' = if e' = e then none else s.engines.get e' := by
  show (freeEngine e m _).engines.get e' = _
  rw [freeEngine_engines, releaseHold_engines]

theorem abortDiscard_engines (e : EngineIx) (m : MoveRecord) (s : State) (e' : EngineIx) :
    (abortDiscard e m s).engines.get e' = if e' = e then none else s.engines.get e' :=
  freeEngine_engines e e' m _

end Sys2Proof.Machine
end

section
/-! SUPPORT. A recomputation leaves no bin UNOWNED where a member is eligible: the targets of the eligible members come to 64
bins, and each bin counts for one slot at most (R42, R44, R45). -/

namespace Sys2Proof.Machine

variable {s t u : State} {gone : SlotIx → Prop} {p q : PoolIx} {i j : SlotIx}

/-- The slot that owns the bin, if one does. -/
def Owner.slot? : Owner → Option SlotIx
  | .owned i => some i
  | .unowned | .stale _ => none

theorem Owner.slot?_eq_some {o : Owner} : o.slot? = some i ↔ o = .owned i := by cases o <;> simp [Owner.slot?]

/-- The slot whose holdings a bin of pool `p` is counted in (R44): the destination of its move, or else its owner. -/
def countedFor (s : State) (p : PoolIx) (b : BinIx) : Option SlotIx :=
  (((s.pools.get p).bins.get b).engine).elim ((s.pools.get p).bins.get b).owner.slot? fun e =>
    (s.engines.get e).map MoveRecord.destination

theorem card_filter_finRange {n : Nat} (f : Fin n → Bool) :
    (Finset.univ.filter fun i => f i = true).card = ((List.finRange n).filter f).length := by
  rw [← List.toFinset_card_of_nodup ((List.nodup_finRange n).filter f)]
  congr 1
  ext i
  simp

theorem sum_filter_finRange {n : Nat} (f : Fin n → Bool) (g : Fin n → Nat) :
    (((List.finRange n).filter f).map g).sum = ∑ i with f i = true, g i := by
  rw [← List.sum_toFinset g ((List.nodup_finRange n).filter f)]
  congr 1
  ext i
  simp

theorem atRest_length (s : State) (p : PoolIx) (j : SlotIx) : (atRest s p j).length
    = (Finset.univ.filter fun b => countedFor s p b = some j ∧ ((s.pools.get p).bins.get b).engine = none).card := by
  rw [atRest, ← card_filter_finRange]
  congr 1
  ext b
  simp only [Finset.mem_filter, Finset.mem_univ, true_and]
  cases h : ((s.pools.get p).bins.get b).engine <;> simp [countedFor, h, Owner.slot?_eq_some]

theorem engineMovesTo_iff {e : EngineIx} : engineMovesTo s p j e = true
    ↔ ∃ m, s.engines.get e = some m ∧ m.pool = p ∧ m.destination = j := by
  unfold engineMovesTo
  cases s.engines.get e <;> simp

section
variable (hs : BinCore gone s)
include hs

theorem movesTo_le (p : PoolIx) (j : SlotIx) : movesTo s p j
    ≤ (Finset.univ.filter fun b => countedFor s p b = some j ∧ ¬ ((s.pools.get p).bins.get b).engine = none).card := by
  rw [movesTo, ← card_filter_finRange]
  refine Finset.card_le_card_of_injOn (fun e => (s.engines.get e).elim 0 MoveRecord.bin) (fun e he => ?_) ?_
  · obtain ⟨m, hm, rfl, rfl⟩ := engineMovesTo_iff.mp (Finset.mem_filter.mp he).2
    obtain ⟨hengine, -⟩ := hs.move e m hm
    simp only [hm, Option.elim_some]
    exact Finset.mem_filter.mpr ⟨Finset.mem_univ _, by simp [countedFor, hengine, hm], by simp [hengine]⟩
  · intro e he e' he' hbin
    obtain ⟨m, hm, hpool, -⟩ := engineMovesTo_iff.mp (Finset.mem_filter.mp he).2
    obtain ⟨m', hm', hpool', -⟩ := engineMovesTo_iff.mp (Finset.mem_filter.mp he').2
    replace hbin : m.bin = m'.bin := by simpa [hm, hm'] using hbin
    have hengine := (hs.move e m hm).1
    have hengine' := (hs.move e' m' hm').1
    rw [hpool, hbin, ← hpool', hengine'] at hengine
    exact (Option.some.inj hengine).symm

/-- A slot's holdings are no more than the bins counted for it. -/
theorem holdings_le (p : PoolIx) (j : SlotIx) :
    holdings s p j ≤ (Finset.univ.filter fun b => countedFor s p b = some j).card := by
  rw [holdings_eq, countsFor, atRest_length, ← Finset.card_filter_add_card_filter_not (s := Finset.univ.filter fun b =>
    countedFor s p b = some j) (fun b => ((s.pools.get p).bins.get b).engine = none), Finset.filter_filter,
    Finset.filter_filter]
  exact Nat.add_le_add_left (movesTo_le hs p j) _

/-- The holdings of the eligible members leave out every bin that is counted for none of them. -/
theorem sum_holdings_le {A : Finset BinIx}
    (hA : ∀ b ∈ A, ∀ j, countedFor s p b = some j → isEligible s p j = false) :
    (∑ j with isEligible s p j = true, holdings s p j) + A.card ≤ 64 := by
  have hcounted : ∑ j with isEligible s p j = true, holdings s p j
      ≤ (Finset.univ.filter fun b => ∃ j, isEligible s p j = true ∧ countedFor s p b = some j).card := by
    calc ∑ j with isEligible s p j = true, holdings s p j
        ≤ ∑ j with isEligible s p j = true, (Finset.univ.filter fun b => countedFor s p b = some j).card :=
          Finset.sum_le_sum fun j _ => holdings_le hs p j
      _ = _ := by
          rw [← Finset.card_biUnion]
          · congr 1
            ext b
            simp
          · intro j _ j' _ hne
            refine Finset.disjoint_left.mpr fun b hb hb' => hne ?_
            exact Option.some.inj ((Finset.mem_filter.mp hb).2.symm.trans (Finset.mem_filter.mp hb').2)
  have hdisjoint : Disjoint (Finset.univ.filter fun b => ∃ j, isEligible s p j = true ∧ countedFor s p b = some j) A := by
    refine Finset.disjoint_left.mpr fun b hb hbA => ?_
    obtain ⟨-, j, hj, hcount⟩ := Finset.mem_filter.mp hb
    exact Bool.false_ne_true ((hA b hbA j hcount).symm.trans hj)
  have htotal := Finset.card_le_univ ((Finset.univ.filter fun b => ∃ j, isEligible s p j = true
    ∧ countedFor s p b = some j) ∪ A)
  rw [Finset.card_union_of_disjoint hdisjoint, Fintype.card_fin] at htotal
  omega

end

theorem receivers_length (s : State) (p : PoolIx) : (receivers s p).length
    = ∑ j with isEligible s p j = true, ((s.pools.get p).targets.get j - holdings s p j) := by
  rw [receivers, List.length_flatMap, eligibleMembers]
  simp only [List.length_replicate]
  exact sum_filter_finRange _ _

theorem mem_receivers (h : j ∈ receivers s p) : isEligible s p j = true := by
  obtain ⟨i, hi, hj⟩ := List.mem_flatMap.mp h
  rw [List.eq_of_mem_replicate hj]
  exact (List.mem_filter.mp hi).2

theorem eligibleMembers_isEmpty : (eligibleMembers s p).isEmpty = true ↔ ∀ j, isEligible s p j = false := by
  simp [eligibleMembers, List.filter_eq_nil_iff]

/-- The targets of a pool with an eligible member come to its 64 bins (R42). -/
theorem sum_targetOf_eligible (hs : BinCore gone s) (h : isEligible s p i = true) :
    ∑ j with isEligible s p j = true, targetOf (eligibleWeight s p) j = 64 := by
  have hweight : 0 < totalWeight (eligibleWeight s p) := by
    rw [totalWeight_eq_sum]
    refine Finset.sum_pos' (fun _ _ => Nat.zero_le _) ⟨i, Finset.mem_univ i, ?_⟩
    rw [eligibleWeight, if_pos h]
    exact hs.weight i
  rw [← totalWeight_targetOf hweight, totalWeight_eq_sum, Finset.sum_filter]
  refine Finset.sum_congr rfl fun j _ => ?_
  split
  · rfl
  · next hj => exact (targetOf_of_weight_zero (by rw [eligibleWeight, if_neg hj])).symm

/-- Where a member is eligible, there is room below the targets for every bin counted for none of them. -/
theorem receivers_suffice (hs : BinCore gone s) (h : isEligible s p i = true)
    (htargets : ∀ j, (s.pools.get p).targets.get j = targetOf (eligibleWeight s p) j) {A : Finset BinIx}
    (hA : ∀ b ∈ A, ∀ j, countedFor s p b = some j → isEligible s p j = false) : A.card ≤ (receivers s p).length := by
  have hroom : ∑ j with isEligible s p j = true, (s.pools.get p).targets.get j
      ≤ (receivers s p).length + ∑ j with isEligible s p j = true, holdings s p j := by
    rw [receivers_length, ← Finset.sum_add_distrib]
    exact Finset.sum_le_sum fun j _ => by omega
  have htotal : ∑ j with isEligible s p j = true, (s.pools.get p).targets.get j = 64 := by
    rw [← sum_targetOf_eligible hs h]
    exact Finset.sum_congr rfl fun j _ => htargets j
  have := sum_holdings_le hs hA
  omega

end Sys2Proof.Machine
end

section
/-! SUPPORT. Owners change without a move in one pool (R45, R48, R50–R54), and a recomputation leaves its pool current (R44). -/

namespace Sys2Proof.Machine

variable {s t u : State} {gone : SlotIx → Prop} {p q : PoolIx} {i j : SlotIx} {b : BinIx}

/-- Owners and tables of pool `p` alone have changed, no moving bin's owner, and a new owner is a holding member that is not
confirming its retirement. -/
structure Regiven (p : PoolIx) (s t : State) : Prop where
  slots : t.slots = s.slots
  engines : t.engines = s.engines
  others : ∀ q, q ≠ p → t.pools.get q = s.pools.get q
  enabled : (t.pools.get p).enabled = (s.pools.get p).enabled
  width : (t.pools.get p).width = (s.pools.get p).width
  engine : ∀ b, ((t.pools.get p).bins.get b).engine = ((s.pools.get p).bins.get b).engine
  moving : ∀ b, ((s.pools.get p).bins.get b).engine ≠ none →
    ((t.pools.get p).bins.get b).owner = ((s.pools.get p).bins.get b).owner
  owned : ∀ b i, ((t.pools.get p).bins.get b).owner = .owned i →
    ((s.pools.get p).bins.get b).owner = .owned i
      ∨ (s.pools.get p).enabled = true ∧ isMember s p i = true ∧ (s.slots.get i).state.eligible = true

theorem SlotState.holding_of_eligible {x : SlotState} (h : x.eligible = true) : x.holding = true := by
  cases x <;> simp_all [SlotState.eligible, SlotState.holding]

theorem Regiven.refl (p : PoolIx) (s : State) : Regiven p s s :=
  ⟨rfl, rfl, fun _ _ => rfl, rfl, rfl, fun _ => rfl, fun _ _ => rfl, fun _ _ => .inl⟩

theorem Regiven.trans (h : Regiven p s t) (h' : Regiven p t u) : Regiven p s u where
  slots := h'.slots.trans h.slots
  engines := h'.engines.trans h.engines
  others q hq := (h'.others q hq).trans (h.others q hq)
  enabled := h'.enabled.trans h.enabled
  width := h'.width.trans h.width
  engine b := (h'.engine b).trans (h.engine b)
  moving b hb := (h'.moving b (h.engine b ▸ hb)).trans (h.moving b hb)
  owned b i ho := by
    obtain ho | ⟨henabled, hmember, helig⟩ := h'.owned b i ho
    · exact h.owned b i ho
    · exact .inr ⟨h.enabled ▸ henabled, by rwa [isMember, h.slots] at hmember, h.slots ▸ helig⟩

theorem Regiven.core (h : Regiven p s t) (hs : BinCore gone s)
    (hstale : ∀ b i, ((t.pools.get p).bins.get b).owner = .stale i → (t.pools.get p).enabled = true → windowOpen t p = true) :
    BinCore gone t := by
  have henabled (q : PoolIx) : (t.pools.get q).enabled = (s.pools.get q).enabled := by
    obtain rfl | hq := eq_or_ne q p
    · exact h.enabled
    · rw [h.others q hq]
  have hwidth (q : PoolIx) : (t.pools.get q).width = (s.pools.get q).width := by
    obtain rfl | hq := eq_or_ne q p
    · exact h.width
    · rw [h.others q hq]
  have hengine (q : PoolIx) (b : BinIx) : ((t.pools.get q).bins.get b).engine = ((s.pools.get q).bins.get b).engine := by
    obtain rfl | hq := eq_or_ne q p
    · exact h.engine b
    · rw [h.others q hq]
  have hmember (q : PoolIx) (i : SlotIx) : isMember t q i = isMember s q i := by rw [isMember, isMember, h.slots]
  have howned (q : PoolIx) (b : BinIx) (i : SlotIx) (ho : ((t.pools.get q).bins.get b).owner = .owned i) :
      ((s.pools.get q).bins.get b).owner = .owned i
        ∨ (s.pools.get q).enabled = true ∧ isMember s q i = true ∧ (s.slots.get i).state.eligible = true := by
    obtain rfl | hq := eq_or_ne q p
    · exact h.owned b i ho
    · exact .inl (h.others q hq ▸ ho)
  refine ⟨fun e m hm => ?_, fun q b e he => ?_, fun q => ?_, fun i hi => ?_, fun i => h.slots ▸ hs.weight i, fun i hi q b ho => ?_,
    fun q b i ho => ?_, fun q b i ho he => ?_⟩
  · rw [h.engines] at hm
    obtain ⟨hbin, howner, hrest⟩ := hs.move e m hm
    rw [hengine, henabled, hmember, h.slots]
    refine ⟨hbin, ?_, hrest⟩
    obtain hp | hp := eq_or_ne m.pool p
    · rw [hp] at hbin howner ⊢
      exact (h.moving m.bin (hbin ▸ Option.some_ne_none e)).trans howner
    · rwa [h.others _ hp]
  · rw [hengine] at he
    rw [h.engines]
    exact hs.bin q b e he
  · have hmoves : activeMoves t q = activeMoves s q := activeMoves_congr (fun e => by rw [h.engines]) q
    rw [hwidth, hmoves]
    exact hs.width q
  · rw [h.slots] at hi ⊢
    obtain ⟨q, hq, hen⟩ := hs.holding i hi
    exact ⟨q, hq, (henabled q).trans hen⟩
  · rw [h.slots] at hi
    obtain ho | ⟨-, -, helig⟩ := howned q b i ho
    · exact hs.confirming i hi q b ho
    · rw [hi] at helig
      exact Bool.false_ne_true helig
  · rw [henabled, hmember, h.slots]
    obtain ho | ⟨hen, hmem, helig⟩ := howned q b i ho
    · exact hs.owned q b i ho
    · exact ⟨hen, hmem, .inl (SlotState.holding_of_eligible helig)⟩
  · obtain rfl | hq := eq_or_ne q p
    · exact hstale b i ho he
    · rw [windowOpen, h.others q hq] at *
      exact hs.stale q b i ho he

theorem Regiven.current (h : Regiven p s t) (hq : q ≠ p) (hs : PoolCurrent s q) : PoolCurrent t q := by
  refine PoolStands.current ⟨fun i => ?_, fun i _ => by rw [h.slots], ?_, fun b => ?_⟩ hs
  · rw [isEligible, isEligible, isMember, isMember, h.slots]
  · rw [h.others q hq]
  · rw [h.others q hq]

/-! Gifts (R45). -/

/-- What each step of a loop leaves as it is, the loop leaves as it is. -/
theorem forEach_eq {ι α : Type} {f : ι → State → State} {g : State → α} (h : ∀ i s, g (f i s) = g s) (is : List ι)
    (s : State) : g (forEach f is s) = g s :=
  forEach_keeps (P := fun t => g t = g s) (fun i t ht => (h i t).trans ht) is s rfl

theorem giveBins_others (p : PoolIx) (gifts : List (BinIx × SlotIx)) (s : State) (hq : q ≠ p) :
    (giveBins p gifts s).pools.get q = s.pools.get q := by
  rw [giveBins, bumpPool, State.updPool_pools, Table.get_modify_of_ne _ hq]
  refine forEach_eq (g := fun s => s.pools.get q) (fun g s => ?_) gifts s
  rw [State.updBin, State.updPool_pools, Table.get_modify_of_ne _ hq]

/-- Gifts change the bins and a counter of their pool alone. -/
theorem giveBins_tables (p : PoolIx) (gifts : List (BinIx × SlotIx)) (s : State) :
    ((giveBins p gifts s).pools.get p).tables = (s.pools.get p).tables := by
  rw [giveBins, bumpPool, State.updPool_pools, Table.get_modify_self]
  refine forEach_eq (g := fun s => (s.pools.get p).tables) (fun g s => ?_) gifts s
  rw [State.updBin, State.updPool_pools, Table.get_modify_self]
  rfl

theorem giveBins_slots (p : PoolIx) (gifts : List (BinIx × SlotIx)) (s : State) : (giveBins p gifts s).slots = s.slots :=
  forEach_eq (f := fun (g : BinIx × SlotIx) s => s.updBin p g.1 fun b => { b with owner := .owned g.2 }) (g := State.slots) (fun _ _ => rfl) gifts s

theorem giveBins_engines (p : PoolIx) (gifts : List (BinIx × SlotIx)) (s : State) :
    (giveBins p gifts s).engines = s.engines :=
  forEach_eq (f := fun (g : BinIx × SlotIx) s => s.updBin p g.1 fun b => { b with owner := .owned g.2 }) (g := State.engines) (fun _ _ => rfl) gifts s

theorem bumpPool_bins (p q : PoolIx) (c : PoolCounter) (n : Nat) (s : State) :
    ((bumpPool p c n s).pools.get q).bins = (s.pools.get q).bins := by
  rw [bumpPool, State.updPool_pools, Table.get_modify]
  split
  · next h => rw [h]
  · rfl

/-- A bin's owner after gifts: a receiver's, or as it was where the bin is in none. -/
theorem giveBins_owner (p : PoolIx) (gifts : List (BinIx × SlotIx)) (s : State) (b : BinIx) :
    (∃ j, (b, j) ∈ gifts ∧ (((giveBins p gifts s).pools.get p).bins.get b).owner = .owned j)
      ∨ b ∉ gifts.map Prod.fst
        ∧ (((giveBins p gifts s).pools.get p).bins.get b).owner = ((s.pools.get p).bins.get b).owner := by
  simp only [giveBins, bumpPool_bins]
  induction gifts generalizing s with
  | nil => exact .inr ⟨List.not_mem_nil, rfl⟩
  | cons g gifts ih =>
    obtain ⟨j, hj, ho⟩ | ⟨hb, ho⟩ := ih (s.updBin p g.1 fun b => { b with owner := .owned g.2 })
    · exact .inl ⟨j, List.mem_cons_of_mem g hj, ho⟩
    · rw [get_bin_updBin] at ho
      split_ifs at ho with hg
      · exact .inl ⟨g.2, by rw [hg.2]; exact List.mem_cons_self, ho⟩
      · refine .inr ⟨?_, ho⟩
        rw [List.map_cons, List.mem_cons, not_or]
        exact ⟨fun h => hg ⟨rfl, h⟩, hb⟩

/-- Gifts change a bin's owner alone. -/
theorem giveBins_fields (p : PoolIx) (gifts : List (BinIx × SlotIx)) (s : State) (b : BinIx) :
    ((giveBins p gifts s).pools.get p).bins.get b
      = { (s.pools.get p).bins.get b with owner := (((giveBins p gifts s).pools.get p).bins.get b).owner } := by
  simp only [giveBins, bumpPool_bins]
  refine forEach_relates (R := fun s t => (t.pools.get p).bins.get b
    = { (s.pools.get p).bins.get b with owner := ((t.pools.get p).bins.get b).owner }) (fun _ => rfl)
    (fun _ _ _ h h' => by rw [h', h]) (fun g s => ?_) gifts s
  rw [get_bin_updBin]
  split <;> rfl

/-- Bins at rest are given to eligible members. -/
theorem giveBins_regiven {gifts : List (BinIx × SlotIx)} (henabled : (s.pools.get p).enabled = true)
    (hfree : ∀ g ∈ gifts, ((s.pools.get p).bins.get g.1).engine = none) (hto : ∀ g ∈ gifts, isEligible s p g.2 = true) :
    Regiven p s (giveBins p gifts s) := by
  obtain ⟨hen, hwidth, -⟩ := tables_iff.mp (giveBins_tables p gifts s)
  refine ⟨giveBins_slots p gifts s, giveBins_engines p gifts s, fun q hq => giveBins_others p gifts s hq, hen, hwidth,
    fun b => by rw [giveBins_fields], fun b hb => ?_, fun b i ho => ?_⟩
  · obtain ⟨j, hj, -⟩ | ⟨-, ho⟩ := giveBins_owner p gifts s b
    · exact absurd (hfree _ hj) hb
    · exact ho
  · obtain ⟨j, hj, ho'⟩ | ⟨-, ho'⟩ := giveBins_owner p gifts s b
    · obtain rfl := Owner.owned.inj (ho'.symm.trans ho)
      obtain ⟨hmember, helig⟩ := isEligible_iff.mp (hto _ hj)
      exact .inr ⟨henabled, hmember, helig⟩
    · exact .inl (ho'.symm.trans ho)

/-! The plan (R46). -/

theorem map_fst_zip_eq_take {α β : Type} (l : List α) (l' : List β) : (l.zip l').map Prod.fst = l.take l'.length := by
  induction l generalizing l' with
  | nil => simp
  | cons a l ih => cases l' <;> simp [ih]

theorem map_snd_zip_eq_take {α β : Type} (l : List α) (l' : List β) : (l.zip l').map Prod.snd = l'.take l.length := by
  induction l generalizing l' with
  | nil => simp
  | cons a l ih => cases l' <;> simp [ih]

theorem mem_binsWhere {f : BinRecord → Bool} : b ∈ binsWhere s p f ↔ f ((s.pools.get p).bins.get b) = true := by
  simp [binsWhere]

theorem binsWhere_nodup (s : State) (p : PoolIx) (f : BinRecord → Bool) : (binsWhere s p f).Nodup :=
  (List.nodup_finRange 64).filter _

theorem mem_releasedBy {g : BinIx × SlotIx} (h : g ∈ releasedBy s p i) :
    g.2 = i ∧ ((s.pools.get p).bins.get g.1).owner = .owned i ∧ ((s.pools.get p).bins.get g.1).engine = none := by
  obtain ⟨b, hb, rfl⟩ := List.mem_map.mp h
  have hmem := mem_binsWhere.mp (List.mem_reverse.mp (List.mem_of_mem_take hb))
  rw [decide_eq_true_eq] at hmem
  exact ⟨rfl, hmem⟩

/-- The bins that the donors of pool `p` release, each with its donor. -/
def released (s : State) (p : PoolIx) : List (BinIx × SlotIx) :=
  ((List.finRange 12).filter (isHolding s p)).flatMap (releasedBy s p)

theorem plannedMoves_eq (s : State) (p : PoolIx) : plannedMoves s p
    = ((released s p).zip (receivers s p)).map fun g => ⟨g.1.1, g.1.2, g.2⟩ := rfl

theorem released_nodup (s : State) (p : PoolIx) : ((released s p).map Prod.fst).Nodup := by
  rw [released, List.map_flatMap, List.nodup_flatMap]
  refine ⟨fun i _ => ?_, ((List.nodup_finRange 12).filter _).imp fun {i j} hij b hb hb' => ?_⟩
  · rw [releasedBy, List.map_map]
    show (List.map id _).Nodup
    rw [List.map_id]
    exact ((List.nodup_reverse.mpr (binsWhere_nodup s p _)).sublist (List.take_sublist _ _))
  · obtain ⟨g, hg, rfl⟩ := List.mem_map.mp hb
    obtain ⟨g', hg', hb'⟩ := List.mem_map.mp hb'
    obtain ⟨-, ho, -⟩ := mem_releasedBy hg
    obtain ⟨-, ho', -⟩ := mem_releasedBy hg'
    rw [hb', ho] at ho'
    exact hij (Owner.owned.inj ho')

/-- A plan can be carried out when it has been built. -/
theorem plannedMoves_fit (s : State) (p : PoolIx) :
    (∀ entry ∈ plannedMoves s p, ((s.pools.get p).bins.get entry.bin).engine = none
      ∧ ((s.pools.get p).bins.get entry.bin).owner = .owned entry.source ∧ isEligible s p entry.destination = true)
      ∧ ((plannedMoves s p).map PlanEntry.bin).Nodup := by
  rw [plannedMoves_eq]
  constructor
  · intro entry hentry
    obtain ⟨⟨g, j⟩, hg, rfl⟩ := List.mem_map.mp hentry
    obtain ⟨hg, hj⟩ := List.of_mem_zip hg
    obtain ⟨i, -, hg⟩ := List.mem_flatMap.mp hg
    obtain ⟨rfl, ho, hfree⟩ := mem_releasedBy hg
    exact ⟨hfree, ho, mem_receivers hj⟩
  · rw [List.map_map]
    refine List.Nodup.sublist ?_ (released_nodup s p)
    show (List.map (Prod.fst ∘ Prod.fst) _).Sublist _
    rw [← List.map_map]
    refine List.Sublist.map _ ?_
    rw [map_fst_zip_eq_take]
    exact List.take_sublist _ _

theorem rebuildPlan_pool (p : PoolIx) (s : State) : (rebuildPlan p s).pools.get p
    = { s.pools.get p with plan := if windowOpen s p then [] else plannedMoves s p } := by
  rw [rebuildPlan, State.updPool_pools, Table.get_modify_self]

theorem updPool_regiven {f : PoolRecord → PoolRecord} (henabled : (f (s.pools.get p)).enabled = (s.pools.get p).enabled)
    (hwidth : (f (s.pools.get p)).width = (s.pools.get p).width) (hbins : (f (s.pools.get p)).bins = (s.pools.get p).bins) :
    Regiven p s (s.updPool p f) := by
  have hpool : (s.updPool p f).pools.get p = f (s.pools.get p) := Table.get_modify_self _ _ _
  refine ⟨rfl, rfl, fun q hq => Table.get_modify_of_ne _ hq _, hpool ▸ henabled, hpool ▸ hwidth, fun b => ?_, fun b _ => ?_,
    fun b i => ?_⟩ <;> rw [hpool, hbins]
  exact .inl

theorem rebuildPlan_regiven (p : PoolIx) (s : State) : Regiven p s (rebuildPlan p s) := updPool_regiven rfl rfl rfl

theorem rebuildPlan_fits (p : PoolIx) (s : State) : PlanFits (rebuildPlan p s) p := by
  have hpool := rebuildPlan_pool p s
  obtain ⟨hentry, honce⟩ := plannedMoves_fit s p
  constructor
  · rw [hpool]
    dsimp only
    split
    · exact fun _ h => absurd h List.not_mem_nil
    · exact hentry
  · rw [hpool]
    dsimp only
    split
    · exact List.nodup_nil
    · exact honce

end Sys2Proof.Machine
end

section
/-! SUPPORT. A recomputation makes its pool current and keeps the rest (R43, R44). -/

namespace Sys2Proof.Machine

variable {s t u : State} {gone : SlotIx → Prop} {p q : PoolIx} {i j : SlotIx} {b : BinIx}

/-- Only an owned bin can be in a move. -/
theorem BinCore.engine_none (hs : BinCore gone s) (h : ∀ k, ((s.pools.get p).bins.get b).owner ≠ .owned k) :
    ((s.pools.get p).bins.get b).engine = none := by
  cases he : ((s.pools.get p).bins.get b).engine with
  | none => rfl
  | some e =>
    obtain ⟨m, hm, rfl, rfl⟩ := hs.bin p b e he
    exact absurd (hs.move e m hm).2.1 (h _)

theorem retarget_pool (p : PoolIx) (s : State) : (retarget p s).pools.get p
    = { s.pools.get p with targets := Table.tab (targetOf (eligibleWeight s p)), plan := [] } := by
  rw [retarget, State.updPool_pools, Table.get_modify_self]

theorem retarget_regiven (p : PoolIx) (s : State) : Regiven p s (retarget p s) := updPool_regiven rfl rfl rfl

theorem mem_unownedBins : b ∈ binsWhere s p (fun b => b.owner = .unowned) ↔ ((s.pools.get p).bins.get b).owner = .unowned := by
  rw [mem_binsWhere, decide_eq_true_eq]

theorem assignUnowned_regiven (hs : BinCore gone s) (henabled : (s.pools.get p).enabled = true) :
    Regiven p s (assignUnowned p s) := by
  refine giveBins_regiven henabled (fun g hg => ?_) fun g hg => mem_receivers (List.of_mem_zip hg).2
  refine hs.engine_none fun k => ?_
  rw [mem_unownedBins.mp (List.of_mem_zip hg).1]
  nofun

theorem assignUnowned_owner (p : PoolIx) (s : State) (b : BinIx) :
    (((assignUnowned p s).pools.get p).bins.get b).owner = ((s.pools.get p).bins.get b).owner
      ∨ ((s.pools.get p).bins.get b).owner = .unowned ∧ ∃ j, isEligible s p j = true
        ∧ (((assignUnowned p s).pools.get p).bins.get b).owner = .owned j := by
  obtain ⟨j, hj, ho⟩ | ⟨-, ho⟩ := giveBins_owner p ((binsWhere s p fun b => b.owner = .unowned).zip (receivers s p)) s b
  · obtain ⟨hb, hj⟩ := List.of_mem_zip hj
    exact .inr ⟨mem_unownedBins.mp hb, j, mem_receivers hj, ho⟩
  · exact .inl ho

/-- Immediate assignment leaves no bin UNOWNED where a member is eligible (R45). -/
theorem assignUnowned_none (hs : BinCore gone s) (h : isEligible s p i = true)
    (htargets : ∀ j, (s.pools.get p).targets.get j = targetOf (eligibleWeight s p) j) (b : BinIx) :
    (((assignUnowned p s).pools.get p).bins.get b).owner ≠ .unowned := by
  intro hb
  obtain ⟨j, -, ho⟩ | ⟨hnot, ho⟩ := giveBins_owner p ((binsWhere s p fun b => b.owner = .unowned).zip (receivers s p)) s b
  · rw [assignUnowned, ho] at hb
    cases hb
  · have hunowned : ((s.pools.get p).bins.get b).owner = .unowned := ho.symm.trans hb
    refine hnot ?_
    rw [map_fst_zip_eq_take, List.take_of_length_le]
    · exact mem_unownedBins.mpr hunowned
    · rw [← List.toFinset_card_of_nodup (binsWhere_nodup s p _)]
      refine receivers_suffice hs h htargets fun c hc k hk => ?_
      rw [List.mem_toFinset, mem_unownedBins] at hc
      have hfree : ((s.pools.get p).bins.get c).engine = none := hs.engine_none fun k => by rw [hc]; nofun
      rw [countedFor, hfree, hc] at hk
      cases hk

/-- What a recomputation leaves as it is, its own pool's targets, plan and UNOWNED bins apart. -/
theorem recomputeTables_regiven (hs : BinCore gone s) (henabled : (s.pools.get p).enabled = true) :
    Regiven p s (recomputeTables p s) := by
  have hretarget := retarget_regiven p s
  have hcore : BinCore gone (retarget p s) := hretarget.core hs (by
    rw [windowOpen, retarget_pool]
    exact hs.stale p)
  exact (hretarget.trans (assignUnowned_regiven hcore (hretarget.enabled.trans henabled))).trans (rebuildPlan_regiven p _)

theorem isEligible_of_slots (h : t.slots = s.slots) (p : PoolIx) (i : SlotIx) : isEligible t p i = isEligible s p i := by
  rw [isEligible, isEligible, isMember, isMember, h]

theorem eligibleWeight_of_slots (h : t.slots = s.slots) (p : PoolIx) : eligibleWeight t p = eligibleWeight s p := by
  funext i
  rw [eligibleWeight, eligibleWeight, isEligible_of_slots h, h]

/-- The owners that a recomputation leaves: an UNOWNED bin may have gone to an eligible member (R45). -/
theorem recomputeTables_owner (p : PoolIx) (s : State) (b : BinIx) :
    (((recomputeTables p s).pools.get p).bins.get b).owner = ((s.pools.get p).bins.get b).owner
      ∨ ((s.pools.get p).bins.get b).owner = .unowned ∧ ∃ j, isEligible s p j = true
        ∧ (((recomputeTables p s).pools.get p).bins.get b).owner = .owned j := by
  have howner := assignUnowned_owner p (retarget p s) b
  have helig : ∀ j, isEligible (retarget p s) p j = isEligible s p j := isEligible_of_slots rfl p
  simp only [retarget_pool, helig] at howner
  rw [recomputeTables, rebuildPlan_pool]
  exact howner

theorem recomputeTables_window (p : PoolIx) (s : State) : windowOpen (recomputeTables p s) p = windowOpen s p := by
  obtain ⟨-, -, -, -, hwindow⟩ := tables_iff.mp (giveBins_tables p
    ((binsWhere (retarget p s) p fun b => b.owner = .unowned).zip (receivers (retarget p s) p)) (retarget p s))
  rw [windowOpen, recomputeTables, rebuildPlan_pool]
  show ((assignUnowned p (retarget p s)).pools.get p).adoptionTimer.isSome = _
  rw [assignUnowned, hwindow, retarget_pool]
  rfl

theorem recomputeTables_core (hs : BinCore gone s) (henabled : (s.pools.get p).enabled = true) :
    BinCore gone (recomputeTables p s) := by
  refine (recomputeTables_regiven hs henabled).core hs fun b i ho _ => ?_
  rw [recomputeTables_window]
  obtain ho' | ⟨-, j, -, ho'⟩ := recomputeTables_owner p s b
  · exact hs.stale p b i (ho' ▸ ho) henabled
  · cases ho'.symm.trans ho

theorem recomputeTables_targets (p : PoolIx) (s : State) :
    ((recomputeTables p s).pools.get p).targets = Table.tab (targetOf (eligibleWeight s p)) := by
  obtain ⟨-, -, htargets, -⟩ := tables_iff.mp (giveBins_tables p
    ((binsWhere (retarget p s) p fun b => b.owner = .unowned).zip (receivers (retarget p s) p)) (retarget p s))
  rw [recomputeTables, rebuildPlan_pool]
  show ((assignUnowned p (retarget p s)).pools.get p).targets = _
  rw [assignUnowned, htargets, retarget_pool]

theorem recomputeTables_slots (p : PoolIx) (s : State) : (recomputeTables p s).slots = s.slots := giveBins_slots p _ _

/-- A recomputation makes its pool current (R44, R45, R46). -/
theorem recomputeTables_current (hs : BinCore gone s) (henabled : (s.pools.get p).enabled = true) :
    PoolCurrent (recomputeTables p s) p := by
  have hslots := recomputeTables_slots p s
  refine ⟨fun _ j => ?_, rebuildPlan_fits p _, fun b ho _ => ?_⟩
  · rw [recomputeTables_targets, Table.get_tab, eligibleWeight_of_slots hslots]
  · by_cases hdark : isDark (recomputeTables p s) p = true
    · exact .inl hdark
    · have hretarget := retarget_regiven p s
      have hcore : BinCore gone (retarget p s) := hretarget.core hs (by
        rw [windowOpen, retarget_pool]
        exact hs.stale p)
      rw [isDark, (recomputeTables_regiven hs henabled).enabled, henabled, Bool.true_and, eligibleMembers_isEmpty,
        not_forall] at hdark
      obtain ⟨j, hj⟩ := hdark
      rw [isEligible_of_slots hslots, Bool.not_eq_false] at hj
      refine absurd ?_ (assignUnowned_none hcore (i := j) (p := p) ((isEligible_of_slots rfl p j).trans hj) (fun k => ?_) b)
      · rwa [recomputeTables, rebuildPlan_pool] at ho
      · rw [retarget_pool, Table.get_tab, eligibleWeight_of_slots (t := retarget p s) (s := s) rfl]

theorem recompute_eq (henabled : (s.pools.get p).enabled = true) : recompute p s
    = forEach reportHoldings ((List.finRange 12).filter (isMember (recomputeTables p s) p)) (recomputeTables p s) :=
  if_pos henabled

/-- The reports of a recomputation change no bin (R44). -/
theorem recompute_stand (henabled : (s.pools.get p).enabled = true) : BinsStand (recomputeTables p s) (recompute p s) := by
  rw [recompute_eq henabled]
  exact forEach_stand reportHoldings_stand _ _

theorem recompute_core (p : PoolIx) (hs : BinCore gone s) : BinCore gone (recompute p s) := by
  by_cases henabled : (s.pools.get p).enabled = true
  · exact (recompute_stand henabled).core (recomputeTables_core hs henabled)
  · rwa [recompute, if_neg henabled]

theorem recompute_current (hs : BinCore gone s) (henabled : (s.pools.get p).enabled = true) : PoolCurrent (recompute p s) p :=
  ((recompute_stand henabled).pool p).current (recomputeTables_current hs henabled)

theorem recompute_current_of_ne (hs : BinCore gone s) (hne : q ≠ p) (hq : PoolCurrent s q) : PoolCurrent (recompute p s) q := by
  by_cases henabled : (s.pools.get p).enabled = true
  · exact ((recompute_stand henabled).pool q).current ((recomputeTables_regiven hs henabled).current hne hq)
  · rwa [recompute, if_neg henabled]

/-- A recomputation keeps the laws, and restores those of its own enabled pool. -/
theorem recompute_laws (p : PoolIx) (hs : BinCore nobody s) (h : ∀ q, q ≠ p ∨ (s.pools.get p).enabled = false → PoolCurrent s q) :
    BinLaws (recompute p s) := by
  refine binLaws_iff.mpr ⟨recompute_core p hs, fun q => ?_⟩
  by_cases henabled : (s.pools.get p).enabled = true
  · obtain rfl | hq := eq_or_ne q p
    · exact recompute_current hs henabled
    · exact recompute_current_of_ne hs hq (h q (.inl hq))
  · rw [recompute, if_neg henabled]
    exact h q (.inr (Bool.eq_false_iff.mpr henabled))

theorem recompute_engines (p : PoolIx) (s : State) : (recompute p s).engines = s.engines := by
  unfold recompute
  split
  · have hreports := forEach_reportHoldings_members ((List.finRange 12).filter (isMember (recomputeTables p s) p))
      (recomputeTables p s)
    obtain ⟨_, _, _, h⟩ := hreports
    rw [h]
    exact giveBins_engines p _ _
  · rfl

/-- The owners that a recomputation leaves in every pool. -/
theorem recompute_owner (p q : PoolIx) (s : State) (b : BinIx) :
    (((recompute p s).pools.get q).bins.get b).owner = ((s.pools.get q).bins.get b).owner
      ∨ q = p ∧ (s.pools.get p).enabled = true ∧ ((s.pools.get q).bins.get b).owner = .unowned
        ∧ ∃ j, isEligible s p j = true ∧ (((recompute p s).pools.get q).bins.get b).owner = .owned j := by
  by_cases henabled : (s.pools.get p).enabled = true
  · rw [(recompute_stand henabled).owner]
    obtain rfl | hq := eq_or_ne q p
    · obtain ho | ⟨hu, j, hj, ho⟩ := recomputeTables_owner q s b
      · exact .inl ho
      · exact .inr ⟨rfl, henabled, hu, j, hj, ho⟩
    · rw [recomputeTables, rebuildPlan, State.updPool_pools, Table.get_modify_of_ne _ hq, assignUnowned,
        giveBins_others _ _ _ hq, retarget, State.updPool_pools, Table.get_modify_of_ne _ hq]
      exact .inl rfl
  · rw [recompute, if_neg henabled]
    exact .inl rfl

end Sys2Proof.Machine
end

section
/-! SUPPORT. Commits, aborts and the frames that leave a queue keep the laws of bins and moves, and bring bins to eligible
members alone (R40, R67–R75, R96). -/

namespace Sys2Proof.Machine

variable {s t u : State} {gone : SlotIx → Prop} {p q : PoolIx} {i j : SlotIx} {b : BinIx} {e : EngineIx} {m : MoveRecord}

theorem RecordFollows.role {r r' : SlotRecord} (h : RecordFollows r r') : r'.role = r.role := by
  obtain ⟨hpool, hweight, -⟩ := h.settings
  refine role_iff.mpr ⟨hpool, hweight, ?_⟩
  obtain hstate | ⟨hold, hnew⟩ | ⟨hold, hnew⟩ := h.state
  · rw [hstate]
    exact ⟨rfl, rfl⟩
  all_goals
    rw [hold, hnew]
    exact ⟨rfl, rfl⟩

/-- The laws of bins are kept, memberships stand, and only eligible members gain bins. -/
structure KeepsBins (s t : State) : Prop where
  laws : BinLaws s → BinLaws t
  roles : ∀ i, (t.slots.get i).role = (s.slots.get i).role
  gains : BinLaws s → ∀ p b j, ((t.pools.get p).bins.get b).owner = .owned j →
    ((s.pools.get p).bins.get b).owner = .owned j ∨ isEligible s p j = true

theorem BinsStand.keeps (h : BinsStand s t) : KeepsBins s t := ⟨h.laws, h.roles, fun _ p b _ ho => .inl (h.owner p b ▸ ho)⟩

theorem KeepsBins.refl (s : State) : KeepsBins s s := (BinsStand.refl s).keeps

theorem KeepsBins.trans (h : KeepsBins s t) (h' : KeepsBins t u) : KeepsBins s u where
  laws hs := h'.laws (h.laws hs)
  roles i := (h'.roles i).trans (h.roles i)
  gains hs p b j ho := by
    obtain ho | hj := h'.gains (h.laws hs) p b j ho
    · exact h.gains hs p b j ho
    · exact .inr (isEligible_congr h.roles p j ▸ hj)

theorem KeepsBins.ite {t t' : State} {c : Prop} [Decidable c] (h : c → KeepsBins s t) (h' : ¬ c → KeepsBins s t') :
    KeepsBins s (if c then t else t') := by
  split
  · exact h ‹_›
  · exact h' ‹_›

theorem forEach_keepsBins {ι : Type} {f : ι → State → State} (h : ∀ i s, KeepsBins s (f i s)) (is : List ι) (s : State) :
    KeepsBins s (forEach f is s) :=
  forEach_relates .refl (fun _ _ _ => .trans) h is s

/-! Moves. -/

theorem commitMove_core (hs : BinCore gone s) (he : s.engines.get e = some m)
    (hto : (s.slots.get m.destination).state.eligible = true) : BinCore gone (commitMove e m s) :=
  (commitMove_stand e m s).core (endMove_core hs he (.inr ⟨rfl, hto⟩))

theorem commitMove_current (hs : BinCore gone s) (he : s.engines.get e = some m) (hq : PoolCurrent s q) :
    PoolCurrent (commitMove e m s) q :=
  ((commitMove_stand e m s).pool q).current (endMove_current hs he hq)

theorem abortMove_core (hs : BinCore gone s) (he : s.engines.get e = some m) : BinCore gone (abortMove e m s) :=
  (abortMove_stand (hs.move e m he).2.1).core (endMove_core hs he (.inl rfl))

theorem abortMove_current (hs : BinCore gone s) (he : s.engines.get e = some m) (hq : PoolCurrent s q) :
    PoolCurrent (abortMove e m s) q :=
  ((abortMove_stand (hs.move e m he).2.1).pool q).current (endMove_current hs he hq)

theorem abortMove_owner (hs : BinCore gone s) (he : s.engines.get e = some m) (q : PoolIx) (b : BinIx) :
    (((abortMove e m s).pools.get q).bins.get b).owner = ((s.pools.get q).bins.get b).owner := by
  obtain ⟨-, ho, -⟩ := hs.move e m he
  rw [(abortMove_stand ho).owner]
  have hplace := endMove_place e m m.source s q b
  split_ifs at hplace with hmoved
  · obtain ⟨rfl, rfl⟩ := hmoved
    exact (Prod.mk.inj hplace).1.trans ho.symm
  · exact (place_iff.mp hplace).1

theorem abortDiscard_core (hs : BinCore gone s) (he : s.engines.get e = some m) : BinCore gone (abortDiscard e m s) :=
  (abortDiscard_stand (hs.move e m he).2.1).core (endMove_core hs he (.inl rfl))

theorem abortDiscard_current (hs : BinCore gone s) (he : s.engines.get e = some m) (hq : PoolCurrent s q) :
    PoolCurrent (abortDiscard e m s) q :=
  ((abortDiscard_stand (hs.move e m he).2.1).pool q).current (endMove_current hs he hq)

/-- The owners that a commit leaves: the destination's bin, and every other as it was (R71). -/
theorem commitMove_owner (e : EngineIx) (m : MoveRecord) (s : State) (q : PoolIx) (b : BinIx) :
    (((commitMove e m s).pools.get q).bins.get b).owner
      = if q = m.pool ∧ b = m.bin then .owned m.destination else ((s.pools.get q).bins.get b).owner := by
  rw [(commitMove_stand e m s).owner]
  have hplace := endMove_place e m m.destination s q b
  split_ifs at hplace ⊢
  · exact (Prod.mk.inj hplace).1
  · exact (place_iff.mp hplace).1

theorem BinCore.to_eligible (hs : BinCore nobody s) (he : s.engines.get e = some m) :
    (s.slots.get m.destination).state.eligible = true := by
  obtain ⟨-, -, -, helig | hgone, -⟩ := hs.move e m he
  · exact helig
  · exact hgone.elim

theorem commitMove_keeps (he : s.engines.get e = some m) : KeepsBins s (commitMove e m s) where
  laws hs := binLaws_iff.mpr ⟨commitMove_core hs.core he (hs.core.to_eligible he),
    fun q => commitMove_current hs.core he (hs.current q)⟩
  roles i := ((commitMove_follows e m s).slots i).role
  gains hs p b j ho := by
    rw [commitMove_owner] at ho
    split_ifs at ho with hmoved
    · obtain rfl := Owner.owned.inj ho
      obtain ⟨rfl, rfl⟩ := hmoved
      exact .inr (hs.moves.move e m he).2.2.1
    · exact .inl ho

theorem recompute_keeps (p : PoolIx) (s : State) : KeepsBins s (recompute p s) where
  laws hs := recompute_laws p hs.core fun q _ => hs.current q
  roles i := ((recompute_follows p s).slots i).role
  gains _ q b j ho := by
    obtain ho' | ⟨rfl, -, -, k, hk, ho'⟩ := recompute_owner p q s b
    · exact .inl (ho'.symm.trans ho)
    · exact .inr (Owner.owned.inj (ho'.symm.trans ho) ▸ hk)

theorem afterCommit_keeps (m : MoveRecord) (s : State) : KeepsBins s (afterCommit m s) :=
  .ite (fun _ => recompute_keeps m.pool s) fun _ =>
    ((reportHoldings_stand m.source s).trans (reportHoldings_stand m.destination _)).keeps

theorem engineCommit_keeps (he : s.engines.get e = some m) : KeepsBins s (engineCommit e m s) :=
  (commitMove_keeps he).trans (afterCommit_keeps m _)

theorem drainEnd_keeps (he : s.engines.get e = some m) : KeepsBins s (drainEnd e m s) :=
  .ite (fun _ => engineCommit_keeps he) fun _ => (BinsStand.setEngine e (by rw [he]; rfl)).keeps

theorem lowerInflight_keeps (p : PoolIx) (b : BinIx) (s : State) : KeepsBins s (lowerInflight p b s) := by
  have hlower : BinsStand s (s.updBin p b fun r => { r with inflight := r.inflight - 1 }) := .updBin p b fun _ => rfl
  replace hlower := hlower.keeps
  simp only [lowerInflight]
  split
  · exact hlower
  · split
    · exact hlower
    · next hm => exact hlower.trans (.ite (fun _ => drainEnd_keeps hm) fun _ => .refl _)

/-! Queues. -/

theorem reportLeft_keeps (entry : EgressEntry) (s : State) : KeepsBins s (reportLeft entry s) := by
  unfold reportLeft
  split
  · exact lowerInflight_keeps _ _ s
  · exact .refl s

theorem flushOne_keeps (i : SlotIx) (entry : EgressEntry) (s : State) : KeepsBins s (flushOne i entry s) := by
  have hpop : BinsStand s (bumpSlot i .flushed (popEgress i s)) := .of_eq rfl rfl rfl
  exact hpop.keeps.trans (reportLeft_keeps entry _)

theorem abortData_stand (i : SlotIx) (s : State) : BinsStand s (abortData i s) :=
  .ite (fun _ => .of_eq rfl rfl rfl) fun _ => .refl s

theorem flushEgress_keeps (i : SlotIx) (s : State) : KeepsBins s (flushEgress i s) :=
  ((abortData_stand i s).keeps.trans (forEach_keepsBins (flushOne_keeps i) _ _)).trans (evaluateConfirmation_stand i _).keeps

theorem flushUpstream_stand (i : SlotIx) (s : State) : BinsStand s (flushUpstream i s) := by
  have habort : BinsStand s (abortUpstream i s) := .ite (fun _ => .of_eq rfl rfl rfl) fun _ => .refl s
  refine habort.trans (.trans ?_ (pauseAtFlush_links i _).binsStand)
  exact .of_eq rfl rfl rfl

theorem flushQueues_keeps (i : SlotIx) (s : State) : KeepsBins s (flushQueues i s) :=
  (flushEgress_keeps i s).trans (flushUpstream_stand i _).keeps

/-! A slot out of its pool: without bins, and so without moves. -/

/-- Slot `i` owns no bin. -/
def OwnsNone (i : SlotIx) (s : State) : Prop := ∀ p b, ((s.pools.get p).bins.get b).owner ≠ .owned i

theorem KeepsBins.ownsNone (h : KeepsBins s t) (hs : BinLaws s) (hi : (s.slots.get i).state.eligible = false)
    (hnone : OwnsNone i s) : OwnsNone i t := fun p b ho => by
  obtain ho | helig := h.gains hs p b i ho
  · exact hnone p b ho
  · exact Bool.false_ne_true (hi.symm.trans (isEligible_iff.mp helig).2)

/-- A slot that is not eligible and owns nothing is in no move. -/
theorem BinLaws.no_move (hs : BinLaws s) (hi : (s.slots.get i).state.eligible = false) (hnone : OwnsNone i s) :
    inActiveMove s i = false := by
  rw [inActiveMove, List.any_eq_false]
  intro e _
  cases hm : s.engines.get e with
  | none => simp
  | some m =>
    obtain ⟨-, ho, helig, -⟩ := hs.moves.move e m hm
    have hsource : m.source ≠ i := fun h => hnone _ _ (h ▸ ho)
    have hdest : m.destination ≠ i := fun h => by
      rw [h, isEligible_iff, hi] at helig
      exact Bool.false_ne_true helig.2
    simp [hsource, hdest]

theorem OwnsNone.slotHeld (h : OwnsNone i s) : slotHeld s i = 0 := by
  unfold Machine.slotHeld
  split
  · exact binsHeld_eq_zero_iff.mpr (h _)
  · rfl

end Sys2Proof.Machine
end

section
/-! SUPPORT. A slot's membership changes: what the laws of bins then owe, and the loss of eligibility that pays it (R36, R49). -/

namespace Sys2Proof.Machine

variable {s t u : State} {gone : SlotIx → Prop} {p q : PoolIx} {i j : SlotIx} {b : BinIx} {e : EngineIx} {m : MoveRecord}

/-- Pools, moves and the other slots' memberships stand. -/
structure RolesBut (i : SlotIx) (s t : State) : Prop where
  pools : t.pools = s.pools
  engines : t.engines = s.engines
  roles : ∀ j, j ≠ i → (t.slots.get j).role = (s.slots.get j).role
  confirming : ∀ j, j ≠ i → (t.slots.get j).state = .retiring .confirming → (s.slots.get j).state = .retiring .confirming

theorem RolesBut.refl (i : SlotIx) (s : State) : RolesBut i s s := ⟨rfl, rfl, fun _ _ => rfl, fun _ _ => id⟩

theorem RolesBut.trans (h : RolesBut i s t) (h' : RolesBut i t u) : RolesBut i s u :=
  ⟨h'.pools.trans h.pools, h'.engines.trans h.engines, fun j hj => (h'.roles j hj).trans (h.roles j hj),
    fun j hj hc => h.confirming j hj (h'.confirming j hj hc)⟩

theorem TouchesLinks.rolesBut (h : TouchesLinks s t) (i : SlotIx) : RolesBut i s t := by
  obtain ⟨_, _, _, _, rfl⟩ := h
  exact ⟨rfl, rfl, fun _ _ => rfl, fun _ _ => id⟩

theorem TouchesMembers.rolesBut (h : TouchesMembers s t) (hothers : ∀ j, j ≠ i →
    (t.slots.get j).role = (s.slots.get j).role ∧ (t.slots.get j).state = (s.slots.get j).state) : RolesBut i s t := by
  obtain ⟨_, _, _, rfl⟩ := h
  exact ⟨rfl, rfl, fun j hj => (hothers j hj).1, fun j hj hc => (hothers j hj).2 ▸ hc⟩

theorem updSlot_rolesBut (i : SlotIx) (f : SlotRecord → SlotRecord) (s : State) : RolesBut i s (s.updSlot i f) :=
  (updSlot_members i f s).rolesBut fun j hj => by
    rw [State.updSlot_slots, Table.get_modify_of_ne _ hj]
    exact ⟨rfl, rfl⟩

theorem changeState_rolesBut (i : SlotIx) (new : SlotState) (s : State) : RolesBut i s (changeState i new s) :=
  (changeState_members i new s).rolesBut fun j hj => by
    rw [changeState_get_of_ne hj]
    exact ⟨rfl, rfl⟩

theorem raiseFlag_rolesBut (i j : SlotIx) (f : SlotFlag) (s : State) : RolesBut i s (raiseFlag j f s) :=
  (raiseFlag_members j f s).rolesBut fun k _ => ⟨(raiseFlag_stand j f s).roles k, raiseFlag_state j k f s⟩

theorem RolesBut.member_of_ne (h : RolesBut i s t) (hj : j ≠ i) (p : PoolIx) : isMember t p j = isMember s p j := by
  rw [isMember, isMember, (role_iff.mp (h.roles j hj)).1]

/-- The laws after a change of slot `i`'s membership: what it holds it still may, or it is on its way out. -/
theorem BinCore.shift (hs : BinCore nobody s) (h : RolesBut i s t) (hweight : 1 ≤ (t.slots.get i).weight)
    (hholding : (t.slots.get i).state.holding = true → ∃ p, (t.slots.get i).pool = some p ∧ (s.pools.get p).enabled = true)
    (hconfirming : (t.slots.get i).state = .retiring .confirming → (s.slots.get i).state = .retiring .confirming)
    (hmember : (s.slots.get i).state.holding = true → (t.slots.get i).pool = (s.slots.get i).pool)
    (howns : (s.slots.get i).state.holding = true → (t.slots.get i).state.holding = true ∨ gone i ∨ OwnsNone i s)
    (heligible : (s.slots.get i).state.eligible = true → (t.slots.get i).state.eligible = true ∨ gone i) :
    BinCore gone t := by
  have hrole (j : SlotIx) (hj : j ≠ i) := role_iff.mp (h.roles j hj)
  have hmem (p : PoolIx) (j : SlotIx) (hp : isMember s p j = true) (hj : (s.slots.get j).state.holding = true) :
      isMember t p j = true := by
    obtain rfl | hne := eq_or_ne j i
    · exact isMember_iff.mpr ((hmember hj).trans (isMember_iff.mp hp))
    · rwa [h.member_of_ne hne]
  refine ⟨fun e m hm => ?_, h.engines ▸ h.pools ▸ hs.bin, fun p => ?_, fun j hj => ?_, fun j => ?_, fun j hj => ?_,
    fun p b j ho => ?_, fun p b j ho he => ?_⟩
  · rw [h.engines] at hm
    obtain ⟨hengine, howner, hp, helig, henabled⟩ := hs.move e m hm
    replace helig := helig.resolve_right id
    rw [h.pools]
    refine ⟨hengine, howner, hmem _ _ hp (SlotState.holding_of_eligible helig), ?_, henabled⟩
    by_cases hi : m.destination = i
    · rw [hi] at helig ⊢
      exact heligible helig
    · exact .inl ((hrole _ hi).2.2.1.trans helig)
  · have hmoves : activeMoves t p = activeMoves s p := activeMoves_congr (fun e => by rw [h.engines]) p
    rw [hmoves, h.pools]
    exact hs.width p
  · rw [h.pools]
    obtain rfl | hne := eq_or_ne j i
    · exact hholding hj
    · obtain ⟨hpool, -, -, hhold⟩ := hrole j hne
      obtain ⟨p, hp, henabled⟩ := hs.holding j (hhold ▸ hj)
      exact ⟨p, hpool.trans hp, henabled⟩
  · obtain rfl | hne := eq_or_ne j i
    · exact hweight
    · exact (hrole j hne).2.1 ▸ hs.weight j
  · obtain rfl | hne := eq_or_ne j i
    · rw [h.pools]
      exact hs.confirming j (hconfirming hj)
    · rw [h.pools]
      exact hs.confirming j (h.confirming j hne hj)
  · rw [h.pools] at ho ⊢
    obtain ⟨henabled, hp, hhold⟩ := hs.owned p b j ho
    replace hhold := hhold.resolve_right id
    refine ⟨henabled, hmem p j hp hhold, ?_⟩
    by_cases hi : j = i
    · rw [hi] at hhold ho ⊢
      obtain h' | h' | h' := howns hhold
      · exact .inl h'
      · exact .inr h'
      · exact absurd ho (h' p b)
    · exact .inl ((hrole j hi).2.2.2.trans hhold)
  · rw [windowOpen, h.pools] at *
    exact hs.stale p b j ho he

theorem PoolCurrent.shift (hq : PoolCurrent s q) (h : RolesBut i s t) (heligible : isEligible t q i = isEligible s q i)
    (hweight : isEligible t q i = true → (t.slots.get i).weight = (s.slots.get i).weight) : PoolCurrent t q := by
  refine PoolStands.current ⟨fun j => ?_, fun j hj => ?_, by rw [h.pools], fun b => by rw [h.pools]⟩ hq
  · obtain rfl | hne := eq_or_ne j i
    · exact heligible
    · obtain ⟨-, -, helig, -⟩ := role_iff.mp (h.roles j hne)
      rw [isEligible, isEligible, h.member_of_ne hne, helig]
  · obtain rfl | hne := eq_or_ne j i
    · exact hweight hj
    · exact (role_iff.mp (h.roles j hne)).2.1

/-- The slots on their way out are out. -/
theorem BinCore.settle (hs : BinCore gone s)
    (howns : ∀ i, gone i → (s.slots.get i).state.holding = true ∨ OwnsNone i s)
    (hdest : ∀ e m, s.engines.get e = some m → ¬ gone m.destination) : BinCore nobody s where
  __ := hs
  move e m hm := by
    obtain ⟨hengine, howner, hp, helig, henabled⟩ := hs.move e m hm
    exact ⟨hengine, howner, hp, .inl (helig.resolve_right (hdest e m hm)), henabled⟩
  owned p b i ho := by
    obtain ⟨henabled, hp, hhold | hgone⟩ := hs.owned p b i ho
    · exact ⟨henabled, hp, .inl hhold⟩
    · obtain hhold | hnone := howns i hgone
      · exact ⟨henabled, hp, .inl hhold⟩
      · exact absurd ho (hnone p b)

theorem BinCore.mono {gone' : SlotIx → Prop} (hs : BinCore gone s) (h : ∀ i, gone i → gone' i) : BinCore gone' s where
  __ := hs
  move e m hm := by
    obtain ⟨hengine, howner, hp, helig, henabled⟩ := hs.move e m hm
    exact ⟨hengine, howner, hp, helig.imp_right (h _), henabled⟩
  owned p b i ho := by
    obtain ⟨henabled, hp, hhold⟩ := hs.owned p b i ho
    exact ⟨henabled, hp, hhold.imp_right (h _)⟩

/-! The loss of eligibility (R49). -/

/-- No move goes to slot `i`. -/
def NoneTo (i : SlotIx) (s : State) : Prop := ∀ e m, s.engines.get e = some m → m.destination ≠ i

theorem onMoves_abort_slots (sel : MoveRecord → Bool) (s : State) : (onMoves sel abortMove s).slots = s.slots := by
  obtain ⟨_, _, _, _, h⟩ := onMoves_frames (q := sel) abortMove_frames s
  rw [h]

/-- Aborts keep the laws, what is current, and every owner (R74). -/
theorem onMoves_abort_keeps (sel : MoveRecord → Bool) (hs : BinCore gone s) : BinCore gone (onMoves sel abortMove s)
    ∧ (∀ q, PoolCurrent s q → PoolCurrent (onMoves sel abortMove s) q)
    ∧ ∀ q b, (((onMoves sel abortMove s).pools.get q).bins.get b).owner = ((s.pools.get q).bins.get b).owner := by
  refine onMoves_keeps (P := fun t => BinCore gone t ∧ (∀ q, PoolCurrent s q → PoolCurrent t q)
    ∧ ∀ q b, ((t.pools.get q).bins.get b).owner = ((s.pools.get q).bins.get b).owner) (fun e m t ht hm _ => ?_)
    ⟨hs, fun _ => id, fun _ _ => rfl⟩
  obtain ⟨hcore, hcurrent, howner⟩ := ht
  exact ⟨abortMove_core hcore hm, fun q hq => abortMove_current hcore hm (hcurrent q hq),
    fun q b => (abortMove_owner hcore hm q b).trans (howner q b)⟩

theorem onMoves_abort_pool (sel : MoveRecord → Bool) (s : State) (q : PoolIx) :
    ((onMoves sel abortMove s).pools.get q).enabled = (s.pools.get q).enabled := by
  rw [(onMoves_follows (fun e m s => abortMove_follows e m s) s).pools q]

theorem loseEligibility_eq (hp : (s.slots.get i).pool = some p) (henabled : (s.pools.get p).enabled = true) :
    loseEligibility i s = recompute p (onMoves (fun m => m.pool = p ∧ m.destination = i) abortMove s) := by
  rw [loseEligibility, hp]
  exact if_pos henabled

/-- What a loss of eligibility leaves: every pool current, no move to the slot, and bins given to eligible members alone. -/
structure LosesEligibility (i : SlotIx) (s t : State) : Prop where
  current : ∀ q, PoolCurrent t q
  noneTo : NoneTo i t
  engines : ∀ e, t.engines.get e = (s.engines.get e).filter fun m => m.destination ≠ i
  owner : ∀ q b, ((t.pools.get q).bins.get b).owner = ((s.pools.get q).bins.get b).owner
    ∨ ((s.pools.get q).bins.get b).owner = .unowned ∧ isMember s q i = true
      ∧ ∃ j, isEligible s q j = true ∧ ((t.pools.get q).bins.get b).owner = .owned j

theorem loseEligibility_core (i : SlotIx) (hs : BinCore gone s) : BinCore gone (loseEligibility i s) := by
  unfold loseEligibility
  split
  · split
    · exact recompute_core _ (onMoves_abort_keeps _ hs).1
    · exact hs
  · exact hs

theorem loseEligibility_loses (hs : BinCore gone s) (hp : (s.slots.get i).pool = some p)
    (henabled : (s.pools.get p).enabled = true) (hcurrent : ∀ q, q ≠ p → PoolCurrent s q) :
    LosesEligibility i s (loseEligibility i s) := by
  obtain ⟨hcore, hkeeps, howner⟩ := onMoves_abort_keeps (fun m => m.pool = p ∧ m.destination = i) hs
  have henabled' := (onMoves_abort_pool (fun m => m.pool = p ∧ m.destination = i) s p).trans henabled
  rw [loseEligibility_eq hp henabled]
  have hengines (e : EngineIx) : (recompute p (onMoves (fun m => m.pool = p ∧ m.destination = i) abortMove s)).engines.get e
      = (s.engines.get e).filter fun m => m.destination ≠ i := by
    rw [recompute_engines, onMoves_engines abortMove_engines]
    cases hm : s.engines.get e with
    | none => rfl
    | some m =>
      have hpool (hd : m.destination = i) : m.pool = p :=
        Option.some.inj ((isMember_iff.mp (hs.move e m hm).2.2.1).symm.trans (hd ▸ hp))
      by_cases hd : m.destination = i
      · simp [Option.filter, hd, hpool hd]
      · simp [Option.filter, hd]
  refine ⟨fun q => ?_, fun e m hm => ?_, hengines, fun q b => ?_⟩
  · obtain rfl | hq := eq_or_ne q p
    · exact recompute_current hcore henabled'
    · exact recompute_current_of_ne hcore hq (hkeeps q (hcurrent q hq))
  · rw [hengines, Option.filter_eq_some_iff] at hm
    exact of_decide_eq_true hm.2
  · obtain ho | ⟨rfl, -, hu, j, hj, ho⟩ := recompute_owner p q (onMoves (fun m => m.pool = p ∧ m.destination = i) abortMove s) b
    · exact .inl (ho.trans (howner q b))
    · rw [isEligible_of_slots (onMoves_abort_slots _ s)] at hj
      exact .inr ⟨(howner q b).symm.trans hu, isMember_iff.mpr hp, j, hj, ho⟩

end Sys2Proof.Machine
end

section
/-! SUPPORT. An evacuation leaves its slot without a bin and without a move, and keeps the laws (R50, R75). -/

namespace Sys2Proof.Machine

variable {s t u : State} {gone : SlotIx → Prop} {p q : PoolIx} {i j : SlotIx} {b : BinIx} {e : EngineIx} {m : MoveRecord}

/-- The state in which an evacuation of slot `i` may begin: it is not eligible, no move goes to it, and whatever else is on its
way out is that slot. -/
structure MayEvacuate (gone : SlotIx → Prop) (i : SlotIx) (s : State) : Prop where
  core : BinCore gone s
  current : ∀ q, PoolCurrent s q
  out : ∀ j, gone j → j = i
  ineligible : (s.slots.get i).state.eligible = false
  noneTo : NoneTo i s

/-- Every bin of slot `i` in a move is its destination's, and no other owner has changed. -/
def Handed (i : SlotIx) (s t : State) : Prop := ∀ q b,
  ((t.pools.get q).bins.get b).owner = ((s.pools.get q).bins.get b).owner
    ∨ ((s.pools.get q).bins.get b).owner = .owned i
      ∧ ∃ j, isEligible s q j = true ∧ ((t.pools.get q).bins.get b).owner = .owned j

theorem MayEvacuate.to_eligible (h : MayEvacuate gone i s) (he : s.engines.get e = some m) :
    isEligible s m.pool m.destination = true := by
  obtain ⟨-, -, hmember, helig | hgone, -⟩ := h.core.move e m he
  · exact isEligible_iff.mpr ⟨hmember, helig⟩
  · exact absurd (h.out _ hgone) (h.noneTo e m he)

theorem MayEvacuate.commit (h : MayEvacuate gone i s) (he : s.engines.get e = some m) :
    MayEvacuate gone i (commitMove e m s) where
  core := commitMove_core h.core he (isEligible_iff.mp (h.to_eligible he)).2
  current q := commitMove_current h.core he (h.current q)
  out := h.out
  ineligible := by
    obtain ⟨_, _, _, _, hframe⟩ := commitMove_frames e m s
    rw [hframe]
    exact h.ineligible
  noneTo e' m' hm' := by
    rw [commitMove_engines] at hm'
    split_ifs at hm'
    exact h.noneTo e' m' hm'

/-- The commits with which an evacuation begins (R50, step 1). -/
theorem MayEvacuate.commits (h : MayEvacuate gone i s) (p : PoolIx) :
    MayEvacuate gone i (onMoves (fun m => m.pool = p ∧ m.source = i) commitMove s)
      ∧ Handed i s (onMoves (fun m => m.pool = p ∧ m.source = i) commitMove s)
      ∧ (onMoves (fun m => m.pool = p ∧ m.source = i) commitMove s).slots = s.slots := by
  refine onMoves_keeps (P := fun t => MayEvacuate gone i t ∧ Handed i s t ∧ t.slots = s.slots) (fun e m t ht hm hsel => ?_)
    ⟨h, fun _ _ => .inl rfl, rfl⟩
  obtain ⟨hmay, hhanded, hslots⟩ := ht
  refine ⟨hmay.commit hm, fun q b => ?_, ?_⟩
  · rw [commitMove_owner]
    split_ifs with hmoved
    · obtain ⟨rfl, rfl⟩ := hmoved
      obtain ⟨-, hsource⟩ := of_decide_eq_true hsel
      have howner := (hmay.core.move e m hm).2.1
      rw [hsource] at howner
      have helig := hmay.to_eligible hm
      rw [isEligible_of_slots hslots] at helig
      obtain ho | ⟨ho, -⟩ := hhanded m.pool m.bin
      · exact .inr ⟨ho.symm.trans howner, _, helig, rfl⟩
      · exact .inr ⟨ho, _, helig, rfl⟩
    · exact hhanded q b
  · obtain ⟨_, _, _, _, hframe⟩ := commitMove_frames e m t
    rw [hframe]
    exact hslots

/-- The aborts that follow find no move (R50, step 2). -/
theorem onMoves_none {sel : MoveRecord → Bool} {f : EngineIx → MoveRecord → State → State}
    (h : ∀ e m, s.engines.get e = some m → sel m = false) : onMoves sel f s = s := by
  rw [onMoves_eq]
  refine forEach_keeps (P := fun t => t = s) (fun e t ht => ?_) _ s rfl
  subst ht
  unfold moveStep
  cases hm : t.engines.get e with
  | none => rfl
  | some m => simp [Option.filter, h e m hm]

theorem MayEvacuate.noneFrom (h : MayEvacuate gone i s) (hp : (s.slots.get i).pool = some p) (e : EngineIx) (m : MoveRecord)
    (hm : (onMoves (fun m => m.pool = p ∧ m.source = i) commitMove s).engines.get e = some m) : m.source ≠ i := by
  rw [onMoves_engines commitMove_engines, Option.filter_eq_some_iff] at hm
  obtain ⟨hm, hsel⟩ := hm
  intro hsource
  obtain ⟨-, howner, -⟩ := h.core.move e m hm
  obtain ⟨-, hmember, -⟩ := h.core.owned _ _ _ (hsource ▸ howner)
  have hpool : m.pool = p := Option.some.inj ((isMember_iff.mp hmember).symm.trans hp)
  simp [hpool, hsource] at hsel

/-! The bins that are left (R50, steps 3 and 4). -/

theorem disownBins_pool (p : PoolIx) (i : SlotIx) (s : State) (b : BinIx) :
    ((disownBins p i s).pools.get p).bins.get b
      = if ((s.pools.get p).bins.get b).owner = .owned i then { (s.pools.get p).bins.get b with owner := .unowned }
        else (s.pools.get p).bins.get b := by
  rw [disownBins, State.updPool_pools, Table.get_modify_self, Table.get_tab]

theorem disownBins_tables (p : PoolIx) (i : SlotIx) (s : State) :
    ((disownBins p i s).pools.get p).tables = (s.pools.get p).tables := by
  rw [disownBins, State.updPool_pools, Table.get_modify_self]
  rfl

/-- A slot's bins at rest become UNOWNED (R50, R51). -/
theorem disownBins_regiven (h : ∀ b, ((s.pools.get p).bins.get b).owner = .owned i →
    ((s.pools.get p).bins.get b).engine = none) : Regiven p s (disownBins p i s) := by
  obtain ⟨henabled, hwidth, -⟩ := tables_iff.mp (disownBins_tables p i s)
  refine ⟨rfl, rfl, fun q hq => Table.get_modify_of_ne _ hq _, henabled, hwidth, fun b => ?_, fun b hb => ?_, fun b j ho => ?_⟩
  · rw [disownBins_pool]
    split <;> rfl
  · rw [disownBins_pool, if_neg fun ho => hb (h b ho)]
  · rw [disownBins_pool] at ho
    split_ifs at ho
    exact .inl ho

/-- What giving an evacuated slot's bins away leaves. -/
structure GivenAway (p : PoolIx) (i : SlotIx) (s t : State) : Prop where
  regiven : Regiven p s t
  tables : (t.pools.get p).tables = (s.pools.get p).tables
  given : ∀ b, ((s.pools.get p).bins.get b).owner = .owned i →
    (∃ j, isEligible s p j = true ∧ ((t.pools.get p).bins.get b).owner = .owned j)
      ∨ (∀ j, isEligible s p j = false) ∧ ((t.pools.get p).bins.get b).owner = .unowned
  kept : ∀ b, ((s.pools.get p).bins.get b).owner ≠ .owned i →
    ((t.pools.get p).bins.get b).owner = ((s.pools.get p).bins.get b).owner

theorem MayEvacuate.at_rest (h : MayEvacuate gone i s) (hfrom : ∀ e m, s.engines.get e = some m → m.source ≠ i)
    (ho : ((s.pools.get p).bins.get b).owner = .owned i) : ((s.pools.get p).bins.get b).engine = none := by
  cases he : ((s.pools.get p).bins.get b).engine with
  | none => rfl
  | some e =>
    obtain ⟨m, hm, rfl, rfl⟩ := h.core.bin p b e he
    obtain ⟨-, howner, -⟩ := h.core.move e m hm
    exact absurd (Owner.owned.inj (howner.symm.trans ho)) (hfrom e m hm)

theorem mem_ownedBins : b ∈ ownedBins s p i ↔ ((s.pools.get p).bins.get b).owner = .owned i := by
  rw [ownedBins, mem_binsWhere, decide_eq_true_eq]

theorem MayEvacuate.givenAway (h : MayEvacuate gone i s) (henabled : (s.pools.get p).enabled = true)
    (hfrom : ∀ e m, s.engines.get e = some m → m.source ≠ i) : GivenAway p i s (giveAway p i s) := by
  unfold giveAway
  split
  · next hnone =>
    rw [eligibleMembers_isEmpty] at hnone
    refine ⟨disownBins_regiven fun b ho => h.at_rest hfrom ho, disownBins_tables p i s, fun b ho => .inr ⟨hnone, ?_⟩,
      fun b ho => ?_⟩
    · rw [disownBins_pool, if_pos ho]
    · rw [disownBins_pool, if_neg ho]
  · next hsome =>
    rw [eligibleMembers_isEmpty, not_forall] at hsome
    obtain ⟨j, hj⟩ := hsome
    rw [Bool.not_eq_false] at hj
    have hfree : ∀ g ∈ (ownedBins s p i).zip (receivers s p), ((s.pools.get p).bins.get g.1).engine = none :=
      fun g hg => h.at_rest hfrom (mem_ownedBins.mp (List.of_mem_zip hg).1)
    have howner := giveBins_owner p ((ownedBins s p i).zip (receivers s p)) s
    refine ⟨giveBins_regiven henabled hfree fun g hg => mem_receivers (List.of_mem_zip hg).2, giveBins_tables p _ s,
      fun b ho => ?_, fun b ho => ?_⟩
    · obtain ⟨k, hk, ho'⟩ | ⟨hnot, -⟩ := howner b
      · exact .inl ⟨k, mem_receivers (List.of_mem_zip hk).2, ho'⟩
      · refine absurd ?_ hnot
        rw [map_fst_zip_eq_take, List.take_of_length_le]
        · exact mem_ownedBins.mpr ho
        · rw [ownedBins, ← List.toFinset_card_of_nodup (binsWhere_nodup s p _)]
          refine receivers_suffice h.core hj ((h.current p).targets henabled) fun c hc k hk => ?_
          have hc' := mem_ownedBins.mp (List.mem_toFinset.mp hc)
          rw [countedFor, h.at_rest hfrom hc', Option.elim_none, hc', Owner.slot?_eq_some] at hk
          rw [← Owner.owned.inj hk, isEligible, h.ineligible, Bool.and_false]
    · obtain ⟨k, hk, -⟩ | ⟨-, ho'⟩ := howner b
      · exact absurd (mem_ownedBins.mp (List.of_mem_zip hk).1) ho
      · exact ho'

section
variable (h : MayEvacuate gone i s) (hp : (s.slots.get i).pool = some p) (henabled : (s.pools.get p).enabled = true)
  (hgiven : GivenAway p i s t)
include h hp hgiven

theorem GivenAway.none : OwnsNone i t := fun q b ho => by
  obtain rfl | hq := eq_or_ne q p
  · by_cases hi : ((s.pools.get q).bins.get b).owner = .owned i
    · obtain ⟨j, hj, ho'⟩ | ⟨-, ho'⟩ := hgiven.given b hi
      · rw [Owner.owned.inj (ho'.symm.trans ho), isEligible, h.ineligible, Bool.and_false] at hj
        exact Bool.false_ne_true hj
      · cases ho'.symm.trans ho
    · exact hi ((hgiven.kept b hi).symm.trans ho)
  · rw [hgiven.regiven.others q hq] at ho
    exact hq (Option.some.inj ((isMember_iff.mp (h.core.owned q b i ho).2.1).symm.trans hp))

include henabled

theorem GivenAway.core : BinCore nobody t := by
  have hcore : BinCore gone t := hgiven.regiven.core h.core fun b j ho _ => by
    rw [windowOpen, (tables_iff.mp hgiven.tables).2.2.2.2]
    by_cases hi : ((s.pools.get p).bins.get b).owner = .owned i
    · obtain ⟨k, -, ho'⟩ | ⟨-, ho'⟩ := hgiven.given b hi <;> cases ho'.symm.trans ho
    · exact h.core.stale p b j ((hgiven.kept b hi).symm.trans ho) henabled
  refine hcore.settle (fun j hj => .inr (h.out j hj ▸ hgiven.none h hp)) fun e m hm hgone => ?_
  rw [hgiven.regiven.engines] at hm
  exact h.noneTo e m hm (h.out _ hgone)

omit hp in
theorem GivenAway.noneLeft : NoneLeft t p := fun b ho _ => by
  have hdark : isDark t p = true ↔ ∀ j, isEligible s p j = false := by
    rw [isDark, hgiven.regiven.enabled, henabled, Bool.true_and, eligibleMembers_isEmpty]
    simp only [isEligible_of_slots hgiven.regiven.slots]
  rw [hdark, windowOpen, (tables_iff.mp hgiven.tables).2.2.2.2]
  by_cases hi : ((s.pools.get p).bins.get b).owner = .owned i
  · obtain ⟨k, -, ho'⟩ | ⟨hnone, -⟩ := hgiven.given b hi
    · cases ho'.symm.trans ho
    · exact .inl hnone
  · obtain hdark | hopen := (h.current p).none b ((hgiven.kept b hi).symm.trans ho) henabled
    · rw [isDark, henabled, Bool.true_and, eligibleMembers_isEmpty] at hdark
      exact .inl hdark
    · exact .inr hopen

/-- Once the plan is rebuilt, the laws hold. -/
theorem GivenAway.laws : BinLaws (rebuildPlan p t) := by
  have hplan := rebuildPlan_regiven p t
  have hpool := rebuildPlan_pool p t
  refine binLaws_iff.mpr ⟨hplan.core (hgiven.core h hp henabled) fun b j ho he => ?_, fun q => ?_⟩
  · rw [windowOpen, hpool] at *
    exact (hgiven.core h hp henabled).stale p b j ho he
  · obtain rfl | hq := eq_or_ne q p
    · refine ⟨fun _ j => ?_, rebuildPlan_fits q t, fun b ho he => ?_⟩
      · rw [hpool, eligibleWeight_of_slots (hplan.slots.trans hgiven.regiven.slots), ← (h.current q).targets henabled j]
        exact congrArg (·.get j) (tables_iff.mp hgiven.tables).2.2.1
      · rw [hpool] at ho
        rw [isDark, windowOpen, hpool]
        exact hgiven.noneLeft h henabled b ho (hplan.enabled ▸ he)
    · exact hplan.current hq (hgiven.regiven.current hq (h.current q))

end

/-- What an evacuation leaves (R50). -/
structure Evacuated (i : SlotIx) (s t : State) : Prop where
  laws : BinLaws t
  none : OwnsNone i t
  given : ∀ q b, ((s.pools.get q).bins.get b).owner = .owned i →
    (∃ j, isEligible s q j = true ∧ ((t.pools.get q).bins.get b).owner = .owned j)
      ∨ (∀ j, isEligible s q j = false) ∧ ((t.pools.get q).bins.get b).owner = .unowned
  kept : ∀ q b, ((s.pools.get q).bins.get b).owner ≠ .owned i →
    ((t.pools.get q).bins.get b).owner = ((s.pools.get q).bins.get b).owner

theorem evacuate_stand (hp : (s.slots.get i).pool = some p) (hnoneTo : NoneTo i s) :
    BinsStand (rebuildPlan p (giveAway p i (onMoves (fun m => m.pool = p ∧ m.source = i) commitMove s))) (evacuate i s) := by
  have haborts : onMoves (fun m => m.pool = p ∧ m.destination = i) abortMove
      (onMoves (fun m => m.pool = p ∧ m.source = i) commitMove s)
      = onMoves (fun m => m.pool = p ∧ m.source = i) commitMove s := onMoves_none fun e m hm => by
    rw [onMoves_engines commitMove_engines, Option.filter_eq_some_iff] at hm
    simp [hnoneTo e m hm.1]
  rw [evacuate, hp]
  dsimp only
  rw [haborts]
  exact forEach_stand reportHoldings_stand _ _

theorem rebuildPlan_owner (p q : PoolIx) (s : State) (b : BinIx) :
    (((rebuildPlan p s).pools.get q).bins.get b).owner = ((s.pools.get q).bins.get b).owner := by
  rw [rebuildPlan, State.updPool_pools, Table.get_modify]
  split
  · next h => rw [h]
  · rfl

theorem MayEvacuate.evacuated (h : MayEvacuate gone i s) (hp : (s.slots.get i).pool = some p)
    (henabled : (s.pools.get p).enabled = true) : Evacuated i s (evacuate i s) := by
  obtain ⟨hmay, hhanded, hslots⟩ := h.commits p
  have henabled' : ((onMoves (fun m => m.pool = p ∧ m.source = i) commitMove s).pools.get p).enabled = true := by
    rw [(onMoves_follows (fun e m s => commitMove_follows e m s) s).pools p]
    exact henabled
  have hgiven := hmay.givenAway henabled' (h.noneFrom hp)
  have hstand := evacuate_stand hp h.noneTo
  have helig := isEligible_of_slots hslots
  have hp' := hslots.symm ▸ hp
  generalize onMoves (fun m => m.pool = p ∧ m.source = i) commitMove s = v at *
  refine ⟨hstand.laws (hgiven.laws hmay hp' henabled'), fun q b => ?_, fun q b ho => ?_, fun q b ho => ?_⟩ <;>
    rw [hstand.owner, rebuildPlan_owner]
  · exact hgiven.none hmay hp' q b
  · obtain rfl : q = p := Option.some.inj ((isMember_iff.mp (h.core.owned q b i ho).2.1).symm.trans hp)
    simp only [← helig]
    obtain ho' | ⟨-, j, hj, ho'⟩ := hhanded q b
    · exact hgiven.given b (ho'.trans ho)
    · have hne : j ≠ i := by
        rintro rfl
        exact Bool.false_ne_true (h.ineligible.symm.trans (isEligible_iff.mp hj).2)
      refine .inl ⟨j, (helig q j).trans hj, ?_⟩
      rw [hgiven.kept b (by rw [ho']; exact fun h' => hne (Owner.owned.inj h')), ho']
  · have ho' := (hhanded q b).resolve_right fun h' => ho h'.1
    obtain rfl | hq := eq_or_ne q p
    · exact (hgiven.kept b (ho'.symm ▸ ho)).trans ho'
    · rw [hgiven.regiven.others q hq]
      exact ho'

end Sys2Proof.Machine
end

section
/-! SUPPORT. Departures, retirements and admissions keep the laws of bins, moves and targets (R7, R13, R15, R36, R48–R51). -/

namespace Sys2Proof.Machine

variable {s t u : State} {gone : SlotIx → Prop} {p q : PoolIx} {i j : SlotIx} {b : BinIx} {e : EngineIx} {m : MoveRecord}

theorem SlotState.not_eligible {x : SlotState} (h : x.holding = false) : x.eligible = false :=
  Bool.eq_false_iff.mpr fun he => Bool.false_ne_true (h.symm.trans (holding_of_eligible he))

theorem isEligible_false (h : (s.slots.get i).state.eligible = false) (p : PoolIx) : isEligible s p i = false := by
  rw [isEligible, h, Bool.and_false]

/-- A slot that is not a holding member owns nothing (R36). -/
theorem BinLaws.ownsNone (hs : BinLaws s) (h : (s.slots.get i).state.holding = false) : OwnsNone i s := fun p b ho =>
  Bool.false_ne_true (h.symm.trans (isHolding_iff.mp (hs.owned p b i ho).2).2)

theorem BinLaws.noneTo (hs : BinLaws s) (h : (s.slots.get i).state.eligible = false) : NoneTo i s := fun e m hm hi =>
  Bool.false_ne_true ((isEligible_false h m.pool).symm.trans (hi ▸ (hs.moves.move e m hm).2.2.1))

/-- A change of slot `i`'s membership that no pool notices. -/
theorem BinLaws.shift (hs : BinLaws s) (h : RolesBut i s t) (hweight : 1 ≤ (t.slots.get i).weight)
    (hholding : (t.slots.get i).state.holding = true → ∃ p, (t.slots.get i).pool = some p ∧ (s.pools.get p).enabled = true)
    (hconfirming : (t.slots.get i).state = .retiring .confirming → (s.slots.get i).state = .retiring .confirming)
    (hmember : (s.slots.get i).state.holding = true → (t.slots.get i).pool = (s.slots.get i).pool)
    (howns : (s.slots.get i).state.holding = true → (t.slots.get i).state.holding = true ∨ OwnsNone i s)
    (heligible : ∀ q, isEligible t q i = isEligible s q i)
    (hstate : (s.slots.get i).state.eligible = true → (t.slots.get i).state.eligible = true)
    (hsame : (t.slots.get i).state.eligible = true → (t.slots.get i).weight = (s.slots.get i).weight) : BinLaws t :=
  binLaws_iff.mpr ⟨hs.core.shift h hweight hholding hconfirming hmember (fun hh => (howns hh).imp_right .inr)
    fun hh => .inl (hstate hh), fun q => (hs.current q).shift h (heligible q) fun ht => hsame (isEligible_iff.mp ht).2⟩

/-- A slot that holds nothing takes a state that holds nothing. -/
theorem BinLaws.shift_out (hs : BinLaws s) (h : RolesBut i s t) (hweight : 1 ≤ (t.slots.get i).weight)
    (hpool : (s.slots.get i).state.holding = true → (t.slots.get i).pool = (s.slots.get i).pool)
    (hnew : (t.slots.get i).state.holding = false) (hold : (s.slots.get i).state.eligible = false) (hnone : OwnsNone i s) :
    BinLaws t := by
  have hnew' := SlotState.not_eligible hnew
  refine hs.shift h hweight (fun hh => ?_) (fun hc => ?_) hpool (fun _ => .inr hnone) (fun q => ?_) (fun he => ?_) fun he => ?_
  · exact absurd (hnew.symm.trans hh) Bool.false_ne_true
  · rw [hc] at hnew
    exact absurd hnew.symm Bool.false_ne_true
  · rw [isEligible_false hnew', isEligible_false hold]
  · exact absurd (hold.symm.trans he) Bool.false_ne_true
  · exact absurd (hnew'.symm.trans he) Bool.false_ne_true

/-! Departures (R7). -/

/-- Slot `i` is being taken from the state `old`, in `s`, to one that holds nothing, in `t`; its settings stand. -/
structure Leaves (i : SlotIx) (s t : State) : Prop where
  roles : RolesBut i s t
  pool : (t.slots.get i).pool = (s.slots.get i).pool
  weight : (t.slots.get i).weight = (s.slots.get i).weight
  out : (t.slots.get i).state.holding = false

theorem Leaves.ineligible (h : Leaves i s t) : (t.slots.get i).state.eligible = false := SlotState.not_eligible h.out

theorem Leaves.core (h : Leaves i s t) (hs : BinLaws s) : BinCore (· = i) t :=
  hs.core.shift h.roles (h.weight ▸ hs.weight i) (fun hh => absurd (h.out.symm.trans hh) Bool.false_ne_true)
    (fun hc => by
      have hout := h.out
      rw [hc] at hout
      exact absurd hout.symm Bool.false_ne_true) (fun _ => h.pool) (fun _ => .inr (.inl rfl)) fun _ => .inr rfl

theorem Leaves.current (h : Leaves i s t) (hs : BinLaws s) (hq : isEligible s q i = false) : PoolCurrent t q :=
  (hs.current q).shift h.roles ((isEligible_false h.ineligible q).trans hq.symm) fun ht =>
    absurd ((isEligible_false h.ineligible q).symm.trans ht) Bool.false_ne_true

/-- The loss of eligibility, if there was any to lose. -/
theorem Leaves.mayEvacuate (h : Leaves i s t) (hs : BinLaws s) (hholding : (s.slots.get i).state.holding = true) :
    MayEvacuate (· = i) i (if (s.slots.get i).state.eligible then loseEligibility i t else t) := by
  obtain ⟨p, hp, henabled⟩ := hs.holding i hholding
  split
  · next helig =>
    have henabled' : (t.pools.get p).enabled = true := h.roles.pools ▸ henabled
    have hlost := loseEligibility_loses (h.core hs) (h.pool.trans hp) henabled' fun q hq => h.current hs (by
      rw [isEligible, isMember, hp, decide_eq_false fun hc => hq (Option.some.inj hc).symm, Bool.false_and])
    refine ⟨loseEligibility_core i (h.core hs), hlost.current, fun j hj => hj, ?_, hlost.noneTo⟩
    obtain ⟨-, -, helig', -⟩ := role_iff.mp ((loseEligibility_follows i t).slots i).role
    exact helig'.trans h.ineligible
  · next helig =>
    have hold := Bool.eq_false_iff.mpr helig
    refine ⟨h.core hs, fun q => h.current hs (isEligible_false hold q), fun j hj => hj, h.ineligible, fun e m hm => ?_⟩
    rw [h.roles.engines] at hm
    exact hs.noneTo hold e m hm

theorem slotHolds_eq_false : slotHolds s i = false ↔ slotHeld s i = 0 ∧ inActiveMove s i = false := by
  simp [slotHolds]

theorem noneTo_of_inActiveMove (h : inActiveMove s i = false) : NoneTo i s := fun e m hm hi => by
  rw [inActiveMove, List.any_eq_false] at h
  have he := h e (List.mem_finRange e)
  simp [hm, hi] at he

/-- The departure up to its flushes (R7). -/
theorem Leaves.evacuates (h : Leaves i s t) (hs : BinLaws s) (hholding : (s.slots.get i).state.holding = true)
    {v : State} (hv : v = if (s.slots.get i).state.eligible then loseEligibility i t else t) :
    BinLaws (if slotHolds v i then evacuate i v else v) ∧ OwnsNone i (if slotHolds v i then evacuate i v else v) := by
  have hmay := hv ▸ h.mayEvacuate hs hholding
  obtain ⟨p, hp, henabled⟩ := hs.holding i hholding
  have hfollows : Follows t v := hv ▸ .ite (fun _ => loseEligibility_follows i t) fun _ => .refl t
  split
  · have hp' : (v.slots.get i).pool = some p := ((hfollows.slots i).settings.1.trans h.pool).trans hp
    have henabled' : (v.pools.get p).enabled = true := by
      rw [hfollows.pools p, h.roles.pools]
      exact henabled
    have hevac := hmay.evacuated hp' henabled'
    exact ⟨hevac.laws, hevac.none⟩
  · next hholds =>
    obtain ⟨hheld, hmove⟩ := slotHolds_eq_false.mp (Bool.eq_false_iff.mpr hholds)
    have hnone : OwnsNone i v := hmay.core.noBins hheld
    refine ⟨binLaws_iff.mpr ⟨hmay.core.settle (fun j hj => .inr (hj ▸ hnone)) fun e m hm hi => ?_, hmay.current⟩, hnone⟩
    exact noneTo_of_inActiveMove hmove e m hm hi

/-- A departure keeps the laws and leaves its slot without a bin (R7). -/
theorem Leaves.depart (h : Leaves i s t) (hs : BinLaws s) :
    BinLaws (depart i (s.slots.get i).state t) ∧ OwnsNone i (depart i (s.slots.get i).state t) := by
  have hineligible (v : State) (hv : Follows t v) : (v.slots.get i).state.eligible = false := by
    obtain ⟨-, -, helig, -⟩ := role_iff.mp (hv.slots i).role
    exact helig.trans h.ineligible
  suffices hbefore : ∀ v, v = (if (s.slots.get i).state.eligible then loseEligibility i t else t) →
      BinLaws (if (s.slots.get i).state.holding ∧ slotHolds v i then evacuate i v else v)
        ∧ OwnsNone i (if (s.slots.get i).state.holding ∧ slotHolds v i then evacuate i v else v) by
    obtain ⟨hlaws, hnone⟩ := hbefore _ rfl
    have hfollows : Follows t (if (s.slots.get i).state.eligible then loseEligibility i t else t) :=
      .ite (fun _ => loseEligibility_follows i t) fun _ => .refl t
    have hkeeps := flushQueues_keeps i (if (s.slots.get i).state.holding ∧ slotHolds
      (if (s.slots.get i).state.eligible then loseEligibility i t else t) i
      then evacuate i (if (s.slots.get i).state.eligible then loseEligibility i t else t)
      else if (s.slots.get i).state.eligible then loseEligibility i t else t)
    exact ⟨hkeeps.laws hlaws, hkeeps.ownsNone hlaws
      (hineligible _ (hfollows.trans (.ite (fun _ => evacuate_follows i _) fun _ => .refl _))) hnone⟩
  intro v hv
  by_cases hholding : (s.slots.get i).state.holding = true
  · simp only [hholding, true_and]
    exact h.evacuates hs hholding hv
  · have hold := Bool.eq_false_iff.mpr hholding
    have helig := SlotState.not_eligible hold
    rw [if_neg fun hc => hholding hc.1, hv, if_neg fun hc => Bool.false_ne_true (helig.symm.trans hc)]
    have hnone := hs.ownsNone hold
    refine ⟨hs.shift_out h.roles (h.weight ▸ hs.weight i) (fun _ => h.pool) h.out helig hnone, fun p b => ?_⟩
    rw [h.roles.pools]
    exact hnone p b

end Sys2Proof.Machine
end

section
/-! SUPPORT. Retirements, admissions and changes of weight keep the laws of bins, moves and targets (R13–R18, R32, R36, R48). -/

namespace Sys2Proof.Machine

variable {s t u : State} {gone : SlotIx → Prop} {p q : PoolIx} {i j : SlotIx} {b : BinIx} {e : EngineIx} {m : MoveRecord}

/-- An eligible slot has entered RETIRING, phase MOVING, its settings standing. -/
structure BeginsRetiring (i : SlotIx) (s t : State) : Prop where
  roles : RolesBut i s t
  pool : (t.slots.get i).pool = (s.slots.get i).pool
  weight : (t.slots.get i).weight = (s.slots.get i).weight
  old : (s.slots.get i).state.eligible = true
  state : (t.slots.get i).state = .retiring .moving

/-- A retirement's loss of eligibility keeps the laws (R15, R49). -/
theorem BeginsRetiring.loses (h : BeginsRetiring i s t) (hs : BinLaws s) :
    BinLaws (loseEligibility i t) ∧ LosesEligibility i t (loseEligibility i t) := by
  have hholding := SlotState.holding_of_eligible h.old
  obtain ⟨p, hp, henabled⟩ := hs.holding i hholding
  have hretiring : (t.slots.get i).state.holding = true := by
    rw [h.state]
    rfl
  have hout : (t.slots.get i).state.eligible = false := by
    rw [h.state]
    rfl
  have hcore : BinCore (· = i) t := hs.core.shift h.roles (h.weight ▸ hs.weight i) (fun _ => ⟨p, h.pool.trans hp, henabled⟩)
    (fun hc => by rw [h.state] at hc; cases hc) (fun _ => h.pool) (fun _ => .inl hretiring) fun _ => .inr rfl
  have hlost := loseEligibility_loses hcore (h.pool.trans hp) (h.roles.pools ▸ henabled) fun q hq =>
    (hs.current q).shift h.roles (by
      rw [isEligible_false hout, isEligible, isMember, hp, decide_eq_false fun hc => hq (Option.some.inj hc).symm,
        Bool.false_and]) fun ht => absurd ((isEligible_false hout q).symm.trans ht) Bool.false_ne_true
  refine ⟨binLaws_iff.mpr ⟨(loseEligibility_core i hcore).settle (fun j hj => .inl ?_) fun e m hm hi =>
    hlost.noneTo e m hm hi, hlost.current⟩, hlost⟩
  subst hj
  obtain ⟨-, -, -, hhold⟩ := role_iff.mp ((loseEligibility_follows j t).slots j).role
  exact hhold.trans hretiring

/-- A dark pool's member may give up its bins (R51). -/
theorem BinLaws.disown (hs : BinLaws s) (hdark : ∀ j, isEligible s p j = false) : BinLaws (disownBins p i s) := by
  have hrest (b : BinIx) (ho : ((s.pools.get p).bins.get b).owner = .owned i) :
      ((s.pools.get p).bins.get b).engine = none := by
    cases he : ((s.pools.get p).bins.get b).engine with
    | none => rfl
    | some e =>
      obtain ⟨m, hm, rfl, rfl⟩ := hs.moves.bin p b e he
      exact absurd ((hdark _).symm.trans (hs.moves.move e m hm).2.2.1) Bool.false_ne_true
  have hregiven := disownBins_regiven hrest
  obtain ⟨henabled, -, htargets, hplan, hwindow⟩ := tables_iff.mp (disownBins_tables p i s)
  refine binLaws_iff.mpr ⟨hregiven.core hs.core fun b j ho he => ?_, fun q => ?_⟩
  · rw [windowOpen, hwindow]
    rw [disownBins_pool] at ho
    split_ifs at ho
    exact hs.stale p b j ho (henabled ▸ he)
  · obtain rfl | hq := eq_or_ne q p
    · refine ⟨fun he j => ?_, ⟨fun entry hmem => ?_, hplan ▸ hs.moves.once q⟩, fun b _ he => .inl ?_⟩
      · rw [htargets]
        exact hs.targets q j (henabled ▸ he)
      · exact absurd ((hdark _).symm.trans (hs.moves.plan q entry (hplan ▸ hmem)).2.2) Bool.false_ne_true
      · rw [isDark, he, Bool.true_and, eligibleMembers_isEmpty]
        exact hdark
    · exact hregiven.current hq (hs.current q)

theorem releaseBins_laws (hs : BinLaws s) (hdark : ∀ p, (s.slots.get i).pool = some p → ∀ j, isEligible s p j = false) :
    BinLaws (releaseBins i s) := by
  unfold releaseBins
  split
  · exact hs
  · next p hp => exact (reportHoldings_stand i _).laws (hs.disown (hdark p hp))

theorem enterRetiring_begins {flags : State → State} (hs : (s.slots.get i).state.eligible = true)
    (hf : ∀ s, BinsStand s (flags s)) (hroles : ∀ s, RolesBut i s (flags s))
    (hstate : ∀ s : State, ((flags s).slots.get i).state = (s.slots.get i).state) :
    BeginsRetiring i s ((flags (changeState i (.retiring .moving) s)).updSlot i fun r =>
      { r with deadlineTimer := if r.retireDeadline = 0 then none else some (1000 * r.retireDeadline) }) := by
  obtain ⟨hpool, hweight, -, -⟩ := role_iff.mp ((hf (changeState i (.retiring .moving) s)).roles i)
  have hself := changeState_role_self i (.retiring .moving) s
  simp only [SlotRecord.role, Prod.mk.injEq] at hself
  obtain ⟨hpool', hweight', -⟩ := hself
  refine ⟨((changeState_rolesBut i _ s).trans (hroles _)).trans (updSlot_rolesBut i _ _), ?_, ?_, hs, ?_⟩ <;>
    rw [State.updSlot_slots, Table.get_modify_self]
  · exact hpool.trans hpool'
  · exact hweight.trans hweight'
  · exact (hstate _).trans (changeState_state i _ s)

/-- A retirement keeps the laws, where its release does (R15, R16). -/
theorem enterRetiring_laws {flags release : State → State} (hs : BinLaws s) (hold : (s.slots.get i).state.eligible = true)
    (hf : ∀ s, BinsStand s (flags s)) (hroles : ∀ s, RolesBut i s (flags s))
    (hstate : ∀ s : State, ((flags s).slots.get i).state = (s.slots.get i).state)
    (hrelease : ∀ v, BinLaws v → (∀ j, j ≠ i → (v.slots.get j).role = (s.slots.get j).role)
      → (v.slots.get i).state.eligible = false → (v.slots.get i).pool = (s.slots.get i).pool → BinLaws (release v)) :
    BinLaws (enterRetiring i flags release s) := by
  have hbegins := enterRetiring_begins hold hf hroles hstate
  refine (evaluateConfirmation_stand i _).laws (hrelease _ (hbegins.loses hs).1 (fun j hj => ?_) ?_ ?_)
  · exact ((loseEligibility_follows i _).slots j).role.trans (hbegins.roles.roles j hj)
  · obtain ⟨-, -, helig, -⟩ := role_iff.mp ((loseEligibility_follows i _).slots i).role
    exact helig.trans (by rw [hbegins.state]; rfl)
  · exact ((loseEligibility_follows i _).slots i).settings.1.trans hbegins.pool

theorem isLastMember_iff : isLastMember s i = true ↔ ∃ p, (s.slots.get i).pool = some p ∧ (s.pools.get p).enabled = true
    ∧ eligibleMembers s p = [i] := by
  unfold isLastMember
  split
  · next p hp => simp [hp]
  · next hp => simp [hp]

/-- A forced last member's retirement keeps the laws (R16, R51). -/
theorem enterRetiring_release_laws (hs : BinLaws s) (hold : (s.slots.get i).state.eligible = true)
    (hlast : isLastMember s i = true) : BinLaws (enterRetiring i id (releaseBins i) s) := by
  refine enterRetiring_laws hs hold (flags := id) .refl (.refl i) (fun _ => rfl) fun v hv hothers hself hpool => ?_
  obtain ⟨p, hp, -, helig⟩ := isLastMember_iff.mp hlast
  refine releaseBins_laws hv fun q hq j => ?_
  obtain rfl : q = p := Option.some.inj ((hq.symm.trans hpool).trans hp)
  obtain rfl | hne := eq_or_ne j i
  · exact isEligible_false hself q
  · obtain ⟨hpool', -, helig', -⟩ := role_iff.mp (hothers j hne)
    rw [isEligible, isMember, hpool', helig', Bool.eq_false_iff]
    intro hj
    have hmem : j ∈ eligibleMembers s q := List.mem_filter.mpr ⟨List.mem_finRange j, hj⟩
    rw [helig, List.mem_singleton] at hmem
    exact hne hmem

/-! Admissions (R13, R48). -/

theorem adoptBins_eq (p : PoolIx) (i : SlotIx) (s : State) : ∃ timer, (adoptBins p i s).slots = s.slots
    ∧ (adoptBins p i s).engines = s.engines ∧ (∀ q, q ≠ p → (adoptBins p i s).pools.get q = s.pools.get q)
    ∧ (adoptBins p i s).pools.get p = { s.pools.get p with
        adoptionTimer := timer
        bins := Table.tab fun b => if ((s.pools.get p).bins.get b).owner = .stale i then
          { (s.pools.get p).bins.get b with owner := .owned i } else (s.pools.get p).bins.get b }
    ∧ (timer = (s.pools.get p).adoptionTimer
      ∨ timer = none ∧ ∀ b j, (((adoptBins p i s).pools.get p).bins.get b).owner ≠ .stale j)
    ∧ ((∀ b j, (((adoptBins p i s).pools.get p).bins.get b).owner ≠ .stale j) → timer = none) := by
  simp only [adoptBins]
  split
  · next h =>
    have hempty : ∀ b j, ((Table.tab fun b => if ((s.pools.get p).bins.get b).owner = .stale i then
        { (s.pools.get p).bins.get b with owner := .owned i } else (s.pools.get p).bins.get b).get b : BinRecord).owner
          ≠ .stale j := by
      intro b j ho
      rw [List.isEmpty_iff, binsWhere, List.filter_eq_nil_iff] at h
      have hb := h b (List.mem_finRange b)
      simp only [State.updPool_pools, Table.get_modify_self, ho] at hb
      exact hb trivial
    refine ⟨none, rfl, rfl, fun q hq => ?_, ?_, .inr ⟨rfl, ?_⟩, fun _ => rfl⟩
    · simp only [State.updPool_pools, Table.get_modify_of_ne _ hq]
    · simp only [State.updPool_pools, Table.get_modify_self]
    · simpa only [State.updPool_pools, Table.get_modify_self] using hempty
  · next h =>
    refine ⟨(s.pools.get p).adoptionTimer, rfl, rfl, fun q hq => ?_, ?_, .inl rfl, fun hnone => absurd ?_ h⟩
    · simp only [State.updPool_pools, Table.get_modify_of_ne _ hq]
    · simp only [State.updPool_pools, Table.get_modify_self]
    · rw [List.isEmpty_iff, binsWhere, List.filter_eq_nil_iff]
      intro b _
      split
      · next j ho => exact absurd ho (hnone b j)
      all_goals exact Bool.false_ne_true

/-- The stale bins of an eligible member return to it (R48). -/
theorem adoptBins_core (hs : BinCore gone s) (helig : isEligible s p i = true) (henabled : (s.pools.get p).enabled = true) :
    BinCore gone (adoptBins p i s) ∧ ∀ q, q ≠ p → PoolCurrent s q → PoolCurrent (adoptBins p i s) q := by
  obtain ⟨timer, hslots, hengines, hothers, hpool, htimer, -⟩ := adoptBins_eq p i s
  obtain ⟨hmember, helig⟩ := isEligible_iff.mp helig
  have hregiven : Regiven p s (adoptBins p i s) := by
    refine ⟨hslots, hengines, hothers, ?_, ?_, fun b => ?_, fun b hb => ?_, fun b j ho => ?_⟩ <;> rw [hpool] at *
    · rw [Table.get_tab]
      split <;> rfl
    · rw [Table.get_tab, if_neg]
      intro ho
      exact hb (hs.engine_none fun k hk => by rw [ho] at hk; cases hk)
    · rw [Table.get_tab] at ho
      split_ifs at ho
      · obtain rfl := Owner.owned.inj ho
        exact .inr ⟨henabled, hmember, helig⟩
      · exact .inl ho
  refine ⟨hregiven.core hs fun b j ho he => ?_, fun q hq hcurrent => hregiven.current hq hcurrent⟩
  obtain htimer | ⟨-, hnone⟩ := htimer
  · rw [windowOpen, hpool, htimer]
    rw [hpool] at ho
    dsimp only at ho
    rw [Table.get_tab] at ho
    split_ifs at ho
    exact hs.stale p b j ho henabled
  · exact absurd ho (hnone b j)

theorem gainEligibility_eq (hp : (s.slots.get i).pool = some p) (henabled : (s.pools.get p).enabled = true) :
    gainEligibility i s = recompute p (if windowOpen s p then adoptBins p i s else s) := by
  rw [gainEligibility, hp]
  exact if_pos henabled

/-- Slot `i`, which was not eligible in `s`, is a member of the enabled pool `p` in `t`, about to be admitted. -/
structure MayAdmit (i : SlotIx) (p : PoolIx) (s t : State) : Prop where
  roles : RolesBut i s t
  pool : (t.slots.get i).pool = some p
  enabled : (s.pools.get p).enabled = true
  weight : 1 ≤ (t.slots.get i).weight
  own : (s.slots.get i).state.holding = true → (s.slots.get i).pool = some p
  old : (s.slots.get i).state.eligible = false

/-- The change of an admission, before the recomputation it brings. -/
theorem MayAdmit.begins (h : MayAdmit i p s t) (hs : BinLaws s) (hu : RolesBut i t u)
    (hrole : (u.slots.get i).role = ((t.slots.get i).pool, (t.slots.get i).weight, true, true)) :
    BinCore nobody u ∧ (∀ q, q ≠ p → PoolCurrent u q) ∧ isEligible u p i = true ∧ (u.pools.get p).enabled = true := by
  simp only [SlotRecord.role, Prod.mk.injEq] at hrole
  obtain ⟨hpool, hweight, helig, hhold⟩ := hrole
  have hroles := h.roles.trans hu
  refine ⟨hs.core.shift hroles (hweight ▸ h.weight) (fun _ => ⟨p, hpool.trans h.pool, h.enabled⟩) (fun hc => ?_)
    (fun hh => ?_) (fun _ => .inl hhold) fun _ => .inl helig, fun q hq => ?_, ?_, hroles.pools ▸ h.enabled⟩
  · rw [hc] at helig
    exact absurd helig Bool.false_ne_true
  · exact (hpool.trans h.pool).trans (h.own hh).symm
  · have hnot : isEligible u q i = false := by
      rw [isEligible, isMember, hpool, h.pool, decide_eq_false fun hc => hq (Option.some.inj hc).symm, Bool.false_and]
    exact (hs.current q).shift hroles (hnot.trans (isEligible_false h.old q).symm) fun ht =>
      absurd (hnot.symm.trans ht) Bool.false_ne_true
  · exact isEligible_iff.mpr ⟨isMember_iff.mpr (hpool.trans h.pool), helig⟩

/-- An admission keeps the laws (R13, R48). -/
theorem MayAdmit.laws (h : MayAdmit i p s t) (hs : BinLaws s) : BinLaws (admitToPool i t) := by
  have hchange := changeState_rolesBut i .admitting t
  have hask := (askControl_links i .admitNotice (changeState i .admitting t)).rolesBut i
  have hrole : ((askControl i .admitNotice (changeState i .admitting t)).slots.get i).role
      = ((t.slots.get i).pool, (t.slots.get i).weight, true, true) := by
    rw [askControl_slots]
    exact changeState_role_self i .admitting t
  obtain ⟨hcore, hcurrent, helig, henabled⟩ := h.begins hs (hchange.trans hask) hrole
  refine (evaluateAdmission_stand i _).laws ?_
  rw [gainEligibility_eq (isMember_iff.mp (isEligible_iff.mp helig).1) henabled]
  split
  · obtain ⟨hcore', hcurrent'⟩ := adoptBins_core hcore helig henabled
    have henabled' : ((adoptBins p i (askControl i .admitNotice (changeState i .admitting t))).pools.get p).enabled = true := by
      rw [(adoptBins_follows p i _).pools p]
      exact henabled
    exact recompute_laws p hcore' fun q hq => by
      obtain hq | hq := hq
      · exact hcurrent' q hq (hcurrent q hq)
      · exact absurd (hq.symm.trans henabled') Bool.false_ne_true
  · exact recompute_laws p hcore fun q hq => by
      obtain hq | hq := hq
      · exact hcurrent q hq
      · exact absurd (hq.symm.trans henabled) Bool.false_ne_true

end Sys2Proof.Machine
end

section
/-! SUPPORT. The requests and events of the pools keep the laws of bins, moves and targets (R31, R32, R38, R52–R57, R78). -/

namespace Sys2Proof.Machine

variable {s t u : State} {gone : SlotIx → Prop} {p q : PoolIx} {i j : SlotIx} {b : BinIx} {e : EngineIx} {m : MoveRecord}

theorem writeWeight_laws {w : Nat} (hs : BinLaws s) (hw : 1 ≤ w) : BinLaws (writeWeight i w s) := by
  have hget : (s.updSlot i fun r => { r with weight := w }).slots.get i = { s.slots.get i with weight := w } :=
    Table.get_modify_self _ _ _
  have hroles : RolesBut i s (s.updSlot i fun r => { r with weight := w }) := updSlot_rolesBut i _ s
  have helig (q : PoolIx) : isEligible (s.updSlot i fun r => { r with weight := w }) q i = isEligible s q i := by
    rw [isEligible, isEligible, isMember, isMember, hget]
  have hcore : BinCore nobody (s.updSlot i fun r => { r with weight := w }) :=
    hs.core.shift hroles (by rw [hget]; exact hw) (by rw [hget]; exact hs.holding i) (by rw [hget]; exact id)
      (fun _ => by rw [hget]) (fun hh => .inl (by rw [hget]; exact hh)) fun hh => .inl (by rw [hget]; exact hh)
  unfold writeWeight
  dsimp only
  split
  · next hstate =>
    refine (evaluateAdmission_stand i _).laws ?_
    obtain ⟨p, hp, henabled⟩ := hs.holding i (SlotState.holding_of_eligible hstate)
    have hrecompute : recomputeOf i (s.updSlot i fun r => { r with weight := w })
        = recompute p (s.updSlot i fun r => { r with weight := w }) := by
      rw [recomputeOf, hget]
      dsimp only
      rw [hp]
    rw [hrecompute]
    refine recompute_laws p hcore fun q hq => ?_
    obtain hq | hq := hq
    · refine (hs.current q).shift hroles (helig q) fun ht => absurd ?_ hq
      rw [helig, isEligible_iff, isMember_iff, hp] at ht
      exact (Option.some.inj ht.1).symm
    · exact absurd (hq.symm.trans henabled) Bool.false_ne_true
  · next hstate =>
    refine binLaws_iff.mpr ⟨hcore, fun q => (hs.current q).shift hroles (helig q) fun ht => absurd ht ?_⟩
    rw [helig, isEligible_false (Bool.eq_false_iff.mpr hstate)]
    exact Bool.false_ne_true

/-- SET_POLICY moves no holding member to another pool (R31). -/
theorem setPolicy_laws (hs : BinLaws s) {clear set toggle : Byte} {pool : Option (Option PoolIx)} {cls : Option Nat}
    {deadline : Option Byte} {mode : Option RateMode} {quota : Option Byte}
    (hpool : (s.slots.get i).state.holding = true → carried (s.slots.get i).pool pool = (s.slots.get i).pool) :
    BinLaws (s.updSlot i fun r => r.withPolicy clear set toggle pool cls deadline mode quota) := by
  have hget : (s.updSlot i fun r => r.withPolicy clear set toggle pool cls deadline mode quota).slots.get i
      = (s.slots.get i).withPolicy clear set toggle pool cls deadline mode quota := Table.get_modify_self _ _ _
  have hroles : RolesBut i s (s.updSlot i fun r => r.withPolicy clear set toggle pool cls deadline mode quota) :=
    updSlot_rolesBut i _ s
  refine hs.shift hroles ?_ (fun hh => ?_) (fun hc => ?_) (fun hh => ?_) (fun hh => ?_) (fun q => ?_) (fun he => ?_) fun _ => ?_
  · rw [hget]
    exact hs.weight i
  · rw [hget] at hh ⊢
    obtain ⟨p, hp, henabled⟩ := hs.holding i hh
    exact ⟨p, (hpool hh).trans hp, henabled⟩
  · rwa [hget] at hc
  · rw [hget]
    exact hpool hh
  · rw [hget]
    exact .inl hh
  · by_cases he : (s.slots.get i).state.eligible = true
    · rw [isEligible, isEligible, isMember, isMember, hget]
      show (decide (carried (s.slots.get i).pool pool = some q) && _) = _
      rw [hpool (SlotState.holding_of_eligible he)]
      rfl
    · have hout := Bool.eq_false_iff.mpr he
      rw [isEligible_false hout, isEligible_false (by rw [hget]; exact hout)]
  · rwa [hget]
  · rw [hget]
    rfl

/-! One pool's record. -/

/-- What one pool's record changes: the laws follow from those of that pool. -/
theorem BinLaws.updPool {f : PoolRecord → PoolRecord} (hs : BinLaws s) (hregiven : Regiven p s (s.updPool p f))
    (hstale : ∀ b i, ((f (s.pools.get p)).bins.get b).owner = .stale i → (f (s.pools.get p)).enabled = true →
      (f (s.pools.get p)).adoptionTimer.isSome = true)
    (hcurrent : PoolCurrent (s.updPool p f) p) : BinLaws (s.updPool p f) := by
  have hpool : (s.updPool p f).pools.get p = f (s.pools.get p) := Table.get_modify_self _ _ _
  refine binLaws_iff.mpr ⟨hregiven.core hs.core fun b i ho he => ?_, fun q => ?_⟩
  · rw [windowOpen, hpool] at *
    exact hstale b i ho he
  · obtain rfl | hq := eq_or_ne q p
    · exact hcurrent
    · exact hregiven.current hq (hs.current q)

/-- POOL_SET writes no width below the active moves (R38). -/
theorem poolSet_laws (hs : BinLaws s) {salt : Option Byte} {ramp : Option (BitVec 16)} {settle drain width adoption : Option Byte}
    (hwidth : poolSetRefused s p salt width = false) :
    BinLaws (s.updPool p fun r => r.withSettings salt ramp settle drain width adoption) := by
  have hmoves : activeMoves s p ≤ carried (s.pools.get p).width (width.map fun b => clampTo 1 4 b.toNat) := by
    cases width with
    | none => exact hs.moves.width p
    | some b =>
      rw [poolSetRefused, Bool.or_eq_false_iff, decide_eq_false_iff_not, Nat.not_lt] at hwidth
      exact hwidth.2
  have hget (q : PoolIx) : (s.updPool p fun r => r.withSettings salt ramp settle drain width adoption).pools.get q
      = if q = p then (s.pools.get p).withSettings salt ramp settle drain width adoption else s.pools.get q :=
    Table.get_modify _ _ _ _
  have hsame {α : Type} (g : PoolRecord → α) (hg : g ((s.pools.get p).withSettings salt ramp settle drain width adoption)
      = g (s.pools.get p)) (q : PoolIx) :
      g ((s.updPool p fun r => r.withSettings salt ramp settle drain width adoption).pools.get q) = g (s.pools.get q) := by
    rw [hget]
    split
    · next hq => rw [hg, hq]
    · rfl
  have henabled := hsame PoolRecord.enabled rfl
  have htargets := hsame PoolRecord.targets rfl
  have hplan := hsame PoolRecord.plan rfl
  have hbins := hsame PoolRecord.bins rfl
  have htimer := hsame PoolRecord.adoptionTimer rfl
  obtain ⟨⟨hmove, hbin, hentry, honce, hmwidth⟩, hholding, hweight, htarget, hconfirming, howned, hunowned, hstale⟩ := hs
  have hdark (q : PoolIx) : isDark (s.updPool p fun r => r.withSettings salt ramp settle drain width adoption) q
      = isDark s q := by
    rw [isDark, isDark, henabled]
    rfl
  refine ⟨⟨?_, ?_, ?_, ?_, fun q => ?_⟩, ?_, hweight, ?_, ?_, ?_, ?_, ?_⟩
  all_goals simp only [windowOpen, henabled, htargets, hplan, hbins, htimer, hdark] at *
  · exact hmove
  · exact hbin
  · exact hentry
  · exact honce
  · rw [hget]
    split
    · next hq => exact hq ▸ hmoves
    · exact hmwidth q
  · exact hholding
  · exact htarget
  · exact hconfirming
  · exact howned
  · exact hunowned
  · exact hstale

end Sys2Proof.Machine
end

section
/-! SUPPORT. Pools enabled and disabled, grants, adoption and the resets keep the laws of bins, moves and targets (R35, R52–R57,
R59, R78). -/

namespace Sys2Proof.Machine

variable {s t u : State} {gone : SlotIx → Prop} {p q : PoolIx} {i j : SlotIx} {b : BinIx} {e : EngineIx} {m : MoveRecord}

/-! A pool without owners (R52, R53). -/

/-- Pool `p` had no owned bin and has none, whatever else of its record has changed. -/
structure Ownerless (p : PoolIx) (s t : State) : Prop where
  slots : t.slots = s.slots
  engines : t.engines = s.engines
  others : ∀ q, q ≠ p → t.pools.get q = s.pools.get q
  before : ∀ b i, ((s.pools.get p).bins.get b).owner ≠ .owned i
  after : ∀ b i, ((t.pools.get p).bins.get b).owner ≠ .owned i
  free : ∀ b, ((t.pools.get p).bins.get b).engine = none
  held : ∀ i, isHolding s p i = true → (t.pools.get p).enabled = true

theorem Ownerless.core (h : Ownerless p s t) (hs : BinCore nobody s)
    (hstale : ∀ b i, ((t.pools.get p).bins.get b).owner = .stale i → (t.pools.get p).enabled = true → windowOpen t p = true) :
    BinCore nobody t := by
  have hpool (e : EngineIx) (m : MoveRecord) (hm : s.engines.get e = some m) : m.pool ≠ p := by
    rintro rfl
    exact h.before _ _ (hs.move e m hm).2.1
  refine ⟨fun e m hm => ?_, fun q b e he => ?_, fun q => ?_, fun i hi => ?_, fun i => ?_, fun i hi q b => ?_, fun q b i ho => ?_,
    fun q b i ho he => ?_⟩
  · rw [h.engines] at hm
    rw [h.others _ (hpool e m hm), isMember, h.slots]
    exact hs.move e m hm
  · obtain rfl | hq := eq_or_ne q p
    · exact absurd ((h.free b).symm.trans he) (Option.some_ne_none e).symm
    · rw [h.others q hq] at he
      rw [h.engines]
      exact hs.bin q b e he
  · have hmoves : activeMoves t q = activeMoves s q := activeMoves_congr (fun e => by rw [h.engines]) q
    rw [hmoves]
    obtain rfl | hq := eq_or_ne q p
    · have hnone : activeMoves s q = 0 := by
        rw [activeMoves, List.length_eq_zero_iff, List.filter_eq_nil_iff]
        intro e _
        unfold engineServes
        split
        · next m hm => simpa using hpool e m hm
        · exact Bool.false_ne_true
      rw [hnone]
      exact Nat.zero_le _
    · rw [h.others q hq]
      exact hs.width q
  · rw [h.slots] at hi ⊢
    obtain ⟨q, hq, henabled⟩ := hs.holding i hi
    refine ⟨q, hq, ?_⟩
    obtain rfl | hne := eq_or_ne q p
    · exact h.held i (isHolding_iff.mpr ⟨isMember_iff.mpr hq, hi⟩)
    · rwa [h.others q hne]
  · rw [h.slots]
    exact hs.weight i
  · rw [h.slots] at hi
    obtain rfl | hq := eq_or_ne q p
    · exact h.after b i
    · rw [h.others q hq]
      exact hs.confirming i hi q b
  · obtain rfl | hq := eq_or_ne q p
    · exact absurd ho (h.after b i)
    · rw [isMember, h.slots, h.others q hq] at *
      exact hs.owned q b i ho
  · obtain rfl | hq := eq_or_ne q p
    · exact hstale b i ho he
    · rw [windowOpen, h.others q hq] at *
      exact hs.stale q b i ho he

theorem Ownerless.current (h : Ownerless p s t) (hq : q ≠ p) (hs : PoolCurrent s q) : PoolCurrent t q :=
  PoolStands.current ⟨isEligible_of_slots h.slots q, fun _ _ => by rw [h.slots], by rw [h.others q hq],
    fun _ => by rw [h.others q hq]⟩ hs

theorem disablePool_laws (hs : BinLaws s) (hheld : ∀ i, isHolding s p i = false) : BinLaws (disablePool p s) := by
  unfold disablePool
  split
  · next henabled =>
    have hget : (s.updPool p fun r =>
        { r with enabled := false, adoptionTimer := none, rampTimer := none, plan := [] }).pools.get p
        = { s.pools.get p with enabled := false, adoptionTimer := none, rampTimer := none, plan := [] } :=
      Table.get_modify_self _ _ _
    have hnone (b : BinIx) (i : SlotIx) : ((s.pools.get p).bins.get b).owner ≠ .owned i := fun ho =>
      Bool.false_ne_true ((hheld i).symm.trans (hs.owned p b i ho).2)
    have hownerless : Ownerless p s (s.updPool p fun r =>
        { r with enabled := false, adoptionTimer := none, rampTimer := none, plan := [] }) := by
      refine ⟨rfl, rfl, fun q hq => Table.get_modify_of_ne _ hq _, hnone, fun b i => ?_, fun b => ?_, fun i hi => ?_⟩
      · rw [hget]
        exact hnone b i
      · rw [hget]
        exact hs.core.engine_none (hnone b)
      · exact absurd ((hheld i).symm.trans hi) Bool.false_ne_true
    refine binLaws_iff.mpr ⟨hownerless.core hs.core fun b i _ he => ?_, fun q => ?_⟩
    · rw [hget] at he
      exact absurd he Bool.false_ne_true
    · obtain rfl | hq := eq_or_ne q p
      · refine ⟨fun he => ?_, ⟨fun entry hmem => ?_, ?_⟩, fun b _ he => ?_⟩
        · rw [hget] at he
          exact absurd he Bool.false_ne_true
        · rw [hget] at hmem
          exact absurd hmem List.not_mem_nil
        · rw [hget]
          exact List.nodup_nil
        · rw [hget] at he
          exact absurd he Bool.false_ne_true
      · exact hownerless.current hq (hs.current q)
  · exact hs

/-- A bin's owner once STALE bins have become UNOWNED (R52, R54). -/
def Owner.dropped : Owner → Owner
  | .stale _ | .unowned => .unowned
  | .owned i => .owned i

theorem Owner.dropped_eq_owned {o : Owner} : o.dropped = .owned i ↔ o = .owned i := by cases o <;> simp [Owner.dropped]

theorem Owner.dropped_ne_stale (o : Owner) : o.dropped ≠ .stale i := by cases o <;> simp [Owner.dropped]

theorem Owner.dropped_of_not_stale {o : Owner} (h : ∀ i, o ≠ .stale i) : o.dropped = o := by
  cases o with
  | stale i => exact absurd rfl (h i)
  | unowned => rfl
  | owned i => rfl

theorem dropStale_bin (p : PoolIx) (s : State) (b : BinIx) : ((dropStale p s).pools.get p).bins.get b
    = { (s.pools.get p).bins.get b with owner := ((s.pools.get p).bins.get b).owner.dropped } := by
  rw [dropStale, State.updPool_pools, Table.get_modify_self, Table.get_tab]
  dsimp only
  split
  · next h =>
    rw [h]
    rfl
  all_goals
    next h => rw [Owner.dropped_of_not_stale (fun i hi => by rw [h] at hi; cases hi)]

theorem dropStale_tables (p : PoolIx) (s : State) : ((dropStale p s).pools.get p).tables = (s.pools.get p).tables := by
  rw [dropStale, State.updPool_pools, Table.get_modify_self]
  rfl

theorem dropStale_others (hq : q ≠ p) (s : State) : (dropStale p s).pools.get q = s.pools.get q := Table.get_modify_of_ne _ hq _

/-- A disabled pool owns nothing (R39). -/
theorem BinLaws.ownerless (hs : BinLaws s) (hdisabled : (s.pools.get p).enabled = false) (b : BinIx) (i : SlotIx) :
    ((s.pools.get p).bins.get b).owner ≠ .owned i := fun ho =>
  Bool.false_ne_true (hdisabled.symm.trans (hs.owned p b i ho).1)

/-- The bins of a pool being enabled (R52). -/
theorem openWindow_opens (p : PoolIx) (s : State) : (openWindow p s).slots = s.slots ∧ (openWindow p s).engines = s.engines
    ∧ (∀ q, q ≠ p → (openWindow p s).pools.get q = s.pools.get q)
    ∧ ((openWindow p s).pools.get p).enabled = (s.pools.get p).enabled
    ∧ (∀ b, (((openWindow p s).pools.get p).bins.get b).engine = ((s.pools.get p).bins.get b).engine)
    ∧ (∀ b i, (((openWindow p s).pools.get p).bins.get b).owner = .owned i → ((s.pools.get p).bins.get b).owner = .owned i)
    ∧ ∀ b i, (((openWindow p s).pools.get p).bins.get b).owner = .stale i → windowOpen (openWindow p s) p = true := by
  unfold openWindow
  dsimp only
  split
  · have hget : (s.updPool p fun r => { r with adoptionTimer := some (1000 * r.adoptionWindow) }).pools.get p
        = { s.pools.get p with adoptionTimer := some (1000 * (s.pools.get p).adoptionWindow) } := Table.get_modify_self _ _ _
    refine ⟨rfl, rfl, fun q hq => Table.get_modify_of_ne _ hq _, by rw [hget], fun b => by rw [hget], fun b i ho => ?_,
      fun b i _ => by rw [windowOpen, hget]; rfl⟩
    rwa [hget] at ho
  · refine ⟨rfl, rfl, fun q hq => dropStale_others hq s, (tables_iff.mp (dropStale_tables p s)).1, fun b => by rw [dropStale_bin],
      fun b i ho => ?_, fun b i ho => ?_⟩
    · rw [dropStale_bin] at ho
      exact Owner.dropped_eq_owned.mp ho
    · rw [dropStale_bin] at ho
      exact absurd ho (Owner.dropped_ne_stale _)

theorem enablePool_laws (p : PoolIx) (hs : BinLaws s) : BinLaws (enablePool p s) := by
  unfold enablePool
  split
  · exact hs
  · next hdisabled =>
    have hnone := hs.ownerless (p := p) (Bool.eq_false_iff.mpr hdisabled)
    have hget : (s.updPool p fun r => { r with enabled := true }).pools.get p = { s.pools.get p with enabled := true } :=
      Table.get_modify_self _ _ _
    obtain ⟨hslots, hengines, hothers, henabled, hengine, howned, hstale⟩ :=
      openWindow_opens p (s.updPool p fun r => { r with enabled := true })
    have hen : ((openWindow p (s.updPool p fun r => { r with enabled := true })).pools.get p).enabled = true := by
      rw [henabled, hget]
    have hownerless : Ownerless p s (openWindow p (s.updPool p fun r => { r with enabled := true })) := by
      refine ⟨hslots, hengines, fun q hq => (hothers q hq).trans (Table.get_modify_of_ne _ hq _), hnone, fun b i ho => ?_,
        fun b => ?_, fun i hi => hen⟩
      · have ho' := howned b i ho
        rw [hget] at ho'
        exact hnone b i ho'
      · rw [hengine, hget]
        exact hs.core.engine_none (hnone b)
    refine recompute_laws p (hownerless.core hs.core fun b i ho _ => hstale b i ho) fun q hq => ?_
    obtain hq | hq := hq
    · exact hownerless.current hq (hs.current q)
    · exact absurd (hq.symm.trans hen) Bool.false_ne_true

/-- The end of the adoption window (R54). -/
theorem adoptionExpiry_laws (hs : BinLaws s) :
    BinLaws (recompute p ((dropStale p s).updPool p fun r => { r with adoptionTimer := none })) := by
  have hget : ((dropStale p s).updPool p fun r => { r with adoptionTimer := none }).pools.get p
      = { (dropStale p s).pools.get p with adoptionTimer := none } := Table.get_modify_self _ _ _
  obtain ⟨henabled, hwidth, -⟩ := tables_iff.mp (dropStale_tables p s)
  have hregiven : Regiven p s ((dropStale p s).updPool p fun r => { r with adoptionTimer := none }) := by
    refine ⟨rfl, rfl, fun q hq => (Table.get_modify_of_ne _ hq _).trans (dropStale_others hq s), by rw [hget]; exact henabled,
      by rw [hget]; exact hwidth, fun b => ?_, fun b hb => ?_, fun b i ho => .inl ?_⟩ <;> rw [hget] at *
    · rw [dropStale_bin]
    · rw [dropStale_bin]
      cases ho : ((s.pools.get p).bins.get b).owner with
      | owned i => rfl
      | unowned => rfl
      | stale i => exact absurd (hs.core.engine_none fun k => by rw [ho]; nofun) hb
    · rw [dropStale_bin] at ho
      exact Owner.dropped_eq_owned.mp ho
  refine recompute_laws p (hregiven.core hs.core fun b i ho _ => ?_) fun q hq => ?_
  · rw [hget, dropStale_bin] at ho
    exact absurd ho (Owner.dropped_ne_stale _)
  · obtain hq | hq := hq
    · exact hregiven.current hq (hs.current q)
    · obtain rfl | hne := eq_or_ne q p
      · refine ⟨fun he => absurd (hq.symm.trans he) Bool.false_ne_true, ⟨fun entry hmem => ?_, ?_⟩,
          fun b _ he => absurd (hq.symm.trans he) Bool.false_ne_true⟩
        · rw [hget] at hmem ⊢
          rw [dropStale_bin]
          obtain ⟨hfree, howner, helig⟩ := hs.moves.plan q entry ((tables_iff.mp (dropStale_tables q s)).2.2.2.1 ▸ hmem)
          exact ⟨hfree, by dsimp only; rw [howner]; rfl, helig⟩
        · rw [hget]
          exact (tables_iff.mp (dropStale_tables q s)).2.2.2.1 ▸ hs.moves.once q
      · exact hregiven.current hne (hs.current q)

end Sys2Proof.Machine
end

section
/-! SUPPORT. Grants, the restart and the resets keep the laws of bins, moves and targets (R35, R56, R57, R59, R78, R196). -/

namespace Sys2Proof.Machine

variable {s t u : State} {gone : SlotIx → Prop} {p q : PoolIx} {i j : SlotIx} {b : BinIx} {e : EngineIx} {m : MoveRecord}

/-! Grants (R56, R57). -/

theorem wantsEngine_iff : wantsEngine s p = true ↔ (s.pools.get p).enabled = true ∧ (s.pools.get p).plan ≠ []
    ∧ (s.pools.get p).rampTimer = none ∧ activeMoves s p < (s.pools.get p).width := by
  simp [wantsEngine, and_assoc]

/-- The pools and engines of a grant whose move has record `m` (R57). -/
def granted (e : EngineIx) (m : MoveRecord) (rest : List PlanEntry) (s : State) : State :=
  (({ s.updPool m.pool fun r => { r with plan := rest, rampTimer := some r.rampInterval } with arbiter := m.pool }).updBin
    m.pool m.bin fun b => { b with engine := some e }).setEngine e (some m)

theorem granted_bin (e : EngineIx) (m : MoveRecord) (rest : List PlanEntry) (s : State) (q : PoolIx) (c : BinIx) :
    (((granted e m rest s).pools.get q).bins.get c).place = if q = m.pool ∧ c = m.bin
      then (((s.pools.get q).bins.get c).owner, some e) else ((s.pools.get q).bins.get c).place := by
  rw [granted, State.setEngine_pools, get_bin_updBin]
  have hbin : (((s.updPool m.pool fun r => { r with plan := rest, rampTimer := some r.rampInterval }).pools.get q).bins.get c)
      = (s.pools.get q).bins.get c := by
    rw [State.updPool_pools, Table.get_modify]
    split
    · next h => rw [h]
    · rfl
  dsimp only
  rw [hbin]
  split <;> rfl

theorem granted_pool (e : EngineIx) (m : MoveRecord) (rest : List PlanEntry) (s : State) (q : PoolIx) :
    ((granted e m rest s).pools.get q).tables
      = if q = m.pool then { s.pools.get q with plan := rest }.tables else (s.pools.get q).tables := by
  rw [granted, State.setEngine_pools, State.updBin_pools, Table.get_modify, State.updPool_pools]
  split
  · next h =>
    subst h
    rw [Table.get_modify_self]
    rfl
  · next h => rw [Table.get_modify_of_ne _ h]

theorem granted_engines (e e' : EngineIx) (m : MoveRecord) (rest : List PlanEntry) (s : State) :
    (granted e m rest s).engines.get e' = if e' = e then some m else s.engines.get e' := Table.get_set _ _ _ _

theorem granted_activeMoves (e : EngineIx) (m : MoveRecord) (rest : List PlanEntry) (s : State) (q : PoolIx) :
    activeMoves (granted e m rest s) q ≤ activeMoves s q + if q = m.pool then 1 else 0 := by
  have hsub : (Finset.univ.filter fun e' => engineServes (granted e m rest s) q e' = true)
      ⊆ (Finset.univ.filter fun e' => engineServes s q e' = true) ∪ if q = m.pool then {e} else ∅ := by
    intro e' he'
    have hserves := (Finset.mem_filter.mp he').2
    unfold engineServes at hserves
    rw [granted_engines] at hserves
    split_ifs at hserves with h
    · rw [if_pos (of_decide_eq_true hserves).symm]
      exact Finset.mem_union_right _ (Finset.mem_singleton.mpr h)
    · exact Finset.mem_union_left _ (Finset.mem_filter.mpr ⟨Finset.mem_univ e', hserves⟩)
  have hcard := (Finset.card_le_card hsub).trans (Finset.card_union_le _ _)
  rw [activeMoves, activeMoves, ← card_filter_finRange, ← card_filter_finRange]
  refine hcard.trans (Nat.add_le_add_left ?_ _)
  split <;> simp

/-- The start of a plan's head keeps the laws (R57). -/
theorem granted_laws {rest : List PlanEntry} (hs : BinLaws s) (he : s.engines.get e = none)
    (hwants : wantsEngine s m.pool = true)
    (hplan : (s.pools.get m.pool).plan = ⟨m.bin, m.source, m.destination⟩ :: rest) : BinLaws (granted e m rest s) := by
  obtain ⟨henabled, -, -, hroom⟩ := wantsEngine_iff.mp hwants
  obtain ⟨hfree, howner, helig⟩ := hs.moves.plan m.pool ⟨m.bin, m.source, m.destination⟩ (hplan ▸ List.mem_cons_self)
  have honce := hs.moves.once m.pool
  rw [hplan, List.map_cons, List.nodup_cons] at honce
  have hplace := granted_bin e m rest s
  have htables (q : PoolIx) : ((granted e m rest s).pools.get q).enabled = (s.pools.get q).enabled
      ∧ ((granted e m rest s).pools.get q).width = (s.pools.get q).width
      ∧ ((granted e m rest s).pools.get q).targets = (s.pools.get q).targets
      ∧ ((granted e m rest s).pools.get q).plan = (if q = m.pool then rest else (s.pools.get q).plan)
      ∧ ((granted e m rest s).pools.get q).adoptionTimer.isSome = (s.pools.get q).adoptionTimer.isSome := by
    have h := granted_pool e m rest s q
    split_ifs at h ⊢ with hq <;> exact tables_iff.mp h
  have howners (q : PoolIx) (c : BinIx) :
      (((granted e m rest s).pools.get q).bins.get c).owner = ((s.pools.get q).bins.get c).owner := by
    have h := hplace q c
    split_ifs at h
    · exact (Prod.mk.inj h).1
    · exact (place_iff.mp h).1
  -- a bin that was at rest is the granted one, or keeps its place
  have hother (q : PoolIx) (c : BinIx) (hne : ¬ (q = m.pool ∧ c = m.bin)) :
      (((granted e m rest s).pools.get q).bins.get c).engine = ((s.pools.get q).bins.get c).engine := by
    have h := hplace q c
    rw [if_neg hne] at h
    exact (place_iff.mp h).2
  have hdark (q : PoolIx) : isDark (granted e m rest s) q = isDark s q := by
    rw [isDark, isDark, (htables q).1]
    rfl
  refine ⟨⟨fun e' m' hm' => ?_, fun q c e' hc => ?_, fun q entry hmem => ?_, fun q => ?_, fun q => ?_⟩, fun k hk => ?_, hs.weight,
    fun q k hq => ?_, fun k hk q c => ?_, fun q c k hc => ?_, fun q c hc hq => ?_, fun q c k hc hq => ?_⟩
  · rw [granted_engines] at hm'
    split_ifs at hm' with hee
    · obtain rfl := Option.some.inj hm'
      have h := hplace m.pool m.bin
      rw [if_pos ⟨rfl, rfl⟩] at h
      rw [howners, (htables m.pool).1, hee]
      exact ⟨(Prod.mk.inj h).2, howner, helig, henabled⟩
    · obtain ⟨hengine, hrest⟩ := hs.moves.move e' m' hm'
      rw [howners, (htables m'.pool).1, hother _ _ fun hc => ?_]
      · exact ⟨hengine, hrest⟩
      · rw [hc.1, hc.2, hfree] at hengine
        exact (Option.some_ne_none e').symm hengine
  · rw [granted_engines]
    by_cases hmoved : q = m.pool ∧ c = m.bin
    · have h := hplace q c
      rw [if_pos hmoved] at h
      rw [if_pos (Option.some.inj (hc.symm.trans (Prod.mk.inj h).2))]
      exact ⟨m, rfl, hmoved.1.symm, hmoved.2.symm⟩
    · rw [hother q c hmoved] at hc
      obtain ⟨m', hm', hrest⟩ := hs.moves.bin q c e' hc
      rw [if_neg]
      · exact ⟨m', hm', hrest⟩
      · rintro rfl
        exact (Option.some_ne_none m') (hm'.symm.trans he)
  · rw [howners, (htables q).2.2.2.1] at *
    split_ifs at hmem with hq
    · subst hq
      rw [hother _ _ fun hc => honce.1 (List.mem_map.mpr ⟨entry, hmem, hc.2⟩)]
      exact hs.moves.plan _ entry (hplan ▸ List.mem_cons_of_mem _ hmem)
    · rw [hother _ _ fun hc => hq hc.1]
      exact hs.moves.plan q entry hmem
  · rw [(htables q).2.2.2.1]
    split_ifs
    · exact honce.2
    · exact hs.moves.once q
  · rw [(htables q).2.1]
    refine (granted_activeMoves e m rest s q).trans ?_
    split_ifs with hq
    · subst hq
      exact hroom
    · exact hs.moves.width q
  · obtain ⟨q, hq, hen⟩ := hs.holding k hk
    exact ⟨q, hq, (htables q).1.trans hen⟩
  · rw [(htables q).2.2.1]
    exact hs.targets q k ((htables q).1 ▸ hq)
  · rw [howners]
    exact hs.confirming k hk q c
  · rw [(htables q).1]
    exact hs.owned q c k (howners q c ▸ hc)
  · rw [hdark, windowOpen, (htables q).2.2.2.2]
    exact hs.unowned q c (howners q c ▸ hc) ((htables q).1 ▸ hq)
  · rw [windowOpen, (htables q).2.2.2.2]
    exact hs.stale q c k (howners q c ▸ hc) ((htables q).1 ▸ hq)

/-- A grant keeps the laws (R56, R57). -/
theorem grant_laws {entry : PlanEntry} {rest : List PlanEntry} (hs : BinLaws s) (he : s.engines.get e = none)
    (hwants : wantsEngine s p = true) (hplan : (s.pools.get p).plan = entry :: rest) : BinLaws (grant e p entry rest s) := by
  have hgranted (phase : MovePhase) (timer : Nat) := granted_laws (e := e) (rest := rest)
    (m := { moveOf p (s.pools.get p) entry with phase := phase, timer := timer }) hs he hwants hplan
  rw [grant, startMove]
  split
  · exact hgranted .draining _
  · split
    · exact hgranted .settling _
    · refine (engineCommit_keeps (e := e) ?_).laws (hgranted .settling 0)
      exact Table.get_set_self _ _ _

/-! The restart and the resets. -/

theorem updAgent_stand (f : AgentRecord → AgentRecord) (s : State) : BinsStand s (s.updAgent f) := .of_eq rfl rfl rfl

theorem raiseDeviceFlag_stand (f : DeviceFlag) (s : State) : BinsStand s (raiseDeviceFlag f s) := by
  refine .ite (fun _ => .refl s) fun _ => ?_
  obtain ⟨a, ha⟩ := offerNotice_frame (deviceNotice (16 + deviceBit f))
    (s.updAgent fun a => { a with deviceFlags := a.deviceFlags ||| (1#2 <<< deviceBit f) })
  rw [ha]
  exact .of_eq rfl rfl rfl

theorem restartPart_laws (hs : BinLaws s) : BinLaws (restartPart s) := by
  have haborts : BinLaws (onMoves (fun _ => true) abortDiscard s) := by
    refine onMoves_keeps (fun e m t ht hm _ => ?_) hs
    exact binLaws_iff.mpr ⟨abortDiscard_core ht.core hm, fun q => abortDiscard_current ht.core hm (ht.current q)⟩
  have htraffic : BinLaws (restartTraffic s) :=
    (forEach_stand flushUpstream_stand _ _).laws ((forEach_keepsBins recompute_keeps _ _).laws
      ((forEach_keepsBins flushEgress_keeps _ _).laws haborts))
  exact ((updAgent_stand _ _).trans (raiseDeviceFlag_stand .restarted _)).laws htraffic

/-- No move, no owner and no member: what the resets leave (R35, R59). -/
structure BinsIdle (s : State) : Prop where
  engines : ∀ e, s.engines.get e = none
  disabled : ∀ p, (s.pools.get p).enabled = false
  plan : ∀ p, (s.pools.get p).plan = []
  free : ∀ p b, ((s.pools.get p).bins.get b).engine = none
  owner : ∀ p b i, ((s.pools.get p).bins.get b).owner ≠ .owned i
  empty : ∀ i, (s.slots.get i).state = .empty
  weight : ∀ i, 1 ≤ (s.slots.get i).weight

theorem BinsIdle.laws (h : BinsIdle s) : BinLaws s := by
  have hen {p : PoolIx} (he : (s.pools.get p).enabled = true) {P : Prop} : P :=
    absurd ((h.disabled p).symm.trans he) Bool.false_ne_true
  refine ⟨⟨fun e m hm => ?_, fun p b e he => ?_, fun p entry hmem => ?_, fun p => ?_, fun p => ?_⟩, fun i hi => ?_, h.weight,
    fun _ _ he => hen he, fun i hi => ?_, fun p b i ho => absurd ho (h.owner p b i), fun _ _ _ he => hen he,
    fun _ _ _ _ he => hen he⟩
  · exact absurd ((h.engines e).symm.trans hm) (Option.some_ne_none m).symm
  · exact absurd ((h.free p b).symm.trans he) (Option.some_ne_none e).symm
  · rw [h.plan] at hmem
    exact absurd hmem List.not_mem_nil
  · rw [h.plan]
    exact List.nodup_nil
  · have hnone : activeMoves s p = 0 := by
      rw [activeMoves, List.length_eq_zero_iff, List.filter_eq_nil_iff]
      intro e _
      simp [engineServes, h.engines]
    rw [hnone]
    exact Nat.zero_le _
  · rw [h.empty] at hi
    exact absurd hi Bool.false_ne_true
  · rw [h.empty] at hi
    cases hi

theorem reset_idle : BinsIdle State.reset where
  engines _ := Table.get_fill _ _
  disabled _ := by rw [State.reset, Table.get_fill]; rfl
  plan _ := by rw [State.reset, Table.get_fill]; rfl
  free _ _ := by rw [State.reset, Table.get_fill, PoolRecord.powerOn, Table.get_fill]
  owner _ _ _ := by rw [State.reset, Table.get_fill, PoolRecord.powerOn, Table.get_fill]; nofun
  empty _ := by rw [State.reset, Table.get_fill]; rfl
  weight _ := by rw [State.reset, Table.get_fill]; decide

theorem Owner.pinReset_ne_owned (o : Owner) : o.pinReset ≠ .owned i := by cases o <;> simp [Owner.pinReset]

theorem pinResetState_idle (hs : BinLaws s) : BinsIdle (pinResetState s) where
  engines _ := Table.get_fill _ _
  disabled _ := by rw [pinResetState, Table.get_tab]; rfl
  plan _ := by rw [pinResetState, Table.get_tab]; rfl
  free _ _ := by rw [pinResetState, Table.get_tab, PoolRecord.pinReset, Table.get_tab]
  owner _ _ _ := by
    rw [pinResetState, Table.get_tab, PoolRecord.pinReset, Table.get_tab]
    exact Owner.pinReset_ne_owned _
  empty _ := by rw [pinResetState, Table.get_tab]; rfl
  weight i := by
    rw [pinResetState, Table.get_tab]
    exact hs.weight i

end Sys2Proof.Machine
end

section
/-! SUPPORT. The lifecycle's transitions keep the laws of bins, moves and targets, and a slot that departs owns nothing (R7–R29). -/

namespace Sys2Proof.Machine

variable {s t u : State} {p q : PoolIx} {i j : SlotIx}

theorem RolesBut.of_eq (i : SlotIx) (hslots : t.slots = s.slots) (hpools : t.pools = s.pools) (hengines : t.engines = s.engines) :
    RolesBut i s t :=
  ⟨hpools, hengines, fun _ _ => by rw [hslots], fun _ _ => by rw [hslots]; exact id⟩

/-! Leaving for a state that holds nothing. -/

theorem changeState_leaves {new : SlotState} (hnew : new.holding = false) (s : State) : Leaves i s (changeState i new s) := by
  have hrole := changeState_role_self i new s
  simp only [SlotRecord.role, Prod.mk.injEq] at hrole
  obtain ⟨hpool, hweight, -, hhold⟩ := hrole
  exact ⟨changeState_rolesBut i new s, hpool, hweight, hhold.trans hnew⟩

theorem Leaves.after (h : Leaves i s t) (hroles : RolesBut i t u) (hrole : (u.slots.get i).role = (t.slots.get i).role) :
    Leaves i s u := by
  obtain ⟨hpool, hweight, -, hhold⟩ := role_iff.mp hrole
  exact ⟨h.roles.trans hroles, hpool.trans h.pool, hweight.trans h.weight, hhold.trans h.out⟩

theorem Leaves.updSlot (h : Leaves i s t) {f : SlotRecord → SlotRecord} (hf : ∀ r, (f r).role = r.role) :
    Leaves i s (t.updSlot i f) :=
  h.after (updSlot_rolesBut i f t) (by rw [State.updSlot_slots, Table.get_modify_self, hf])

theorem Leaves.raiseFlag (h : Leaves i s t) (f : SlotFlag) : Leaves i s (raiseFlag i f t) :=
  h.after (raiseFlag_rolesBut i i f t) ((raiseFlag_stand i f t).roles i)

theorem Leaves.links (h : Leaves i s t) (hl : TouchesLinks t u) : Leaves i s u :=
  h.after (hl.rolesBut i) (by rw [hl.slots_eq])

/-- A departure has kept the laws and left the slot without a bin. -/
def Departed (i : SlotIx) (s t : State) : Prop := BinLaws s → BinLaws t ∧ OwnsNone i t

theorem enterFaulted_departed (i : SlotIx) (cause : FaultCause) (s : State) : Departed i s (enterFaulted i cause s) := by
  intro hs
  have hleaves : Leaves i s ((changeState i .faulted s).updSlot i fun r => { r.stopTimers with lastFault := some cause }) :=
    (changeState_leaves rfl s).updSlot fun _ => rfl
  exact ((hleaves.raiseFlag .fault).links (linkGoDark_links i _)).depart hs

theorem enterFaulted_laws (i : SlotIx) (cause : FaultCause) (hs : BinLaws s) : BinLaws (enterFaulted i cause s) :=
  (enterFaulted_departed i cause s hs).1

theorem presenceLost_departed (h : (s.slots.get i).state ≠ .empty) : Departed i s (presenceLost i s) := by
  intro hs
  have hleaves : Leaves i s (changeState i .empty s) := changeState_leaves rfl s
  rw [presenceLost]
  dsimp only
  rw [if_neg h]
  refine Leaves.depart (Leaves.links ?_ (linkGoDark_links i _)) hs
  split
  · exact hleaves.raiseFlag _
  · exact hleaves

theorem fenceSlot_departed (i : SlotIx) (s : State) : Departed i s (fenceSlot i s) := fun hs =>
  Leaves.depart ((changeState_leaves rfl s).links (linkPark_links i _)) hs

theorem Departed.stand (h : Departed i s t) (hstand : BinsStand t u) : Departed i s u := fun hs => by
  obtain ⟨hlaws, hnone⟩ := h hs
  exact ⟨hstand.laws hlaws, fun p b => hstand.owner p b ▸ hnone p b⟩

theorem updMonitor_stand (i : SlotIx) (f : MonitorRecord → MonitorRecord) (s : State) : BinsStand s (s.updMonitor i f) :=
  .of_eq rfl rfl rfl

theorem resetSlot_departed (i : SlotIx) (s : State) : Departed i s (resetSlot i s) := by
  have hleaves : Leaves i s ((changeState i .seated s).updSlot i fun r =>
      { r.stopTimers with echoes := 0, beaconsQualified := false }) := (changeState_leaves rfl s).updSlot fun _ => rfl
  have hdeparts := fun hs => hleaves.depart hs
  rw [resetSlot]
  exact Departed.stand hdeparts ((updMonitor_stand i _ _).trans (linkTrain_links i _).binsStand)

/-! Changes of state of a slot that holds nothing. -/

theorem changeState_stand_out {new : SlotState} (hnew : new.holding = false) (hold : (s.slots.get i).state.holding = false) :
    BinsStand s (changeState i new s) :=
  changeState_stand ((SlotState.not_eligible hnew).trans (SlotState.not_eligible hold).symm) (hnew.trans hold.symm) fun hc => by
    rw [hc] at hnew
    exact absurd hnew.symm Bool.false_ne_true

theorem holding_false {x : SlotState} (h : (s.slots.get i).state = x) (hx : x.holding = false) :
    (s.slots.get i).state.holding = false := h ▸ hx

theorem seat_stand (h : (s.slots.get i).state = .empty) : BinsStand s (seat i s) := by
  refine BinsStand.trans ?_ (linkTrain_links i _).binsStand
  have hseated : BinsStand s (changeState i .seated s) := changeState_stand_out rfl (holding_false h rfl)
  exact .ite (fun _ => hseated) fun _ => hseated.trans (raiseFlag_stand i _ _)

theorem seatIfReady_stand (i : SlotIx) (s : State) : BinsStand s (seatIfReady i s) :=
  .ite (fun h => seat_stand h.1) fun _ => .refl s

theorem reseat_stand (h : (s.slots.get i).state.holding = false) : BinsStand s (reseat i s) :=
  (changeState_stand_out rfl h).trans (linkTrain_links i _).binsStand

theorem clearProgress_stand (i : SlotIx) (s : State) : BinsStand s (clearProgress i s) := .updSlot i rfl .inl

theorem beginProbing_stand (i : SlotIx) (s : State) : BinsStand s (beginProbing i s) := by
  have htimers : BinsStand s (s.updSlot i fun r =>
      { r with probeTimer := some 50, qualifyTimer := some s.agent.qualifyLimit }) := .updSlot i rfl .inl
  have hclear (u : State) : BinsStand u (monitorClear i u) := .of_eq rfl rfl rfl
  exact (htimers.trans (hclear _)).trans (forEach_stand (fun n s => askControl_stand i (.probe n) s) _ _)

theorem checkClass_laws (i : SlotIx) (hs : BinLaws s) : BinLaws (checkClass i s) := by
  rw [checkClass]
  split
  · exact ((clearProgress_stand i s).trans (beginProbing_stand i _)).laws hs
  · exact enterFaulted_laws i _ ((clearProgress_stand i s).laws hs)

theorem enterProbingFromSeated_laws (h : (s.slots.get i).state.holding = false) (hs : BinLaws s) :
    BinLaws (enterProbingFromSeated i s) :=
  checkClass_laws i ((changeState_stand_out rfl h).laws hs)

theorem enterProbingFromDrained_laws {flag : State → State} (hf : ∀ s, BinsStand s (flag s))
    (h : (s.slots.get i).state.holding = false) (hs : BinLaws s) : BinLaws (enterProbingFromDrained i flag s) :=
  checkClass_laws i ((((changeState_stand_out rfl h).trans (hf _)).trans (linkResume_links i _).binsStand).laws hs)

/-- A confirmed retirement takes the slot out of its pool: it owns nothing any more (R19). -/
theorem enterDrained_laws {flags : State → State} (hf : ∀ s, BinsStand s (flags s))
    (h : (s.slots.get i).state = .retiring .confirming) (hs : BinLaws s) : BinLaws (enterDrained i flags s) := by
  have hleaves : Leaves i s (changeState i .drained s) := changeState_leaves rfl s
  refine ((hf _).trans (linkPark_links i _).binsStand).laws (hs.shift_out hleaves.roles (hleaves.weight ▸ hs.weight i)
    (fun _ => hleaves.pool) hleaves.out ?_ (hs.confirming i h))
  rw [h]
  rfl

/-! Qualification (R9–R11). -/

theorem MayAdmit.of_auto (hs : BinLaws s) (h : (s.slots.get i).state.eligible = false) (hp : (s.slots.get i).pool = some p)
    (henabled : (s.pools.get p).enabled = true) : MayAdmit i p s s :=
  ⟨.refl i s, hp, henabled, hs.weight i, fun _ => hp, h⟩

theorem completeQualification_laws (h : (s.slots.get i).state.holding = false) (hs : BinLaws s) :
    BinLaws (completeQualification i s) := by
  unfold completeQualification
  split
  · next hauto =>
    rw [autoAdmits, Bool.and_eq_true] at hauto
    obtain ⟨-, hpool⟩ := hauto
    split at hpool
    · next p hp => exact (MayAdmit.of_auto hs (SlotState.not_eligible h) hp hpool).laws hs
    · exact absurd hpool Bool.false_ne_true
  · exact (changeState_stand_out rfl h).laws hs

theorem evaluateQualification_laws (h : (s.slots.get i).state.holding = false) (hs : BinLaws s) :
    BinLaws (evaluateQualification i s) := by
  unfold evaluateQualification
  split
  · exact completeQualification_laws h hs
  · exact hs

/-- Progress of a probing slot, and what it completes. -/
theorem evaluateQualification_updSlot_laws {f : SlotRecord → SlotRecord} (hf : ∀ r, (f r).role = r.role ∧ (f r).state = r.state)
    (h : (s.slots.get i).state.holding = false) (hs : BinLaws s) :
    BinLaws (evaluateQualification i (s.updSlot i f)) := by
  have hstand : BinsStand s (s.updSlot i f) := .updSlot i (hf _).1 fun hc => .inl ((hf _).2 ▸ hc)
  refine evaluateQualification_laws ?_ (hstand.laws hs)
  rw [State.updSlot_slots, Table.get_modify_self, (hf _).2]
  exact h

theorem echoArrives_laws (i : SlotIx) (verdict : Option (Fin 8)) (hs : BinLaws s) : BinLaws (echoArrives i verdict s) := by
  unfold echoArrives
  split
  · next h =>
    split
    · exact enterFaulted_laws i _ hs
    · exact evaluateQualification_updSlot_laws (fun _ => ⟨rfl, rfl⟩) (holding_false h rfl) hs
  · exact (bumpSlotBy_stand i _ 1 s).laws hs

theorem qualificationReported_laws (i : SlotIx) (hs : BinLaws s) : BinLaws (qualificationReported i s) := by
  unfold qualificationReported
  split
  · next h => exact evaluateQualification_updSlot_laws (fun _ => ⟨rfl, rfl⟩) (holding_false h.1 rfl) hs
  · exact hs

theorem beaconArrives_laws (i : SlotIx) (hs : BinLaws s) : BinLaws (beaconArrives i s) := by
  have hcount := ((bumpSlotBy_stand i .beacons 1 s).trans (updMonitor_stand i MonitorRecord.beacon _)).laws hs
  rw [beaconArrives]
  split
  · exact qualificationReported_laws i hcount
  · exact hcount

/-! Retirement and the events of the scanner, the link and the monitor. -/

theorem retireAutomatically_laws {flags : State → State} (hf : ∀ s, BinsStand s (flags s)) (hroles : ∀ s, RolesBut i s (flags s))
    (hstate : ∀ s : State, ((flags s).slots.get i).state = (s.slots.get i).state)
    (h : (s.slots.get i).state.eligible = true) (hs : BinLaws s) : BinLaws (retireAutomatically i flags s) := by
  unfold retireAutomatically
  dsimp only
  refine enterRetiring_laws hs h (fun u => ?_) (fun u => ?_) (fun u => ?_) fun v hv _ _ _ => hv
  · split
    · exact (hf u).trans (raiseFlag_stand i _ _)
    · exact hf u
  · split
    · exact (hroles u).trans (raiseFlag_rolesBut i i _ _)
    · exact hroles u
  · split
    · exact (raiseFlag_state i i _ _).trans (hstate u)
    · exact hstate u

theorem retireAckArrives_laws (i : SlotIx) (hs : BinLaws s) : BinLaws (retireAckArrives i s) := by
  unfold retireAckArrives
  split
  · next h => exact enterDrained_laws (flags := id) .refl h hs
  · exact (bumpSlotBy_stand i _ 1 s).laws hs

theorem presenceLost_laws (i : SlotIx) (hs : BinLaws s) : BinLaws (presenceLost i s) := by
  by_cases h : (s.slots.get i).state = .empty
  · rw [presenceLost]
    dsimp only
    rwa [if_pos h]
  · exact (presenceLost_departed h hs).1

theorem powerLost_laws (i : SlotIx) (hs : BinLaws s) : BinLaws (powerLost i s) := by
  unfold powerLost
  split
  · exact hs
  · exact enterFaulted_laws i _ hs

theorem handleOpened_laws (i : SlotIx) (hs : BinLaws s) : BinLaws (handleOpened i s) := by
  unfold handleOpened
  dsimp only
  split
  · exact hs
  · split
    · next h =>
      exact retireAutomatically_laws (fun s => raiseFlag_stand i _ s) (fun s => raiseFlag_rolesBut i i _ s)
        (fun s => raiseFlag_state i i _ s) h.1 hs
    · exact (raiseFlag_stand i _ s).laws hs

theorem handleClosed_laws (i : SlotIx) (hs : BinLaws s) : BinLaws (handleClosed i s) := by
  unfold handleClosed
  split
  · exact hs
  · next h => exact enterProbingFromDrained_laws (fun s => raiseFlag_stand i _ s) (holding_false h rfl) hs
  all_goals exact (raiseFlag_stand i _ s).laws hs

theorem deliver_laws (i : SlotIx) (d : Delivery) (hs : BinLaws s) : BinLaws (deliver i d s) := by
  obtain ⟨presence, power, handle⟩ := d
  have hseat (s : State) (hs : BinLaws s) : BinLaws (seatIfReady i s) := (seatIfReady_stand i s).laws hs
  have hpresence : BinLaws (deliver i ⟨presence, none, none⟩ s) := by
    cases presence with
    | none => exact hs
    | some present => cases present <;> [exact presenceLost_laws i hs; exact hseat s hs]
  have hpower (s : State) (hs : BinLaws s) : BinLaws (deliver i ⟨none, power, none⟩ s) := by
    cases power with
    | none => exact hs
    | some good => cases good <;> [exact powerLost_laws i hs; exact hseat s hs]
  have hhandle (s : State) (hs : BinLaws s) : BinLaws (deliver i ⟨none, none, handle⟩ s) := by
    cases handle with
    | none => exact hs
    | some closed => cases closed <;> [exact handleOpened_laws i hs; exact handleClosed_laws i hs]
  exact hhandle _ (hpower _ hpresence)

theorem lockLossReported_laws (i : SlotIx) (hs : BinLaws s) : BinLaws (lockLossReported i s) := by
  unfold lockLossReported
  split
  any_goals exact enterFaulted_laws i _ hs
  · next h => exact enterDrained_laws (flags := id) .refl h hs
  all_goals exact hs

theorem alarmReported_laws (i : SlotIx) (hs : BinLaws s) : BinLaws (alarmReported i s) := by
  unfold alarmReported
  dsimp only
  split
  · exact enterFaulted_laws i _ hs
  · split
    · next h => exact retireAutomatically_laws (flags := id) .refl (.refl i) (fun _ => rfl) h.1 hs
    · exact hs

theorem linkUpReported_laws (i : SlotIx) (hs : BinLaws s) : BinLaws (linkUpReported i s) := by
  unfold linkUpReported
  split
  · next h => exact enterProbingFromSeated_laws (holding_false h rfl) hs
  · exact hs

theorem trainingFailed_laws (i : SlotIx) (hs : BinLaws s) : BinLaws (trainingFailed i s) := by
  unfold trainingFailed
  split
  · exact enterFaulted_laws i _ hs
  · exact hs

theorem updLink_stand (i : SlotIx) (f : LinkRecord → LinkRecord) (s : State) : BinsStand s (s.updLink i f) := .of_eq rfl rfl rfl

theorem attemptFailed_laws (i : SlotIx) (hs : BinLaws s) : BinLaws (attemptFailed i s) := by
  unfold attemptFailed
  split
  · exact hs
  · split
    · exact (updLink_stand i _ s).laws hs
    · exact trainingFailed_laws i (((updLink_stand i _ s).trans (bumpSlotBy_stand i _ 1 _)).laws hs)

/-- A deadline of a retirement: an evacuation, or a flag (R20). -/
theorem deadline_evacuated (hs : BinLaws s) (h : (s.slots.get i).state = .retiring .moving) :
    Evacuated i s (evacuate i (s.updSlot i fun r => { r with deadlineTimer := none })) := by
  have hstand : BinsStand s (s.updSlot i fun r => { r with deadlineTimer := none }) := .updSlot i rfl .inl
  have hlaws := hstand.laws hs
  have hget : (s.updSlot i fun r => { r with deadlineTimer := none }).slots.get i
      = { s.slots.get i with deadlineTimer := none } := Table.get_modify_self _ _ _
  have hholding : (s.slots.get i).state.holding = true := by
    rw [h]
    rfl
  obtain ⟨p, hp, henabled⟩ := hs.holding i hholding
  have hout : ((s.updSlot i fun r => { r with deadlineTimer := none }).slots.get i).state.eligible = false := by
    rw [hget, h]
    rfl
  have hmay : MayEvacuate nobody i (s.updSlot i fun r => { r with deadlineTimer := none }) :=
    ⟨hlaws.core, hlaws.current, fun _ => False.elim, hout, hlaws.noneTo hout⟩
  obtain ⟨hlaws', hnone, hgiven, hkept⟩ := hmay.evacuated (by rw [hget]; exact hp) henabled
  simp only [isEligible_congr hstand.roles] at hgiven
  exact ⟨hlaws', hnone, hgiven, hkept⟩

theorem deadlinePasses_laws (h : (s.slots.get i).state = .retiring .moving) (hs : BinLaws s) : BinLaws (deadlinePasses i s) := by
  have hstand : BinsStand s (s.updSlot i fun r => { r with deadlineTimer := none }) := .updSlot i rfl .inl
  unfold deadlinePasses
  dsimp only
  split
  · exact (flushEgress_keeps i _).laws (deadline_evacuated hs h).laws
  · exact (hstand.trans (raiseFlag_stand i _ _)).laws hs

end Sys2Proof.Machine
end

section
/-! SUPPORT. Every command, the clock and the resets keep the laws of bins, moves and targets (R36, R39, R47, R61). -/

namespace Sys2Proof.Machine

variable {s t u : State} {p q : PoolIx} {i j : SlotIx} {e : EngineIx} {m : MoveRecord}

theorem QueuesOnly.binsStand (h : QueuesOnly s t) : BinsStand s t := by
  obtain ⟨_, _, -, -, rfl⟩ := h
  exact .of_eq rfl rfl rfl

theorem updScanner_stand (f : ScannerRecord → ScannerRecord) (s : State) : BinsStand s (s.updScanner f) := .of_eq rfl rfl rfl

theorem updLamps_stand (f : LampRecord → LampRecord) (s : State) : BinsStand s (s.updLamps f) := .of_eq rfl rfl rfl

theorem updCore_stand (f : CorePort → CorePort) (s : State) : BinsStand s (s.updCore f) := .of_eq rfl rfl rfl

theorem updPort_stand (i : SlotIx) (f : PortRecord → PortRecord) (s : State) : BinsStand s (s.updPort i f) := .of_eq rfl rfl rfl

theorem updUpstream_stand (i : SlotIx) (f : UpstreamRecord → UpstreamRecord) (s : State) : BinsStand s (s.updUpstream i f) :=
  .of_eq rfl rfl rfl

theorem chooseIfIdle_stand (s : State) : BinsStand s (chooseIfIdle s) := .ite (fun _ => updScanner_stand _ s) fun _ => .refl s

theorem clearAllCounters_stand (s : State) : BinsStand s (clearAllCounters s) := by
  refine ⟨fun _ => rfl, fun _ => .inl, fun p => ?_, fun p b => ?_, fun _ => rfl⟩ <;> rw [clearAllCounters, Table.get_tab]
  rfl

/-! Requests. -/

theorem MayAdmit.of_request {w : Nat} (hw : 1 ≤ w)
    (hstate : (s.slots.get i).state = .standby ∨ (s.slots.get i).state = .retiring .moving ∧ (s.slots.get i).pool = some p)
    (henabled : (s.pools.get p).enabled = true) :
    MayAdmit i p s (s.updSlot i fun r => { r with pool := some p, weight := w }) := by
  have hget : (s.updSlot i fun r => { r with pool := some p, weight := w }).slots.get i
      = { s.slots.get i with pool := some p, weight := w } := Table.get_modify_self _ _ _
  refine ⟨updSlot_rolesBut i _ s, by rw [hget], henabled, by rw [hget]; exact hw, fun hh => ?_, ?_⟩
  · obtain h | ⟨-, h⟩ := hstate
    · rw [h] at hh
      exact absurd hh Bool.false_ne_true
    · exact h
  · obtain h | ⟨h, -⟩ := hstate <;> rw [h] <;> rfl

theorem clampedWeight_pos {weight : Byte} (h : weight ≠ 0) : 1 ≤ min 15 weight.toNat := by
  have hpos : weight.toNat ≠ 0 := fun hw => h (BitVec.eq_of_toNat_eq hw)
  omega

theorem RequestEffect.binLaws {c : Instr} {effect : State → State} (h : RequestEffect s c effect) (hs : BinLaws s) :
    BinLaws (effect s) := by
  cases h
  case reports => exact hs
  case setPolicy hpool => exact setPolicy_laws hs hpool
  case setWeight hweight => exact writeWeight_laws hs (clampedWeight_pos hweight)
  case admission hweight hstate henabled => exact (MayAdmit.of_request (clampedWeight_pos hweight) hstate henabled).laws hs
  case retire hstate _ =>
    exact enterRetiring_laws hs hstate (flags := id) .refl (.refl _) (fun _ => rfl) fun v hv _ _ _ => hv
  case retireLast hstate hlast => exact enterRetiring_release_laws hs hstate hlast
  case fence i _ => exact (fenceSlot_departed i s hs).1
  case unfence hstate => exact (reseat_stand (holding_false hstate rfl)).laws hs
  case requalify hstate => exact enterProbingFromDrained_laws (flag := id) .refl (holding_false hstate rfl) hs
  case reseat hstate => exact (reseat_stand (holding_false hstate rfl)).laws hs
  case slotReset i _ => exact (resetSlot_departed i s hs).1
  case clearAlarm => exact (updMonitor_stand _ _ s).laws hs
  case setBeacon => exact (updMonitor_stand _ _ s).laws hs
  case poolSet hwidth => exact poolSet_laws hs hwidth
  case poolEnable p => exact enablePool_laws p hs
  case poolDisable hheld => exact disablePool_laws hs hheld
  case setScan => exact ((updScanner_stand _ s).trans (.ite (fun _ => chooseIfIdle_stand _) fun _ => .refl _)).laws hs
  case scanRead => exact ((updScanner_stand _ s).trans (chooseIfIdle_stand _)).laws hs
  case scanRestart => exact ((updScanner_stand _ s).trans (updScanner_stand _ _)).laws hs
  case setLampPattern => exact (updLamps_stand _ s).laws hs
  case setLampMap => exact (updLamps_stand _ s).laws hs
  case lampOverride => exact (updLamps_stand _ s).laws hs
  case clearDeviceFlags => exact (updAgent_stand _ s).laws hs
  case clearSlotFlags => exact (BinsStand.updSlot _ rfl .inl).laws hs
  case readCounters =>
    have hstand : BinsStand s { s with freeDraws := s.freeDraws + 12 } := .of_eq rfl rfl rfl
    exact hstand.laws hs
  case clearCounters => exact (clearAllCounters_stand s).laws hs
  case setDevice => exact (updAgent_stand _ s).laws hs
  case restart => exact restartPart_laws hs

theorem request_binLaws {c : Instr} (hc : isRequest c = true) (hs : BinLaws s) : BinLaws (ran c s) :=
  ran_request_relates (R := fun s t => BinLaws s → BinLaws t) (fun _ => id) (fun _ _ _ h h' hs => h' (h hs))
    (fun _ _ h => h.binsStand.laws) hc (fun _ _ _ h => h.binLaws) hs

/-! Receptions. -/

theorem bumpCore_stand (c : CoreCounter) (s : State) : BinsStand s (bumpCore c s) := .of_eq rfl rfl rfl

theorem bumpAgent_stand (c : AgentCounter) (s : State) : BinsStand s (bumpAgent c s) := .of_eq rfl rfl rfl

theorem steerToEngine_keeps (he : s.engines.get e = some m) (bytes : FrameBytes) : KeepsBins s (steerToEngine e m bytes s) :=
  .ite (fun _ => (BinsStand.setEngine e (by rw [he]; rfl)).keeps) fun _ =>
    ((engineCommit_keeps he).trans (bumpPool_stand _ _ _ _).keeps).trans (offerEgress_stand _ _ _).keeps

theorem steer_keeps (p : PoolIx) (key : BitVec 32) (bytes : FrameBytes) (s : State) : KeepsBins s (steer p key bytes s) := by
  have hcount (c : PoolCounter) : KeepsBins s (bumpPool p c 1 s) := (bumpPool_stand p c 1 s).keeps
  unfold steer
  dsimp only
  split
  · split
    · exact hcount _
    · exact hcount _
    · split
      · next e m hmove =>
        rw [Option.bind_eq_some_iff] at hmove
        obtain ⟨e', -, hm⟩ := hmove
        rw [Option.map_eq_some_iff] at hm
        obtain ⟨m', hm', hpair⟩ := hm
        cases hpair
        exact steerToEngine_keeps hm' bytes
      · exact (offerEgress_stand _ _ s).keeps
  · exact hcount _

theorem classify_keeps (info : FrameInfo) (bytes : FrameBytes) (s : State) : KeepsBins s (classify info bytes s) := by
  have hbad : KeepsBins s (bumpCore .badTarget s) := (bumpCore_stand _ s).keeps
  have hhand : KeepsBins s (handOff bytes info.payload s) :=
    .ite (fun _ => ((updAgent_stand _ s).trans (bumpAgent_stand _ _)).keeps) fun _ => (bumpAgent_stand _ s).keeps
  unfold classify
  split
  · split
    · exact steer_keeps _ _ bytes s
    · exact hbad
  · split
    · exact .ite (fun _ => (offerEgress_stand _ _ s).keeps) fun _ => (bumpSlotBy_stand _ _ 1 s).keeps
    · exact hbad
  · exact .ite (fun _ => hhand) fun _ => hbad
  · exact hbad

theorem coreRxEnd_keeps {how : FrameEnd} {bytes : FrameBytes} (h : exec (.coreRxEnd how bytes) s = .next t) : KeepsBins s t := by
  simp only [exec, execCoreRxEnd] at h
  split at h
  · cases h
    exact .refl _
  · cases h
    refine (updCore_stand (fun k => { k with rx := none }) s).keeps.trans ?_
    split
    · unfold coreFrameEnds
      split
      · exact (bumpCore_stand _ _).keeps
      · split
        · exact (bumpCore_stand _ _).keeps
        · exact (bumpCore_stand _ _).keeps.trans (classify_keeps _ bytes _)
    · exact (bumpCore_stand _ _).keeps

theorem pauseArrives_stand (i : SlotIx) (payload : List Byte) (s : State) : BinsStand s (pauseArrives i payload s) := by
  unfold pauseArrives
  split
  · exact .ite (fun _ => (updLink_stand i _ s).trans (bumpSlotBy_stand i _ 1 _)) fun _ => .refl s
  · exact bumpSlotBy_stand i _ 1 s

theorem controlArrives_laws (i : SlotIx) (info : FrameInfo) (hs : BinLaws s) : BinLaws (controlArrives i info s) := by
  unfold controlArrives
  split
  · split
    · exact beaconArrives_laws i hs
    · exact hs
  · exact echoArrives_laws i _ hs
  · exact retireAckArrives_laws i hs
  · exact (pauseArrives_stand i _ s).laws hs
  · exact (bumpSlotBy_stand i _ 1 s).laws hs

theorem admitUpstream_stand (i : SlotIx) (bytes : FrameBytes) (s : State) : BinsStand s (admitUpstream i bytes s) := by
  unfold admitUpstream
  split
  · exact bumpSlotBy_stand i _ 1 s
  · split
    · exact ((updUpstream_stand i _ s).trans (bumpSlotBy_stand i _ 1 _)).trans (pauseAtArrival_links i _).binsStand
    · exact ((bumpSlotBy_stand i _ 1 s).trans (raiseFlag_stand i _ _)).trans (pauseAtArrival_links i _).binsStand

theorem slotRxEnd_laws {how : FrameEnd} {bytes : FrameBytes} (hs : BinLaws s) (h : exec (.slotRxEnd i how bytes) s = .next t) :
    BinLaws t := by
  simp only [exec, execSlotRxEnd] at h
  split at h
  · cases h
    exact hs
  · cases h
    have hreceived := (updLink_stand i (fun l => { l with rx := none }) s).laws hs
    split
    · unfold slotFrameEnds
      split
      · exact (bumpSlotBy_stand i _ 1 _).laws hreceived
      · split
        · exact (bumpSlotBy_stand i _ 1 _).laws hreceived
        · unfold sortFrame
          split
          · exact controlArrives_laws i _ hreceived
          · exact (bumpSlotBy_stand i _ 1 _).laws hreceived
          · exact (admitUpstream_stand i bytes _).laws hreceived
          · exact (admitUpstream_stand i bytes _).laws hreceived
    · exact (bumpSlotBy_stand i _ 1 _).laws hreceived

/-! Events. -/

theorem noResponseRead_stand (i : SlotIx) (s : State) : BinsStand s (noResponseRead i s) := by
  have hcount := (bumpSlotBy_stand i .scanFailed 1 s).trans (updPort_stand i (fun r =>
    { r with noResponse := min 8 (r.noResponse + 1) }) _)
  exact .ite (fun _ => hcount.trans (raiseFlag_stand i _ _)) fun _ => hcount

theorem goodRead_laws (i : SlotIx) (word : Byte) (hs : BinLaws s) : BinLaws (goodRead i word s) := by
  rw [goodRead]
  exact deliver_laws i _ (((bumpSlotBy_stand i .scanGood 1 s).trans (updPort_stand i _ _)).laws hs)

theorem joinReadResponse_stand (s : State) : BinsStand s (joinReadResponse s) := by
  unfold joinReadResponse
  split
  · refine .ite (fun hroom => ?_) fun _ => .refl s
    have hroom : hasRoom (s.updScanner fun c => { c with pendingRead := none }) = true := hroom
    exact (updScanner_stand _ s).trans (joinTransmit_queues hroom _).binsStand
  all_goals exact .refl s

theorem cycleEnds_laws (c : BusCycle) (good : Bool) (word : Byte) (hs : BinLaws s) : BinLaws (cycleEnds c good word s) := by
  have hsample : BinLaws (sample c.address good word s) := by
    unfold sample
    split
    · exact goodRead_laws c.address word hs
    · exact (noResponseRead_stand c.address s).laws hs
  rw [cycleEnds]
  refine (updScanner_stand _ _).laws ?_
  split
  · exact ((updScanner_stand _ _).trans (joinReadResponse_stand _)).laws hsample
  · exact (updScanner_stand _ _).laws hsample

/-- An end of a transmission on a slot link (R94). -/
theorem egressTxEnd_keeps (h : exec (.egressTxEnd i) s = .next t) : KeepsBins s t := by
  obtain rfl | ⟨entry, rest, -, rfl⟩ := egressTxEnd_cases h
  · exact .refl _
  · have hpop : BinsStand s (bumpSlot i .delivered (popEgress i (s.updLink i fun l => { l with tx := none }))) :=
      .of_eq rfl rfl rfl
    exact (hpop.keeps.trans (reportLeft_keeps entry _)).trans (evaluateConfirmation_stand i _).keeps

theorem moveTimer_keeps (h : exec (.drainTimerExpiry e) s = .next t ∨ exec (.settleTimerExpiry e) s = .next t) :
    KeepsBins s t := by
  obtain rfl | ⟨m, hm, rfl | rfl⟩ := moveTimer_cases h
  · exact .refl _
  · exact engineCommit_keeps hm
  · exact (engineCommit_keeps hm).trans (bumpPool_stand _ _ _ _).keeps

theorem ite_keeps {P : State → Prop} {c : Prop} [Decidable c] (h : c → P t) (hs : P s) : P (if c then t else s) := by
  split
  · exact h ‹_›
  · exact hs

theorem event_binLaws {c : Instr} (hrequest : isRequest c = false) (hon : c ≠ .powerOn) (hpin : c ≠ .pinReset) (hs : BinLaws s)
    (h : exec c s = .next t) : BinLaws t := by
  cases c
  case powerOn => exact absurd rfl hon
  case pinReset => exact absurd rfl hpin
  case coreRxStart =>
    simp only [exec, execCoreRxStart] at h
    split at h <;> cases h
    · exact (updCore_stand _ s).laws hs
    · exact hs
  case slotRxStart i =>
    obtain rfl := eq_ran h
    exact (BinsStand.ite (fun _ => updLink_stand i _ s) fun _ => .refl s).laws hs
  case coreRxEnd => exact (coreRxEnd_keeps h).laws hs
  case slotRxEnd => exact slotRxEnd_laws hs h
  case lockGained i =>
    obtain rfl := eq_ran h
    exact (updLink_stand i _ s).laws hs
  case lockLost i =>
    obtain rfl := eq_ran h
    exact (BinsStand.ite (fun _ => (cutReception_links i s).binsStand.trans (updLink_stand i _ _)) fun _ => .refl s).laws hs
  case attemptSuccess i =>
    obtain rfl := eq_ran h
    refine ite_keeps (fun _ => linkUpReported_laws i (BinsStand.laws ?_ hs)) hs
    exact ((updLink_stand i _ s).trans (bumpSlotBy_stand i _ 1 _)).trans (updMonitor_stand i _ _)
  case attemptTimerExpiry i =>
    obtain rfl := eq_ran h
    exact ite_keeps (fun _ => attemptFailed_laws i hs) hs
  case trainingLockLoss i =>
    obtain rfl := eq_ran h
    exact ite_keeps (fun _ => attemptFailed_laws i ((bumpSlotBy_stand i _ 1 s).laws hs)) hs
  case lockLossExpiry i =>
    obtain rfl := eq_ran h
    refine ite_keeps (fun _ => lockLossReported_laws i (BinsStand.laws ?_ hs)) hs
    refine .trans ?_ ((cutReception_links i _).binsStand.trans (reportLeftUp_links i _).binsStand)
    exact .of_eq rfl rfl rfl
  case remotePauseExpiry i =>
    obtain rfl := eq_ran h
    exact (updLink_stand i _ s).laws hs
  case slotTxStart i =>
    obtain rfl | ⟨-, tx, rest, -, rfl⟩ := slotTxStart_cases h
    · exact hs
    · exact (updLink_stand i _ s).laws hs
  case controlTxEnd i =>
    obtain rfl := eq_ran h
    exact ite_keeps (fun _ => ((updLink_stand i _ s).trans (bumpSlotBy_stand i _ 1 _)).laws hs) hs
  case egressTxEnd => exact (egressTxEnd_keeps h).laws hs
  case coreArbiterChoice =>
    obtain rfl | ⟨tx, pointer, rfl⟩ := coreArbiterChoice_cases h
    · exact hs
    · exact (updCore_stand _ s).laws hs
  case upstreamTxEnd =>
    obtain rfl | ⟨i, rfl⟩ := upstreamTxEnd_cases h
    · exact hs
    · refine BinsStand.laws (.trans ?_ (pauseAtTxEnd_links i _).binsStand) hs
      exact .of_eq rfl rfl rfl
  case mgmtTxEnd =>
    obtain rfl | ⟨c, rfl⟩ := mgmtTxEnd_cases h
    · exact hs
    · exact (((updCore_stand _ s).trans (updAgent_stand _ _)).trans (bumpAgent_stand c _)).laws hs
  case refreshTimerExpiry i =>
    obtain rfl := eq_ran h
    exact (pauseAtRefresh_links i s).binsStand.laws hs
  case probeWindowExpiry i =>
    obtain rfl := eq_ran h
    exact ite_keeps (fun _ => enterFaulted_laws i _ hs) hs
  case qualifyTimerExpiry i =>
    obtain rfl := eq_ran h
    exact ite_keeps (fun _ => enterFaulted_laws i _ hs) hs
  case deadlineExpiry i =>
    obtain rfl := eq_ran h
    exact ite_keeps (fun hc => deadlinePasses_laws hc.1 hs) hs
  case acknowledgmentExpiry i =>
    obtain rfl := eq_ran h
    exact ite_keeps (fun hc => enterDrained_laws (fun s => raiseFlag_stand i _ s) hc.1 hs) hs
  case drainTimerExpiry => exact (moveTimer_keeps (.inl h)).laws hs
  case settleTimerExpiry => exact (moveTimer_keeps (.inr h)).laws hs
  case rampTimerExpiry p =>
    obtain rfl := eq_ran h
    have hstand : BinsStand s (s.updPool p fun r => { r with rampTimer := none }) := .updPool p (fun _ => rfl) fun _ _ => rfl
    exact hstand.laws hs
  case engineGrant =>
    obtain rfl | ⟨e, p, entry, rest, he, hwants, hplan, rfl⟩ := engineGrant_cases h
    · exact hs
    · exact grant_laws hs he hwants hplan
  case adoptionTimerExpiry p =>
    obtain rfl := eq_ran h
    exact ite_keeps (fun _ => adoptionExpiry_laws hs) hs
  case readCycleEnd =>
    obtain rfl | ⟨c, -, rfl⟩ := readCycleEnd_cases h
    · exact hs
    · exact cycleEnds_laws c _ _ hs
  case scanReadResponse =>
    obtain rfl := eq_ran h
    exact (joinReadResponse_stand s).laws hs
  case saturationLatch i =>
    obtain rfl := eq_ran h
    exact ite_keeps (fun _ => (updMonitor_stand i _ s).laws hs) hs
  case beaconAlarm i =>
    obtain rfl := eq_ran h
    exact ite_keeps (fun _ => alarmReported_laws i (((updMonitor_stand i _ s).trans (raiseFlag_stand i _ _)).laws hs)) hs
  case lampBaseStep =>
    obtain rfl := eq_ran h
    have hstand : BinsStand s (stepLamps s) := by
      unfold stepLamps
      exact updLamps_stand _ s
    exact hstand.laws hs
  all_goals cases hrequest

theorem exec_binLaws {c : Instr} (hs : BinLaws s) (h : exec c s = .next t) : BinLaws t := by
  by_cases hrequest : isRequest c = true
  · exact eq_ran h ▸ request_binLaws hrequest hs
  by_cases hon : c = .powerOn
  · subst hon
    refine eq_ran h ▸ (updScanner_stand _ _).laws (BinsStand.laws ?_ reset_idle.laws)
    exact .of_eq rfl rfl rfl
  by_cases hpin : c = .pinReset
  · subst hpin
    exact eq_ran h ▸ (updScanner_stand _ _).laws (pinResetState_idle hs).laws
  exact event_binLaws (Bool.eq_false_iff.mpr hrequest) hon hpin hs h

theorem tick_stand (s : State) : BinsStand s (tick s) := by
  refine ⟨fun i => ?_, fun i hi => .inl ?_, fun p => ?_, fun p b => ?_, fun e => ?_⟩
  · rw [tick_slots]
    rfl
  · rwa [tick_slots] at hi
  · rw [tick_pools]
    refine tables_iff.mpr ⟨rfl, rfl, rfl, rfl, ?_⟩
    dsimp only
    unfold countDown
    split
    · exact Option.isSome_map
    · rfl
  · rw [tick_pools]
  · rw [tick_engines]
    cases s.engines.get e <;> rfl

/-- Settles O58: the laws of bins, moves and targets, through every command and through the clock. -/
theorem stepsKeepTheBinLaws : Obligations.StepsKeepTheBinLaws := fun _ _ hs h =>
  step_keeps (fun s rest h => (BinsStand.of_eq (s := s) (t := { s with pending := rest }) rfl rfl rfl).laws h) (fun _ _ _ hu h => exec_binLaws hu h)
    (fun _ hu => idle_keeps (fun s h => ((chooseIfIdle_stand s).trans (tick_stand _)).laws h)
      (fun _ _ _ _ hu h => exec_binLaws hu h) hu) hs h

end Sys2Proof.Machine
end

section
/-! SUPPORT. Every command but the clears and the resets raises counters and flags alone, seats no EMPTY slot but at the end of a
read cycle, and leaves the clock and the waiting commands (R3, R8, R34, R193). -/

namespace Sys2Proof.Machine

variable {s t u : State} {c : Instr} {i j : SlotIx} {p : PoolIx} {e : EngineIx} {m : MoveRecord}

/-- What the command `c` may do to counters, flags and EMPTY slots. -/
structure Advances (c : Instr) (s t : State) : Prop where
  counters : (∀ tag, c ≠ .clearCounters tag) → CountersRise s t
  flags : (∀ tag slot mask, c ≠ .clearAttention tag slot mask) → ∀ i f, flagSet s i f = true → flagSet t i f = true
  empty : (∀ ack word check, c ≠ .readCycleEnd ack word check) →
    ∀ i, (s.slots.get i).state = .empty → (t.slots.get i).state = .empty
  clock : t.micros = s.micros ∧ t.pending = s.pending

theorem Advances.refl (c : Instr) (s : State) : Advances c s s := ⟨fun _ => .refl s, fun _ _ _ => id, fun _ _ => id, rfl, rfl⟩

theorem Advances.trans (h : Advances c s t) (h' : Advances c t u) : Advances c s u :=
  ⟨fun hc => (h.counters hc).trans (h'.counters hc), fun hc i f hf => h'.flags hc i f (h.flags hc i f hf),
    fun hc i hi => h'.empty hc i (h.empty hc i hi), h'.clock.1.trans h.clock.1, h'.clock.2.trans h.clock.2⟩

theorem Advances.ite {t t' : State} {P : Prop} [Decidable P] (h : P → Advances c s t) (h' : ¬ P → Advances c s t') :
    Advances c s (if P then t else t') := by
  split
  · exact h ‹_›
  · exact h' ‹_›

theorem RecordFollows.empty {r r' : SlotRecord} (h : RecordFollows r r') (hr : r.state = .empty) : r'.state = .empty := by
  obtain h | ⟨h, -⟩ | ⟨h, -⟩ := h.state
  · exact h.trans hr
  all_goals
    rw [hr] at h
    cases h

theorem Advances.follows (h : Follows s t) : Advances c s t where
  counters _ := h.proceeds.counters
  flags _ := h.proceeds.flags
  empty _ i := (h.slots i).empty
  clock := by
    obtain ⟨_, _, _, _, _, _, _, rfl⟩ := h.touches
    exact ⟨rfl, rfl⟩

theorem Advances.event (h : EventAt i s t) (hempty : (s.slots.get i).state = .empty → (t.slots.get i).state = .empty) :
    Advances c s t where
  counters _ := h.proceeds.counters
  flags _ := h.proceeds.flags
  empty _ j hj := by
    obtain rfl | hne := eq_or_ne j i
    · exact hempty hj
    · exact (h.records j hne).empty hj
  clock := ⟨h.others.clock.1, h.others.clock.2.2⟩

/-- An event of a slot that is not EMPTY. -/
theorem Advances.event_of_ne (h : EventAt i s t) (hne : (s.slots.get i).state ≠ .empty) : Advances c s t :=
  .event h fun he => absurd he hne

theorem Advances.event_of_eq (h : EventAt i s t) (hslots : t.slots = s.slots) : Advances c s t := .event h fun he => hslots ▸ he

theorem Advances.links (hl : TouchesLinks s t) (h : EventAt i s t) : Advances c s t := .event_of_eq h hl.slots_eq

theorem Advances.of_counters (hcounters : CountersRise s t) (hslots : t.slots = s.slots)
    (hclock : t.micros = s.micros ∧ t.pending = s.pending) : Advances c s t :=
  ⟨fun _ => hcounters, fun _ i f hf => by rwa [flagSet, hslots], fun _ i hi => hslots ▸ hi, hclock⟩

theorem forEach_advances {ι : Type} {f : ι → State → State} (h : ∀ i s, Advances c s (f i s)) (is : List ι) (s : State) :
    Advances c s (forEach f is s) :=
  forEach_relates (.refl c) (fun _ _ _ => .trans) h is s

section
variable (s)

theorem Advances.updLink (i : SlotIx) (f : LinkRecord → LinkRecord) : Advances c s (s.updLink i f) :=
  .event_of_eq (.updLink i f s) rfl

theorem Advances.updMonitor (i : SlotIx) (f : MonitorRecord → MonitorRecord) : Advances c s (s.updMonitor i f) :=
  .event_of_eq (.updMonitor i f s) rfl

theorem Advances.updUpstream (i : SlotIx) (f : UpstreamRecord → UpstreamRecord) : Advances c s (s.updUpstream i f) :=
  .event_of_eq (.updUpstream i f s) rfl

theorem Advances.updScanner (f : ScannerRecord → ScannerRecord) : Advances c s (s.updScanner f) :=
  .of_counters { CountersRise.refl s with } rfl ⟨rfl, rfl⟩

theorem Advances.updPort (i : SlotIx) (f : PortRecord → PortRecord) : Advances c s (s.updPort i f) :=
  .of_counters { CountersRise.refl s with } rfl ⟨rfl, rfl⟩

theorem Advances.updLamps (f : LampRecord → LampRecord) : Advances c s (s.updLamps f) :=
  .of_counters { CountersRise.refl s with } rfl ⟨rfl, rfl⟩

theorem Advances.bumpSlotBy (i : SlotIx) (k : SlotCounter) (n : Nat) : Advances c s (bumpSlotBy i k n s) :=
  .of_counters (bumpSlotBy_proceeds i k n s).counters rfl ⟨rfl, rfl⟩

theorem Advances.raiseFlag (i : SlotIx) (f : SlotFlag) : Advances c s (raiseFlag i f s) :=
  .event (raiseFlag_eventAt i f s) fun he => (raiseFlag_state i i f s).trans he

theorem Advances.updCore {f : CorePort → CorePort} (hf : ∀ k n, (k.counters.get n).toNat ≤ ((f k).counters.get n).toNat) :
    Advances c s (s.updCore f) :=
  .of_counters { CountersRise.refl s with core := fun k => hf s.core k.ix } rfl ⟨rfl, rfl⟩

theorem Advances.updAgent {f : AgentRecord → AgentRecord} (hf : ∀ a n, (a.counters.get n).toNat ≤ ((f a).counters.get n).toNat) :
    Advances c s (s.updAgent f) :=
  .of_counters { CountersRise.refl s with agent := fun k => hf s.agent k.ix } rfl ⟨rfl, rfl⟩

theorem get_modify_counterAdd_le {n : Nat} (t : Table Counter n) (k k' : Fin n) (d : Nat) :
    (t.get k').toNat ≤ ((t.modify k (counterAdd · d)).get k').toNat := by
  rw [Table.get_modify]
  split
  · next h => rw [h]; exact le_counterAdd _ _
  · exact le_rfl

theorem Advances.bumpCore (k : CoreCounter) : Advances c s (bumpCore k s) :=
  .updCore s fun _ _ => get_modify_counterAdd_le _ _ _ _

theorem Advances.bumpAgent (k : AgentCounter) : Advances c s (bumpAgent k s) :=
  .updAgent s fun _ _ => get_modify_counterAdd_le _ _ _ _

theorem Advances.updPool {p : PoolIx} {f : PoolRecord → PoolRecord} (hf : ∀ r, (f r).counters = r.counters) :
    Advances c s (s.updPool p f) := by
  refine .of_counters { CountersRise.refl s with pool := fun q k => le_of_eq ?_ } rfl ⟨rfl, rfl⟩
  rw [State.poolCount, State.poolCount, State.updPool_pools, Table.get_modify]
  split
  · next h => rw [h, hf]
  · rfl

theorem Advances.updSlot (i : SlotIx) {f : SlotRecord → SlotRecord} (hflags : ∀ r, (f r).attention = r.attention)
    (hstate : ∀ r, (f r).state = r.state) : Advances c s (s.updSlot i f) := by
  have hget (j : SlotIx) : ((s.updSlot i f).slots.get j).attention = (s.slots.get j).attention
      ∧ ((s.updSlot i f).slots.get j).state = (s.slots.get j).state := by
    rw [State.updSlot_slots, Table.get_modify]
    split
    · next h => rw [h, hflags, hstate]; exact ⟨rfl, rfl⟩
    · exact ⟨rfl, rfl⟩
  refine ⟨fun _ => { CountersRise.refl s with }, fun _ j f hf => ?_, fun _ j hj => (hget j).2.trans hj, rfl, rfl⟩
  rwa [flagSet, (hget j).1]

theorem Advances.of_queues (h : QueuesOnly s t) : Advances c s t := by
  obtain ⟨_, _, -, -, rfl⟩ := h
  exact .of_counters { CountersRise.refl s with } rfl ⟨rfl, rfl⟩

theorem chooseIfIdle_advances : Advances c s (chooseIfIdle s) := .ite (fun _ => .updScanner s _) fun _ => .refl c s

theorem raiseDeviceFlag_advances (f : DeviceFlag) : Advances c s (raiseDeviceFlag f s) := by
  refine .ite (fun _ => .refl c s) fun _ => .trans ?_ (.follows (offerNotice_follows rfl _))
  exact .updAgent s fun _ _ => le_rfl

theorem flushUpstream_advances (i : SlotIx) : Advances c s (flushUpstream i s) :=
  .event_of_eq (flushUpstream_eventAt i s) (flushUpstream_records i s)

theorem restartPart_advances : Advances c s (restartPart s) := by
  have htraffic : Advances c s (restartTraffic s) :=
    (((Advances.follows (onMoves_follows abortDiscard_follows s)).trans
      (forEach_advances (fun i s => .event (flushEgress_eventAt i s) (flushEgress_records i i s).empty) _ _)).trans
      (forEach_advances (fun p s => .follows (recompute_follows p s)) _ _)).trans
      (forEach_advances (fun i s => flushUpstream_advances s i) _ _)
  refine htraffic.trans (.trans ?_ (raiseDeviceFlag_advances _ _))
  exact .updAgent _ fun a n => le_refl (a.counters.get n).toNat

theorem writeWeight_advances (i : SlotIx) (w : Nat) : Advances c s (writeWeight i w s) := by
  have hwrite : Advances c s (s.updSlot i fun r => { r with weight := w }) := .updSlot s i (fun _ => rfl) fun _ => rfl
  have hpool (u : State) : Follows u (recomputeOf i u) := by
    unfold recomputeOf
    split
    · exact recompute_follows _ u
    · exact .refl u
  exact .ite (fun _ => hwrite.trans (.follows ((hpool _).trans (evaluateAdmission_follows i _)))) fun _ => hwrite

theorem enablePool_advances (p : PoolIx) : Advances c s (enablePool p s) := by
  have hopen (u : State) : Follows u (openWindow p u) :=
    .ite (fun _ => .updPool' (fun _ => rfl) fun _ => rfl) fun _ => dropStale_follows p u
  refine .ite (fun _ => .refl c s) fun _ => .trans ?_ (.follows ((hopen _).trans (recompute_follows p _)))
  exact .updPool s fun _ => rfl

end

/-! Requests. -/

theorem RequestEffect.advances {effect : State → State} (h : RequestEffect s c effect) : Advances c s (effect s) := by
  have hne {i : SlotIx} {x : SlotState} (h : (s.slots.get i).state = x) (hx : x ≠ .empty) : (s.slots.get i).state ≠ .empty :=
    h ▸ hx
  have heligible {i : SlotIx} (h : (s.slots.get i).state.eligible = true) : (s.slots.get i).state ≠ .empty := fun he => by
    rw [he] at h
    exact Bool.false_ne_true h
  cases h
  case reports => exact .refl _ s
  case setPolicy => exact .updSlot s _ (fun _ => rfl) fun _ => rfl
  case setWeight i _ => exact writeWeight_advances s i _
  case admission i p hweight hstate henabled =>
    refine .trans ?_ (.event_of_ne (admitToPool_eventAt i _) ?_)
    · exact .updSlot s i (fun _ => rfl) fun _ => rfl
    · rw [State.updSlot_slots, Table.get_modify_self]
      obtain h | ⟨h, -⟩ := hstate
      · exact hne h nofun
      · exact hne h nofun
  case retire i hstate _ =>
    exact .event_of_ne (enterRetiring_eventAt i s (flags := id) (release := id) (.refl i) (.refl i)) (heligible hstate)
  case retireLast i hstate _ =>
    exact .event_of_ne (enterRetiring_eventAt i s (flags := id) (.refl i) fun s => (releaseBins_follows i s).eventAt i)
      (heligible hstate)
  case fence i hstate => exact .event_of_ne (fenceSlot_eventAt i s) hstate
  case unfence i hstate => exact .event_of_ne (reseat_eventAt i s) (hne hstate nofun)
  case requalify i hstate =>
    exact .event_of_ne (enterProbingFromDrained_eventAt i s (flag := id) (.refl i)) (hne hstate nofun)
  case reseat i hstate => exact .event_of_ne (reseat_eventAt i s) (hne hstate nofun)
  case slotReset i hstate => exact .event_of_ne (resetSlot_eventAt i s) hstate
  case clearAlarm => exact .updMonitor s _ _
  case setBeacon => exact .updMonitor s _ _
  case poolSet => exact .updPool s fun _ => rfl
  case poolEnable p => exact enablePool_advances s p
  case poolDisable => exact .ite (fun _ => .updPool s fun _ => rfl) fun _ => .refl _ s
  case setScan => exact (Advances.updScanner s _).trans (.ite (fun _ => chooseIfIdle_advances _) fun _ => .refl _ _)
  case scanRead => exact (Advances.updScanner s _).trans (chooseIfIdle_advances _)
  case scanRestart => exact (Advances.updScanner s _).trans (.updScanner _ _)
  case setLampPattern => exact .updLamps s _
  case setLampMap => exact .updLamps s _
  case lampOverride => exact .updLamps s _
  case clearDeviceFlags => exact .updAgent s fun _ _ => le_rfl
  case clearSlotFlags tag slot mask i =>
    refine ⟨fun _ => { CountersRise.refl s with }, fun hc => absurd rfl (hc tag slot mask), fun _ j hj => ?_, rfl, rfl⟩
    rw [State.updSlot_slots, Table.get_modify]
    split
    · next h => exact h ▸ hj
    · exact hj
  case readCounters => exact .of_counters { CountersRise.refl s with } rfl ⟨rfl, rfl⟩
  case clearCounters tag =>
    exact ⟨fun hc => absurd rfl (hc tag), fun _ _ _ hf => hf, fun _ _ hj => hj, rfl, rfl⟩
  case setDevice => exact .updAgent s fun _ _ => le_rfl
  case restart => exact restartPart_advances s

theorem request_advances (hc : isRequest c = true) : Advances c s (ran c s) :=
  ran_request_relates (.refl c) (fun _ _ _ => .trans) (fun _ _ => .of_queues _) hc fun _ _ _ h => h.advances

end Sys2Proof.Machine
end

section
/-! SUPPORT. The events, through which counters and flags stand or rise, and what a step leaves of the clock and the waiting
commands (R3, R8, R34, R193). -/

namespace Sys2Proof.Machine

variable {s t u : State} {c : Instr} {i j : SlotIx} {p : PoolIx} {e : EngineIx} {m : MoveRecord}

/-! Receptions. -/

theorem steerToEngine_advances (e : EngineIx) (m : MoveRecord) (bytes : FrameBytes) (s : State) :
    Advances c s (steerToEngine e m bytes s) :=
  .ite (fun _ => .follows (.setEngine e _ s)) fun _ =>
    .follows (((engineCommit_follows e m s).trans (bumpPool_follows _ _ _ _)).trans (offerEgress_follows _ _ _))

theorem steer_advances (p : PoolIx) (key : BitVec 32) (bytes : FrameBytes) (s : State) : Advances c s (steer p key bytes s) := by
  have hcount (k : PoolCounter) : Advances c s (bumpPool p k 1 s) := .follows (bumpPool_follows p k 1 s)
  unfold steer
  dsimp only
  split
  · split
    · exact hcount _
    · exact hcount _
    · split
      · exact steerToEngine_advances _ _ bytes s
      · exact .follows (offerEgress_follows _ _ s)
  · exact hcount _

theorem classify_advances (info : FrameInfo) (bytes : FrameBytes) (s : State) : Advances c s (classify info bytes s) := by
  have hbad : Advances c s (bumpCore .badTarget s) := .bumpCore s _
  have hhand : Advances c s (handOff bytes info.payload s) := by
    refine .ite (fun _ => ?_) fun _ => .bumpAgent s _
    refine .trans ?_ (.bumpAgent _ _)
    exact .updAgent s fun a n => le_refl (a.counters.get n).toNat
  unfold classify
  split
  · split
    · exact steer_advances _ _ bytes s
    · exact hbad
  · split
    · exact .ite (fun _ => .follows (offerEgress_follows _ _ s)) fun _ => .bumpSlotBy s _ _ 1
    · exact hbad
  · exact .ite (fun _ => hhand) fun _ => hbad
  · exact hbad

theorem coreRxEnd_advances {how : FrameEnd} {bytes : FrameBytes} (h : exec (.coreRxEnd how bytes) s = .next t) :
    Advances c s t := by
  simp only [exec, execCoreRxEnd] at h
  split at h
  · cases h
    exact .refl _ _
  · cases h
    refine .trans (.updCore (f := fun k => { k with rx := none }) s fun k n => le_refl (k.counters.get n).toNat) ?_
    split
    · unfold coreFrameEnds
      split
      · exact .bumpCore _ _
      · split
        · exact .bumpCore _ _
        · exact (Advances.bumpCore _ _).trans (classify_advances _ bytes _)
    · exact .bumpCore _ _

theorem beaconArrives_advances (i : SlotIx) (s : State) : Advances c s (beaconArrives i s) := by
  have hcount : Advances c s ((bumpSlot i .beacons s).updMonitor i MonitorRecord.beacon) :=
    (Advances.bumpSlotBy s i .beacons 1).trans (.updMonitor _ i _)
  refine .ite (fun _ => hcount.trans (.event (qualificationReported_eventAt i _) fun he => ?_)) fun _ => hcount
  rw [qualificationReported, he, if_neg fun h => nomatch h.1]
  exact he

theorem echoArrives_advances (i : SlotIx) (verdict : Option (Fin 8)) (s : State) : Advances c s (echoArrives i verdict s) := by
  refine .ite (fun hprobing => ?_) fun _ => .bumpSlotBy s i _ 1
  split
  · exact .event_of_ne (enterFaulted_eventAt i s _) (hprobing ▸ nofun)
  · refine .event_of_ne (.trans ?_ (evaluateQualification_eventAt i _)) (hprobing ▸ nofun)
    exact .updSlot (fun _ => by simp) fun _ _ hk => hk

theorem retireAckArrives_advances (i : SlotIx) (s : State) : Advances c s (retireAckArrives i s) :=
  .ite (fun hstate => .event_of_ne (enterDrained_eventAt i s (flags := id) fun s => .refl i s) (hstate ▸ nofun)) fun _ =>
    .bumpSlotBy s i _ 1

theorem pauseArrives_advances (i : SlotIx) (payload : List Byte) (s : State) : Advances c s (pauseArrives i payload s) := by
  unfold pauseArrives
  split
  · exact .ite (fun _ => (Advances.updLink s i _).trans (.bumpSlotBy _ i _ 1)) fun _ => .refl _ _
  · exact .bumpSlotBy s i _ 1

theorem controlArrives_advances (i : SlotIx) (info : FrameInfo) (s : State) : Advances c s (controlArrives i info s) := by
  unfold controlArrives
  split
  · exact .ite (fun _ => beaconArrives_advances i s) fun _ => .refl _ _
  · exact echoArrives_advances i _ s
  · exact retireAckArrives_advances i s
  · exact pauseArrives_advances i _ s
  · exact .bumpSlotBy s i _ 1

theorem pauseAtArrival_advances (i : SlotIx) (s : State) : Advances c s (pauseAtArrival i s) :=
  .links (pauseAtArrival_links i s) (pauseAtArrival_eventAt i s)

theorem admitUpstream_advances (i : SlotIx) (bytes : FrameBytes) (s : State) : Advances c s (admitUpstream i bytes s) := by
  unfold admitUpstream
  split
  · exact .bumpSlotBy s i _ 1
  · split
    · exact ((Advances.updUpstream s i _).trans (.bumpSlotBy _ i _ 1)).trans (pauseAtArrival_advances i _)
    · exact ((Advances.bumpSlotBy s i _ 1).trans (.raiseFlag _ i _)).trans (pauseAtArrival_advances i _)

theorem slotRxEnd_advances {how : FrameEnd} {bytes : FrameBytes} (h : exec (.slotRxEnd i how bytes) s = .next t) :
    Advances c s t := by
  simp only [exec, execSlotRxEnd] at h
  split at h
  · cases h
    exact .refl _ _
  · cases h
    refine .trans (.updLink s i fun l => { l with rx := none }) ?_
    split
    · unfold slotFrameEnds
      split
      · exact .bumpSlotBy _ i _ 1
      · split
        · exact .bumpSlotBy _ i _ 1
        · unfold sortFrame
          split
          · exact controlArrives_advances i _ _
          · exact .bumpSlotBy _ i _ 1
          · exact admitUpstream_advances i bytes _
          · exact admitUpstream_advances i bytes _
    · exact .bumpSlotBy _ i _ 1

/-! Links. -/

theorem cutReception_advances (i : SlotIx) (s : State) : Advances c s (cutReception i s) :=
  .links (cutReception_links i s) (cutReception_eventAt i s)

theorem trainingFailed_advances (i : SlotIx) (s : State) : Advances c s (trainingFailed i s) :=
  .ite (fun h => .event_of_ne (enterFaulted_eventAt i s _) (h ▸ nofun)) fun _ => .refl c s

theorem attemptFailed_advances (i : SlotIx) (s : State) : Advances c s (attemptFailed i s) := by
  unfold attemptFailed
  split
  · exact .refl c s
  · refine .ite (fun _ => .updLink s i _) fun _ => ?_
    refine .trans ?_ (trainingFailed_advances i _)
    refine .trans ?_ (.bumpSlotBy _ i .trainFailures 1)
    exact .updLink s i _

theorem linkUpReported_advances (i : SlotIx) (s : State) : Advances c s (linkUpReported i s) :=
  .ite (fun h => .event_of_ne (enterProbingFromSeated_eventAt i s) (h ▸ nofun)) fun _ => .refl c s

theorem lockLossReported_advances (i : SlotIx) (s : State) : Advances c s (lockLossReported i s) := by
  refine .event (lockLossReported_eventAt i s) fun he => ?_
  rw [lockLossReported, he]
  exact he

theorem alarmReported_advances (i : SlotIx) (s : State) : Advances c s (alarmReported i s) := by
  refine .event (alarmReported_eventAt i s) fun he => ?_
  rw [alarmReported, he, if_neg fun h => Bool.false_ne_true h.1, if_neg fun h => Bool.false_ne_true h.1]
  exact he

/-! Read cycles. -/

/-- The end of a read cycle may seat an EMPTY slot. -/
theorem Advances.of_read {ack : Bool} {word check : Byte} (h : EventAt i s t) : Advances (.readCycleEnd ack word check) s t where
  counters _ := h.proceeds.counters
  flags _ := h.proceeds.flags
  empty hc := absurd rfl (hc ack word check)
  clock := ⟨h.others.clock.1, h.others.clock.2.2⟩

theorem joinReadResponse_advances (s : State) : Advances c s (joinReadResponse s) := by
  unfold joinReadResponse
  split
  · refine .ite (fun hroom => ?_) fun _ => .refl c s
    have hroom : hasRoom (s.updScanner fun r => { r with pendingRead := none }) = true := hroom
    exact (Advances.updScanner s _).trans (.of_queues _ (joinTransmit_queues hroom _))
  all_goals exact .refl c s

theorem cycleEnds_advances {ack : Bool} {w check : Byte} (k : BusCycle) (good : Bool) (word : Byte) (s : State) :
    Advances (.readCycleEnd ack w check) s (cycleEnds k good word s) := by
  have hsample : Advances (.readCycleEnd ack w check) s (sample k.address good word s) := by
    refine .ite (fun _ => ?_) fun _ => ?_
    · exact ((Advances.bumpSlotBy s k.address _ 1).trans (.updPort _ _ _)).trans (.of_read (deliver_eventAt k.address _ _))
    · have hread := (Advances.bumpSlotBy (c := .readCycleEnd ack w check) s k.address .scanFailed 1).trans
        (.updPort _ k.address fun r => { r with noResponse := min 8 (r.noResponse + 1) })
      exact .ite (fun _ => hread.trans (.raiseFlag _ _ _)) fun _ => hread
  refine .trans ?_ (.updScanner _ _)
  refine .ite (fun _ => ?_) fun _ => hsample.trans (.updScanner _ _)
  exact (hsample.trans (.updScanner _ _)).trans (joinReadResponse_advances _)

/-! Every command but the resets. -/

theorem engineCommit_advances (e : EngineIx) (m : MoveRecord) (s : State) : Advances c s (engineCommit e m s) :=
  .follows (engineCommit_follows e m s)

theorem updBin_advances (p : PoolIx) (b : BinIx) (f : BinRecord → BinRecord) (s : State) : Advances c s (s.updBin p b f) :=
  .updPool s fun _ => rfl

theorem grant_advances (e : EngineIx) (p : PoolIx) (entry : PlanEntry) (rest : List PlanEntry) (s : State) :
    Advances c s (grant e p entry rest s) := by
  have hset (m : MoveRecord) (s : State) : Advances c s (s.setEngine e (some m)) := .follows (.setEngine e _ s)
  have hstart (m : MoveRecord) (s : State) : Advances c s (startMove e m s) :=
    .ite (fun _ => hset _ s) fun _ => .ite (fun _ => hset _ s) fun _ => (hset m s).trans (engineCommit_advances e m _)
  refine .trans ?_ (hstart _ _)
  have hpool : Advances c s (s.updPool p fun r => { r with plan := rest, rampTimer := some r.rampInterval }) :=
    .updPool s fun _ => rfl
  refine .trans (hpool.trans ?_) (updBin_advances ..)
  exact .of_counters { CountersRise.refl _ with } rfl ⟨rfl, rfl⟩

theorem event_advances (hrequest : isRequest c = false) (hon : c ≠ .powerOn) (hpin : c ≠ .pinReset)
    (h : exec c s = .next t) : Advances c s t := by
  cases c
  case powerOn => exact absurd rfl hon
  case pinReset => exact absurd rfl hpin
  case coreRxStart =>
    simp only [exec, execCoreRxStart] at h
    split at h <;> cases h
    · exact .updCore s fun k n => le_refl (k.counters.get n).toNat
    · exact .refl _ _
  case slotRxStart i =>
    obtain rfl := eq_ran h
    exact .ite (fun _ => .updLink s i _) fun _ => .refl _ _
  case coreRxEnd => exact coreRxEnd_advances h
  case slotRxEnd => exact slotRxEnd_advances h
  case lockGained i =>
    obtain rfl := eq_ran h
    exact .updLink s i _
  case lockLost i =>
    obtain rfl := eq_ran h
    exact .ite (fun _ => (cutReception_advances i s).trans (.updLink _ i _)) fun _ => .refl _ _
  case attemptSuccess i =>
    obtain rfl := eq_ran h
    refine .ite (fun _ => .trans ?_ (linkUpReported_advances i _)) fun _ => .refl _ _
    exact ((Advances.updLink s i _).trans (.bumpSlotBy _ i _ 1)).trans (.updMonitor _ i _)
  case attemptTimerExpiry i =>
    obtain rfl := eq_ran h
    exact .ite (fun _ => attemptFailed_advances i s) fun _ => .refl _ _
  case trainingLockLoss i =>
    obtain rfl := eq_ran h
    exact .ite (fun _ => (Advances.bumpSlotBy s i .lockLosses 1).trans (attemptFailed_advances i _)) fun _ => .refl _ _
  case lockLossExpiry i =>
    obtain rfl := eq_ran h
    refine .ite (fun _ => .trans ?_ (lockLossReported_advances i _)) fun _ => .refl _ _
    refine .trans ?_ (.links (reportLeftUp_links i _) (reportLeftUp_eventAt i _))
    exact ((Advances.updLink s i _).trans (.bumpSlotBy _ i .lockLosses 1)).trans (cutReception_advances i _)
  case remotePauseExpiry i =>
    obtain rfl := eq_ran h
    exact .updLink s i _
  case slotTxStart i =>
    obtain rfl | ⟨-, tx, rest, -, rfl⟩ := slotTxStart_cases h
    · exact .refl _ _
    · exact .updLink s i _
  case controlTxEnd i =>
    obtain rfl := eq_ran h
    exact .ite (fun _ => (Advances.updLink s i _).trans (.bumpSlotBy _ i .controlSent 1)) fun _ => .refl _ _
  case egressTxEnd i =>
    obtain rfl | ⟨entry, rest, -, rfl⟩ := egressTxEnd_cases h
    · exact .refl _ _
    · refine .trans ?_ (.follows ((reportLeft_follows entry _).trans (evaluateConfirmation_follows i _)))
      refine .trans ?_ (.bumpSlotBy _ i .delivered 1)
      exact .of_counters { CountersRise.refl s with } rfl ⟨rfl, rfl⟩
  case coreArbiterChoice =>
    obtain rfl | ⟨tx, pointer, rfl⟩ := coreArbiterChoice_cases h
    · exact .refl _ _
    · exact .updCore s fun k n => le_refl (k.counters.get n).toNat
  case upstreamTxEnd =>
    obtain rfl | ⟨i, rfl⟩ := upstreamTxEnd_cases h
    · exact .refl _ _
    · refine .trans ?_ (.links (pauseAtTxEnd_links i _) (pauseAtTxEnd_eventAt i _))
      refine .trans (.trans ?_ (.updUpstream _ i _)) (.bumpSlotBy _ i .upstreamSent 1)
      exact .updCore s fun k n => le_refl (k.counters.get n).toNat
  case mgmtTxEnd =>
    obtain rfl | ⟨k, rfl⟩ := mgmtTxEnd_cases h
    · exact .refl _ _
    · refine .trans (.trans (.updCore (f := fun k => { k with tx := .idle }) s fun k n => le_refl (k.counters.get n).toNat) ?_)
        (.bumpAgent _ k)
      exact .updAgent _ fun a n => le_refl (a.counters.get n).toNat
  case refreshTimerExpiry i =>
    obtain rfl := eq_ran h
    exact .links (pauseAtRefresh_links i s) (pauseAtRefresh_eventAt i s)
  case probeWindowExpiry i =>
    obtain rfl := eq_ran h
    exact .ite (fun hc => .event_of_ne (enterFaulted_eventAt i s _) (hc.1 ▸ nofun)) fun _ => .refl _ _
  case qualifyTimerExpiry i =>
    obtain rfl := eq_ran h
    exact .ite (fun hc => .event_of_ne (enterFaulted_eventAt i s _) (hc.1 ▸ nofun)) fun _ => .refl _ _
  case deadlineExpiry i =>
    obtain rfl := eq_ran h
    exact .ite (fun hc => .event_of_ne (deadlinePasses_eventAt i s) (hc.1 ▸ nofun)) fun _ => .refl _ _
  case acknowledgmentExpiry i =>
    obtain rfl := eq_ran h
    exact .ite (fun hc => .event_of_ne (enterDrained_eventAt i s fun s => raiseFlag_eventAt i .ackMissing s) (hc.1 ▸ nofun))
      fun _ => .refl _ _
  case drainTimerExpiry e =>
    obtain rfl | ⟨m, -, rfl | rfl⟩ := moveTimer_cases (.inl h)
    · exact .refl _ _
    · exact engineCommit_advances e m s
    · exact (engineCommit_advances e m s).trans (.follows (bumpPool_follows _ _ _ _))
  case settleTimerExpiry e =>
    obtain rfl | ⟨m, -, rfl | rfl⟩ := moveTimer_cases (.inr h)
    · exact .refl _ _
    · exact engineCommit_advances e m s
    · exact (engineCommit_advances e m s).trans (.follows (bumpPool_follows _ _ _ _))
  case rampTimerExpiry p =>
    obtain rfl := eq_ran h
    exact .updPool s fun _ => rfl
  case engineGrant =>
    obtain rfl | ⟨e, p, entry, rest, -, -, -, rfl⟩ := engineGrant_cases h
    · exact .refl _ _
    · exact grant_advances e p entry rest s
  case adoptionTimerExpiry p =>
    obtain rfl := eq_ran h
    refine .ite (fun _ => .follows ?_) fun _ => .refl _ _
    refine ((dropStale_follows p s).trans ?_).trans (recompute_follows p _)
    exact .updPool' (fun _ => rfl) fun _ => rfl
  case readCycleEnd ack word check =>
    obtain rfl | ⟨k, -, rfl⟩ := readCycleEnd_cases h
    · exact .refl _ _
    · exact cycleEnds_advances k _ _ s
  case scanReadResponse =>
    obtain rfl := eq_ran h
    exact joinReadResponse_advances s
  case saturationLatch i =>
    obtain rfl := eq_ran h
    exact .ite (fun _ => .updMonitor s i _) fun _ => .refl _ _
  case beaconAlarm i =>
    obtain rfl := eq_ran h
    refine .ite (fun _ => .trans ?_ (alarmReported_advances i _)) fun _ => .refl _ _
    exact (Advances.updMonitor s i _).trans (.raiseFlag _ i .beaconAlarm)
  case lampBaseStep =>
    obtain rfl := eq_ran h
    have hstep : Advances .lampBaseStep s (stepLamps s) := by
      unfold stepLamps
      exact .updLamps s _
    exact hstep
  all_goals cases hrequest

theorem exec_advances (hon : c ≠ .powerOn) (hpin : c ≠ .pinReset) (h : exec c s = .next t) : Advances c s t := by
  by_cases hrequest : isRequest c = true
  · exact eq_ran h ▸ request_advances hrequest
  · exact event_advances (Bool.eq_false_iff.mpr hrequest) hon hpin h

/-- Settles O60: each command either runs an effect of a request or an event, and each of them advances counters and flags. -/
theorem countersFlagsAndEmptySlotsStand : Obligations.CountersFlagsAndEmptySlotsStand := fun _ _ _ h hon hpin =>
  have hadv := exec_advances hon hpin h
  ⟨hadv.counters, hadv.flags, hadv.empty⟩

/-! What a step leaves of the clock and the waiting commands. -/

theorem timed_clock (hc : isTimed c = true) (h : exec c s = .next t) : t.micros = s.micros ∧ t.pending = s.pending :=
  (exec_advances (by rintro rfl; cases hc) (by rintro rfl; cases hc) h).clock

/-- What every timed command keeps, a list of timed events keeps. -/
theorem takeDue_keeps {P : State → Prop} (htimed : ∀ c s t, isTimed c = true → P s → exec c s = .next t → P t)
    {evs : List TimedEvent} (hevs : ∀ ev ∈ evs, isTimed ev.command = true) (h : P s) : P (forEach takeDue evs s) := by
  induction evs generalizing s with
  | nil => exact h
  | cons ev evs ih =>
    refine ih (fun ev' h' => hevs ev' (.tail ev h')) ?_
    change P (takeDue ev s)
    rw [takeDue_eq]
    split
    · exact htimed _ _ _ (hevs ev (.head _)) h (exec_eq_next _ _)
    · exact h

theorem idle_clock (s : State) : (idle s).micros = (s.micros + 1) % 25000 ∧ (idle s).pending = s.pending := by
  refine takeDue_keeps (P := fun t => t.micros = (s.micros + 1) % 25000 ∧ t.pending = s.pending)
    (fun c u t hc hu h => ⟨(timed_clock hc h).1.trans hu.1, (timed_clock hc h).2.trans hu.2⟩)
    (fun ev hev => isTimed_of_mem s hev) ?_
  have hchoose := (chooseIfIdle_advances (c := .engineGrant) s).clock
  rw [tick_rest]
  exact ⟨by rw [hchoose.1], hchoose.2⟩

/-- Settles O53: the queue's front is run, and an idle step leaves the microsecond the clock's tick has put there. -/
theorem stepRunsTheFrontCommand : Obligations.StepRunsTheFrontCommand := by
  refine ⟨fun s c rest h => by rw [step, h], fun s h => ⟨idle s, by rw [step, h], ?_⟩⟩
  exact ⟨(idle_clock s).1, (idle_clock s).2.trans h⟩

end Sys2Proof.Machine
end

section
/-! SUPPORT. The values that power-on and the pin reset leave (R35, R59, R83, R98, R117, R137, R152, R167, R178, R195, R197). -/

namespace Sys2Proof.Machine

variable {s : State}

/-! The scanner's choice on a bus with no waiting read. -/

theorem ScannerRecord.waitingRead_none {c : ScannerRecord} (h : c.pendingRead = none) : c.waitingRead = none := by
  rw [ScannerRecord.waitingRead, h]

theorem ScannerRecord.chooseCycle_scan {c : ScannerRecord} (hwait : c.waitingRead = none) (hmode : c.mode = .scan) :
    c.chooseCycle = c.beginCycle c.nextAddress false := by
  rw [ScannerRecord.chooseCycle, hwait, hmode]

theorem ScannerRecord.chooseCycle_idle {c : ScannerRecord} (hwait : c.waitingRead = none) (hmode : c.mode ≠ .scan) :
    c.chooseCycle = { c with cycle := none } := by
  unfold ScannerRecord.chooseCycle
  rw [hwait]
  dsimp only
  split
  · next h => exact absurd h hmode
  all_goals rfl

/-- The choice of a cycle leaves the settings, the rotation pointer and the pending read. -/
theorem ScannerRecord.chooseCycle_keeps (c : ScannerRecord) :
    c.chooseCycle.pointer = c.pointer ∧ c.chooseCycle.pendingRead = c.pendingRead ∧ c.chooseCycle.mode = c.mode
    ∧ c.chooseCycle.divisor = c.divisor ∧ c.chooseCycle.preamble = c.preamble
    ∧ c.chooseCycle.firstAddress = c.firstAddress ∧ c.chooseCycle.lastAddress = c.lastAddress
    ∧ c.chooseCycle.debounce = c.debounce := by
  unfold ScannerRecord.chooseCycle
  split
  · exact ⟨rfl, rfl, rfl, rfl, rfl, rfl, rfl, rfl⟩
  · split <;> exact ⟨rfl, rfl, rfl, rfl, rfl, rfl, rfl, rfl⟩

theorem ScannerRecord.beginCycle_forced {c : ScannerRecord} (h : c.forcedPreamble = true) (a : SlotIx) (single : Bool) :
    c.beginCycle a single = { c with cycle := some ⟨a, single, c.mode, c.divisor, true⟩, forcedPreamble := false } := by
  rw [ScannerRecord.beginCycle, h, Bool.or_true]
  rfl

/-- Settles O1: the records of `State.reset` are those of the power-on definitions, table by table. -/
theorem resetLeavesThePowerOnValues : Obligations.ResetLeavesThePowerOnValues := by
  have hslot (i : SlotIx) : State.reset.slots.get i = SlotRecord.powerOn := Table.get_fill _ _
  have hpool (p : PoolIx) : State.reset.pools.get p = PoolRecord.powerOn := Table.get_fill _ _
  refine ⟨hslot, fun p => ?_, fun e => Table.get_fill e _, rfl, fun i => ?_, rfl, rfl, rfl, rfl, rfl, rfl, rfl, rfl, rfl, rfl, rfl,
    rfl, rfl, rfl, rfl, rfl, rfl, rfl, fun c => Table.get_fill c.ix _, fun p c => ?_, fun i c => ?_,
    fun c => Table.get_fill c.ix _, rfl, fun s => rfl⟩
  · rw [hpool]
    exact ⟨rfl, rfl, rfl, rfl, rfl, rfl, rfl, rfl, rfl, rfl, fun i => Table.get_fill i _, fun b => Table.get_fill b _⟩
  · exact ⟨Table.get_fill i _, Table.get_fill i _, Table.get_fill i _, Table.get_fill i _, Table.get_fill i _,
      Table.get_fill i _, Table.get_fill i _⟩
  · rw [State.poolCount, hpool]
    exact Table.get_fill c.ix _
  · rw [State.slotCount, State.reset, Table.get_fill]
    exact Table.get_fill c.ix _

/-- Settles O55: no frame, no bin and no move stands after power-on, and every link is DARK. -/
theorem resetSatisfiesTheLaws : Obligations.ResetSatisfiesTheLaws :=
  ⟨reset_within, reset_noFrames.inflightLaw, reset_idle.laws, linkLaws_iff.mpr reset_linkInv⟩

/-! The pin reset, block by block. -/

theorem pinResetState_slots (s : State) (i : SlotIx) : (pinResetState s).slots.get i = (s.slots.get i).pinReset :=
  Table.get_tab _ i

theorem pinResetState_pools (s : State) (p : PoolIx) : (pinResetState s).pools.get p = (s.pools.get p).pinReset :=
  Table.get_tab _ p

theorem PoolRecord.pinReset_bins (r : PoolRecord) (b : BinIx) : r.pinReset.bins.get b = ⟨(r.bins.get b).owner.pinReset, 0, none⟩ :=
  Table.get_tab _ b

theorem PoolRecord.pinReset_owner (r : PoolRecord) (b : BinIx) (i : SlotIx) :
    ((r.bins.get b).owner = .owned i → (r.pinReset.bins.get b).owner = .stale i)
    ∧ ((r.bins.get b).owner = .stale i → (r.pinReset.bins.get b).owner = .stale i)
    ∧ ((r.bins.get b).owner = .unowned → (r.pinReset.bins.get b).owner = .unowned) := by
  rw [PoolRecord.pinReset_bins]
  exact ⟨fun h => by rw [h]; rfl, fun h => by rw [h]; rfl, fun h => by rw [h]; rfl⟩

theorem ScannerRecord.pinReset_choice (c : ScannerRecord) :
    (c.mode = .scan → c.pinReset.chooseCycle.cycle = some ⟨c.firstAddress, false, .scan, c.divisor, true⟩)
    ∧ (c.mode ≠ .scan → c.pinReset.chooseCycle.cycle = none ∧ c.pinReset.chooseCycle.forcedPreamble = true) := by
  have hwait : c.pinReset.waitingRead = none := ScannerRecord.waitingRead_none rfl
  refine ⟨fun h => ?_, fun h => ?_⟩
  · rw [ScannerRecord.chooseCycle_scan hwait h, ScannerRecord.beginCycle_forced rfl, ← h]
    rfl
  · rw [ScannerRecord.chooseCycle_idle hwait h]
    exact ⟨rfl, rfl⟩

/-- Settles O2: each block is read off its `pinReset`; the cycle begun is the choice of R157. -/
theorem pinResetKeepsSettingsAndClearsTheRest : Obligations.PinResetKeepsSettingsAndClearsTheRest := by
  intro s
  obtain ⟨hpointer, hpending, hmode, hdivisor, hpreamble, hfirst, hlast, hdebounce⟩ := s.scanner.pinReset.chooseCycle_keeps
  have hslot (i : SlotIx) : (chooseCycle (pinResetState s)).slots.get i = (s.slots.get i).pinReset := pinResetState_slots s i
  have hpool (p : PoolIx) : (chooseCycle (pinResetState s)).pools.get p = (s.pools.get p).pinReset := pinResetState_pools s p
  refine ⟨chooseCycle (pinResetState s), rfl, fun i => ?_, fun p => ?_, fun e => Table.get_fill e _, rfl,
    (pinResetState_noFrames s).cells, fun i => ?_, rfl, rfl, rfl, rfl, rfl, rfl, rfl, rfl, rfl, rfl, rfl, rfl, rfl, rfl, rfl,
    rfl, rfl, rfl, fun c => Table.get_fill c.ix _, fun p c => ?_, fun i c => ?_, fun c => Table.get_fill c.ix _,
    hpointer, hpending, hmode, hdivisor, hpreamble, hfirst, hlast, hdebounce, s.scanner.pinReset_choice.1,
    s.scanner.pinReset_choice.2, rfl, rfl⟩
  · rw [hslot]
    exact ⟨rfl, rfl, rfl, rfl, ⟨rfl, rfl, rfl, rfl⟩, rfl, rfl, rfl, rfl, rfl, rfl, rfl, rfl⟩
  · rw [hpool]
    refine ⟨rfl, rfl, rfl, rfl, fun i => Table.get_fill i _, rfl, rfl, rfl, rfl, rfl, rfl, fun b => ?_⟩
    exact ⟨by rw [PoolRecord.pinReset_bins], by rw [PoolRecord.pinReset_bins], (s.pools.get p).pinReset_owner b⟩
  · refine ⟨Table.get_fill i _, Table.get_fill i _, rfl, rfl, Table.get_fill i _, Table.get_fill i _, ?_⟩
    rw [show State.reset.monitors.get i = MonitorRecord.powerOn from Table.get_fill i _]
    exact Table.get_tab _ i
  · rw [State.poolCount, hpool]
    exact Table.get_fill c.ix _
  · rw [State.slotCount, show (chooseCycle (pinResetState s)).slotCounters.get i = Table.fill 24 0 from Table.get_fill i _]
    exact Table.get_fill c.ix _

end Sys2Proof.Machine
end

section
/-! SUPPORT. What the agent does with the request at the head of its queue: the entry's tag and code are the request's, a
refusal changes the queues alone, and an acceptance adds its effect (R184, R202). -/

namespace Sys2Proof

variable {c : Instr} {k : Option (Byte × Byte)} {ps : List Byte} {tag : Byte}

/-- The tag and the code of a request as it stands in its entry (R201); none for a command that is no request. -/
def requestKey : Instr → Option (Byte × Byte)
  | .identify t => some (t, 0x01)
  | .readSlot t _ => some (t, 0x02)
  | .setPolicy t _ _ _ _ _ _ _ _ _ => some (t, 0x03)
  | .setWeight t _ _ => some (t, 0x04)
  | .admitSlot t _ _ _ => some (t, 0x05)
  | .retire t _ _ => some (t, 0x06)
  | .fence t _ => some (t, 0x07)
  | .unfence t _ => some (t, 0x08)
  | .requalify t _ => some (t, 0x09)
  | .slotReset t _ _ => some (t, 0x0A)
  | .clearAlarm t _ => some (t, 0x0B)
  | .setBeacon t _ _ _ _ _ _ => some (t, 0x0C)
  | .poolSet t _ _ _ _ _ _ _ => some (t, 0x0D)
  | .poolEnable t _ => some (t, 0x0E)
  | .poolDisable t _ => some (t, 0x0F)
  | .readPool t _ => some (t, 0x10)
  | .readBins t _ => some (t, 0x11)
  | .readMoves t _ => some (t, 0x12)
  | .setScan t _ _ _ _ _ _ => some (t, 0x13)
  | .scanRead t _ => some (t, 0x14)
  | .scanRestart t => some (t, 0x15)
  | .setLampPattern t _ _ _ _ => some (t, 0x16)
  | .setLampMap t _ => some (t, 0x17)
  | .lampOverride t _ _ => some (t, 0x18)
  | .readAttention t => some (t, 0x19)
  | .clearAttention t _ _ => some (t, 0x1A)
  | .readCounters t => some (t, 0x1B)
  | .clearCounters t => some (t, 0x1C)
  | .setDevice t _ _ _ _ _ => some (t, 0x1D)
  | .readCause t => some (t, 0x1E)
  | .restart t => some (t, 0x1F)
  | .unknownRequest _ => none
  | .powerOn | .pinReset | .coreRxStart | .coreRxEnd _ _ | .slotRxStart _ | .slotRxEnd _ _ _
  | .lockGained _ | .lockLost _ | .attemptSuccess _ | .attemptTimerExpiry _ | .trainingLockLoss _
  | .lockLossExpiry _ | .remotePauseExpiry _ | .slotTxStart _ | .controlTxEnd _ | .egressTxEnd _
  | .coreArbiterChoice | .upstreamTxEnd | .mgmtTxEnd | .refreshTimerExpiry _ | .probeWindowExpiry _
  | .qualifyTimerExpiry _ | .deadlineExpiry _ | .acknowledgmentExpiry _ | .drainTimerExpiry _
  | .settleTimerExpiry _ | .rampTimerExpiry _ | .engineGrant | .adoptionTimerExpiry _
  | .readCycleEnd _ _ _ | .scanReadResponse | .saturationLatch _ | .beaconAlarm _ | .lampBaseStep => none

/-! The decoders keep tag and code. -/

theorem decodeBare_key {r : Instr} (hr : requestKey r = k) (h : decodeBare r ps = some c) : requestKey c = k := by
  unfold decodeBare at h
  split at h <;> cases h
  exact hr

theorem decodeOne_key {r : Byte → Instr} (hr : ∀ a, requestKey (r a) = k) (h : decodeOne r ps = some c) : requestKey c = k := by
  unfold decodeOne at h
  split at h <;> cases h
  exact hr _

theorem decodeTwo_key {r : Byte → Byte → Instr} (hr : ∀ a b, requestKey (r a b) = k) (h : decodeTwo r ps = some c) :
    requestKey c = k := by
  unfold decodeTwo at h
  split at h <;> cases h
  exact hr _ _

theorem decodeThree_key {r : Byte → Byte → Byte → Instr} (hr : ∀ a b d, requestKey (r a b d) = k)
    (h : decodeThree r ps = some c) : requestKey c = k := by
  unfold decodeThree at h
  split at h <;> cases h
  exact hr _ _ _

theorem whenDone_key {r : Instr} (hr : requestKey r = k) (h : whenDone ps r = some c) : requestKey c = k := by
  unfold whenDone at h
  split at h <;> cases h
  exact hr

theorem decodeSetPolicy_key (h : decodeSetPolicy tag ps = some c) : requestKey c = some (tag, 0x03) := by
  unfold decodeSetPolicy at h
  split at h
  · split at h
    · simp only [Option.bind_eq_bind, Option.bind_eq_some_iff] at h
      obtain ⟨_, -, _, -, _, -, _, -, _, -, h⟩ := h
      exact whenDone_key rfl h
    · cases h
  · cases h

theorem decodeSetBeacon_key (h : decodeSetBeacon tag ps = some c) : requestKey c = some (tag, 0x0C) := by
  unfold decodeSetBeacon at h
  split at h
  · split at h
    · simp only [Option.bind_eq_bind, Option.bind_eq_some_iff] at h
      obtain ⟨_, -, _, -, _, -, _, -, _, -, h⟩ := h
      exact whenDone_key rfl h
    · cases h
  · cases h

theorem decodePoolSet_key (h : decodePoolSet tag ps = some c) : requestKey c = some (tag, 0x0D) := by
  unfold decodePoolSet at h
  split at h
  · split at h
    · simp only [Option.bind_eq_bind, Option.bind_eq_some_iff] at h
      obtain ⟨_, -, _, -, _, -, _, -, _, -, _, -, h⟩ := h
      exact whenDone_key rfl h
    · cases h
  · cases h

theorem decodeSetScan_key (h : decodeSetScan tag ps = some c) : requestKey c = some (tag, 0x13) := by
  unfold decodeSetScan at h
  split at h
  · split at h
    · simp only [Option.bind_eq_bind, Option.bind_eq_some_iff] at h
      obtain ⟨_, -, _, -, _, -, _, -, _, -, _, -, h⟩ := h
      exact whenDone_key rfl h
    · cases h
  · cases h

theorem decodeSetLampPattern_key (h : decodeSetLampPattern tag ps = some c) : requestKey c = some (tag, 0x16) := by
  unfold decodeSetLampPattern at h
  split at h
  · split at h
    · simp only [Option.bind_eq_bind, Option.bind_eq_some_iff] at h
      obtain ⟨_, -, _, -, _, -, h⟩ := h
      exact whenDone_key rfl h
    · cases h
  · cases h

theorem decodeSetLampMap_key (h : decodeSetLampMap tag ps = some c) : requestKey c = some (tag, 0x17) := by
  unfold decodeSetLampMap at h
  split at h
  · split at h
    · split at h <;> cases h
      rfl
    · cases h
  · cases h

theorem decodeSetDevice_key (h : decodeSetDevice tag ps = some c) : requestKey c = some (tag, 0x1D) := by
  unfold decodeSetDevice at h
  split at h
  · split at h
    · simp only [Option.bind_eq_bind, Option.bind_eq_some_iff] at h
      obtain ⟨_, -, _, -, _, -, _, -, _, -, h⟩ := h
      exact whenDone_key rfl h
    · cases h
  · cases h

/-- A body is read as a request of its own tag and code. -/
theorem decodeBody_key {code : Byte} (h : decodeBody tag code ps = some c) : requestKey c = some (tag, code) := by
  unfold decodeBody at h
  generalize hn : code.toNat = n at h
  obtain rfl : code = BitVec.ofNat 8 n := by rw [← hn, BitVec.ofNat_toNat, BitVec.setWidth_eq]
  clear hn
  split at h
  · exact decodeBare_key rfl h
  · exact decodeOne_key (fun _ => rfl) h
  · exact decodeSetPolicy_key h
  · exact decodeTwo_key (fun _ _ => rfl) h
  · exact decodeThree_key (fun _ _ _ => rfl) h
  · exact decodeTwo_key (fun _ _ => rfl) h
  · exact decodeOne_key (fun _ => rfl) h
  · exact decodeOne_key (fun _ => rfl) h
  · exact decodeOne_key (fun _ => rfl) h
  · exact decodeTwo_key (fun _ _ => rfl) h
  · exact decodeOne_key (fun _ => rfl) h
  · exact decodeSetBeacon_key h
  · exact decodePoolSet_key h
  · exact decodeOne_key (fun _ => rfl) h
  · exact decodeOne_key (fun _ => rfl) h
  · exact decodeOne_key (fun _ => rfl) h
  · exact decodeOne_key (fun _ => rfl) h
  · exact decodeOne_key (fun _ => rfl) h
  · exact decodeSetScan_key h
  · exact decodeOne_key (fun _ => rfl) h
  · exact decodeBare_key rfl h
  · exact decodeSetLampPattern_key h
  · exact decodeSetLampMap_key h
  · exact decodeTwo_key (fun _ _ => rfl) h
  · exact decodeBare_key rfl h
  · exact decodeThree_key (fun _ _ _ => rfl) h
  · exact decodeBare_key rfl h
  · exact decodeBare_key rfl h
  · exact decodeSetDevice_key h
  · exact decodeBare_key rfl h
  · exact decodeBare_key rfl h
  · cases h

/-- An entry is read as an unknown request, or as one of its own tag and code. -/
theorem decodeRequest_key (e : RequestEntry) : decodeRequest e = .unknownRequest e
    ∨ ∃ code, e.code = some code ∧ requestKey (decodeRequest e) = some (e.tag, code) := by
  unfold decodeRequest
  split
  · next code _ hcode =>
    rcases hbody : decodeBody e.tag code e.params with _ | c
    · exact .inl rfl
    · exact .inr ⟨code, hcode, decodeBody_key hbody⟩
  · exact .inl rfl

namespace Machine

variable {s : State} {code : Byte} {owner : State → Answer} {effect : State → State} {results : State → List Byte}
  {status : Status}

/-- The entry of the request at the head of the queue. -/
theorem Heads.entry (h : Heads c s) : ∃ r rest, s.agent.requests = r :: rest ∧ decodeRequest r.entry = c
    ∧ s.agent.transmit.length < Config.transmitCapacity := by
  obtain ⟨hhead, hroom⟩ := h
  rcases hq : s.agent.requests with _ | ⟨r, rest⟩
  · rw [hq] at hhead
    cases hhead
  · rw [hq] at hhead
    exact ⟨r, rest, rfl, Option.some.inj hhead, hroom⟩

/-- A request at the head is answered under its own tag and code. -/
theorem processRequest_of_heads (h : Heads c s) (hkey : requestKey c = some (tag, code)) :
    ∃ e : RequestEntry, e.tag = tag ∧ e.code = some code
      ∧ processRequest c owner s = answerRequest e (owner (dropRequest s)) (dropRequest s) := by
  obtain ⟨r, rest, hq, hd, hroom⟩ := h.entry
  obtain hunknown | ⟨code', hcode, hkey'⟩ := decodeRequest_key r.entry
  · rw [← hd, hunknown] at hkey
    cases hkey
  · rw [hd, hkey] at hkey'
    cases hkey'
    exact ⟨r.entry, rfl, hcode, processRequest_of_head hq hd hroom⟩

/-- A refusal changes the two queues alone (R181). -/
theorem processRequest_refused (h : Heads c s) (hkey : requestKey c = some (tag, code))
    (howner : owner (dropRequest s) = .refuse status) :
    processRequest c owner s = answered s [tag, code, statusByte status] := by
  obtain ⟨e, rfl, hcode, he⟩ := processRequest_of_heads (owner := owner) h hkey
  rw [he, howner, answerRequest, responseOf, hcode]
  rfl

/-- The state in which an accepted request takes its effect: its entry gone, the place of its response held. -/
def accepting (s : State) : State := joinTransmit [] (dropRequest s)

/-- The response takes the place held for it. -/
theorem accepting_filled (s : State) (payload : List Byte) :
    { (accepting s).agent with transmit := (accepting s).agent.transmit.set s.agent.transmit.length payload }
      = (answered s payload).agent := by
  have hset : (s.agent.transmit ++ [[]]).set s.agent.transmit.length payload = s.agent.transmit ++ [payload] := by
    rw [List.set_append_right _ _ le_rfl, Nat.sub_self, List.set_cons_zero]
  exact congrArg (fun l => { s.agent with requests := s.agent.requests.tail, transmit := l }) hset

/-- An acceptance fills in the response once the effect is complete (R184). -/
theorem processRequest_accepted (h : Heads c s) (hkey : requestKey c = some (tag, code))
    (howner : owner (dropRequest s) = .accept effect results) :
    processRequest c owner s = (effect (accepting s)).updAgent fun a =>
      { a with transmit := a.transmit.set s.agent.transmit.length ([tag, code, 0] ++ results (effect (accepting s))) } := by
  obtain ⟨e, rfl, hcode, he⟩ := processRequest_of_heads (owner := owner) h hkey
  rw [he, howner, answerRequest, acceptRequest, responseOf, hcode]
  rfl

/-- An effect that leaves the agent: the response is the only thing that joins the transmit queue. -/
theorem processRequest_effect (h : Heads c s) (hkey : requestKey c = some (tag, code))
    (howner : owner (dropRequest s) = .accept effect results)
    (hagent : (effect (accepting s)).agent = (accepting s).agent) :
    processRequest c owner s = { effect (accepting s) with
      agent := (answered s ([tag, code, 0] ++ results (effect (accepting s)))).agent } := by
  rw [processRequest_accepted h hkey howner, State.updAgent, hagent, accepting_filled]

/-- A report changes the two queues alone (R181). -/
theorem processRequest_reported (h : Heads c s) (hkey : requestKey c = some (tag, code))
    (howner : owner (dropRequest s) = report results) :
    processRequest c owner s = answered s ([tag, code, 0] ++ results (accepting s)) :=
  processRequest_effect h hkey howner rfl

end Machine

end Sys2Proof
end

section
/-! SUPPORT. Requests that are refused, and the clears of attention and counters (R184, R186, R190, R194). -/

namespace Sys2Proof.Machine

variable {s : State} {c : Instr} {tag code slot pool : Byte} {i : SlotIx} {p : PoolIx} {owner : State → Answer}
  {effect : State → State} {results : State → List Byte} {status : Status}

theorem exec_refused (hexec : exec c s = .next (processRequest c owner s)) (h : Heads c s)
    (hkey : requestKey c = some (tag, code)) (howner : owner (dropRequest s) = .refuse status) :
    exec c s = .next (answered s [tag, code, statusByte status]) :=
  hexec.trans (congrArg _ (processRequest_refused h hkey howner))

theorem exec_reported (hexec : exec c s = .next (processRequest c owner s)) (h : Heads c s)
    (hkey : requestKey c = some (tag, code)) (howner : owner (dropRequest s) = report results) :
    exec c s = .next (answered s ([tag, code, 0] ++ results (accepting s))) :=
  hexec.trans (congrArg _ (processRequest_reported h hkey howner))

theorem exec_effect (hexec : exec c s = .next (processRequest c owner s)) (h : Heads c s)
    (hkey : requestKey c = some (tag, code)) (howner : owner (dropRequest s) = .accept effect results)
    (hagent : (effect (accepting s)).agent = (accepting s).agent) :
    exec c s = .next { effect (accepting s) with
      agent := (answered s ([tag, code, 0] ++ results (effect (accepting s)))).agent } :=
  hexec.trans (congrArg _ (processRequest_effect h hkey howner hagent))

theorem exec_accepted (hexec : exec c s = .next (processRequest c owner s)) (h : Heads c s)
    (hkey : requestKey c = some (tag, code)) (howner : owner (dropRequest s) = .accept effect results) :
    exec c s = .next ((effect (accepting s)).updAgent fun a =>
      { a with transmit := a.transmit.set s.agent.transmit.length ([tag, code, 0] ++ results (effect (accepting s))) }) :=
  hexec.trans (congrArg _ (processRequest_accepted h hkey howner))

/-- An effect on the agent that leaves its queues. -/
theorem exec_accepted_agent {g : AgentRecord → AgentRecord} (hexec : exec c s = .next (processRequest c owner s)) (h : Heads c s)
    (hkey : requestKey c = some (tag, code)) (howner : owner (dropRequest s) = .accept (fun s => s.updAgent g) results)
    (hqueue : ∀ a, (g a).transmit = a.transmit) (hg : ∀ a l, { g a with transmit := l } = g { a with transmit := l }) :
    exec c s = .next { s with agent := g (answered s ([tag, code, 0] ++ results ((accepting s).updAgent g))).agent } := by
  rw [exec_accepted hexec h hkey howner, ← accepting_filled, ← hg, ← hqueue (accepting s).agent]
  rfl

/-! The numbers that name no slot and no pool. -/

theorem slotOf_none (h : slot.toNat = 0 ∨ 12 < slot.toNat) : slotOf slot = none := by
  rw [slotOf, dif_neg (by omega)]

theorem poolOf_none (h : 3 < pool.toNat) : poolOf pool = none := by
  rw [poolOf, dif_neg (by omega)]

theorem withSlot_none (h : slot.toNat = 0 ∨ 12 < slot.toNat) (f : SlotIx → Answer) : withSlot slot f = .refuse .badSlot := by
  rw [withSlot, slotOf_none h]

theorem withPool_none (h : 3 < pool.toNat) (f : PoolIx → Answer) : withPool pool f = .refuse .badPool := by
  rw [withPool, poolOf_none h]

theorem withSlot_of (h : slot.toNat = i.val + 1) (f : SlotIx → Answer) : withSlot slot f = f i := by
  rw [withSlot, slotOf_of_toNat h]

theorem withPool_of (h : pool.toNat = p.val) (f : PoolIx → Answer) : withPool pool f = f p := by
  rw [withPool, poolOf_of_toNat h]

theorem slotOf_within (h : 1 ≤ slot.toNat ∧ slot.toNat ≤ 12) : ∃ i : SlotIx, slot.toNat = i.val + 1 :=
  ⟨⟨slot.toNat - 1, by omega⟩, (Nat.sub_add_cancel h.1).symm⟩

/-- An unknown request at the head is the entry itself. -/
theorem heads_unknown {e : RequestEntry} (h : Heads (.unknownRequest e) s) :
    ∃ r rest, s.agent.requests = r :: rest ∧ r.entry = e ∧ decodeRequest e = .unknownRequest e
      ∧ s.agent.transmit.length < Config.transmitCapacity := by
  obtain ⟨r, rest, hq, hd, hroom⟩ := h.entry
  obtain hunknown | ⟨code', -, hkey⟩ := decodeRequest_key r.entry
  · rw [hd] at hunknown
    cases hunknown
    exact ⟨r, rest, hq, rfl, hd, hroom⟩
  · rw [hd] at hkey
    cases hkey

theorem isRequest_of_encode (h : (encodeRequest c).isSome) : isRequest c = true := by
  cases c <;> simp_all [encodeRequest, isRequest]

/-- Settles O44: a name that is no slot or pool is refused before the owner looks at anything else. -/
theorem refusedRequestsChangeOnlyTheQueues : Obligations.RefusedRequestsChangeOnlyTheQueues := by
  refine ⟨fun s e h => ?_, fun s c code tag slot h hslot hc => ?_, fun s c code tag pool h hpool hc => ?_, fun s c hc h => ?_⟩
  · obtain ⟨r, rest, hq, rfl, hd, hroom⟩ := heads_unknown h
    exact congrArg Host.Outcome.next (processRequest_of_head (owner := fun _ => .refuse .badRequest) hq hd hroom)
  · have hbad (f : SlotIx → Answer) : withSlot slot f = .refuse .badSlot := withSlot_none hslot f
    obtain ⟨rfl, rfl⟩ | ⟨_, _, _, _, _, _, _, _, rfl, rfl⟩ | ⟨_, rfl, rfl⟩ | ⟨_, _, rfl, rfl⟩ | ⟨_, rfl, rfl⟩ | ⟨rfl, rfl⟩
      | ⟨rfl, rfl⟩ | ⟨rfl, rfl⟩ | ⟨_, rfl, rfl⟩ | ⟨rfl, rfl⟩ | ⟨_, _, _, _, _, rfl, rfl⟩ | ⟨rfl, rfl⟩ | ⟨_, rfl, rfl⟩
      | ⟨_, rfl, hne, rfl⟩ := hc
    case inr.inr.inr.inr.inr.inr.inr.inr.inr.inr.inr.inr.inr =>
      exact exec_refused (status := .badSlot) rfl h rfl ((if_neg hne).trans (hbad _))
    all_goals exact exec_refused (status := .badSlot) rfl h rfl (hbad _)
  · have hbad (f : PoolIx → Answer) : withPool pool f = .refuse .badPool := withPool_none hpool f
    obtain ⟨_, _, _, _, _, _, rfl, rfl⟩ | ⟨rfl, rfl⟩ | ⟨rfl, rfl⟩ | ⟨rfl, rfl⟩ | ⟨rfl, rfl⟩ | ⟨rfl, rfl⟩
      | ⟨slot, _, rfl, hlow, hhigh, rfl⟩ := hc
    case inr.inr.inr.inr.inr.inr =>
      obtain ⟨i, hi⟩ := slotOf_within ⟨hlow, hhigh⟩
      exact exec_refused (status := .badPool) rfl h rfl ((withSlot_of hi _).trans (hbad _))
    all_goals exact exec_refused (status := .badPool) rfl h rfl (hbad _)
  · obtain ⟨owner, hexec, -⟩ := exec_request (isRequest_of_encode hc) s
    rw [hexec, processRequest_waits fun r rest hq hd hroom => h ?_]
    rw [Heads, hq]
    exact ⟨congrArg some hd, hroom⟩

/-! The clears. -/

theorem getLsbD_cleared {n : Nat} (flags : BitVec n) (mask : BitVec 16) {k : Nat} (hk : k < n) :
    (flags &&& ~~~(mask.setWidth n)).getLsbD k = (flags.getLsbD k && !mask.getLsbD k) := by
  simp [hk]

theorem clearAllCounters_counts (s : State) :
    (∀ k, (clearAllCounters s).coreCount k = 0) ∧ (∀ p k, (clearAllCounters s).poolCount p k = 0)
    ∧ (∀ i k, (clearAllCounters s).slotCount i k = 0) ∧ ∀ k, (clearAllCounters s).agentCount k = 0 := by
  refine ⟨fun k => Table.get_fill k.ix _, fun p k => ?_, fun i k => ?_, fun k => Table.get_fill k.ix _⟩
  · rw [State.poolCount, clearAllCounters, Table.get_tab]
    exact Table.get_fill k.ix _
  · rw [State.slotCount, clearAllCounters, Table.get_fill]
    exact Table.get_fill k.ix _

theorem exec_clearCounters (h : Heads (.clearCounters tag) s) :
    exec (.clearCounters tag) s = .next (clearAllCounters (answered s [tag, 0x1C, 0])) := by
  rw [exec_accepted rfl h rfl (by exact rfl)]
  exact congrArg (fun a => Host.Outcome.next { clearAllCounters s with agent := { a with counters := Table.fill 5 0 } })
    (accepting_filled s [tag, 0x1C, 0])

theorem slotByte_of (h : slot.toNat = i.val + 1) : slotByte i = slot := by
  rw [slotByte, byteOf, ← h, BitVec.ofNat_toNat, BitVec.setWidth_eq]

/-- Settles O51: a mask takes its bits from the flags, and a bit that names none is refused. -/
theorem clearsClearWhatTheyName : Obligations.ClearsClearWhatTheyName := by
  refine ⟨fun s tag slot mask i h hslot => ?_, fun s tag mask h => ⟨fun hmask => ?_, fun hmask => ?_⟩, fun s tag h => ?_⟩
  · have hanswer : answerClearAttention slot mask = if mask.toNat < 2 ^ 11 then _ else _ :=
      (if_neg (by rintro rfl; simp at hslot)).trans (withSlot_of hslot _)
    refine ⟨fun hmask => ?_, fun hmask => ⟨_, fun k hk => getLsbD_cleared _ mask hk, ?_⟩⟩
    · exact exec_refused (status := .range) rfl h rfl (hanswer.trans (if_neg (Nat.not_lt.mpr hmask)))
    · rw [exec_effect rfl h rfl (hanswer.trans (if_pos hmask)) rfl, slotFlagsResult, State.updSlot_slots, Table.get_modify_self,
        slotByte_of hslot]
      rfl
  · exact exec_refused (status := .range) rfl h rfl ((if_pos rfl).trans (if_neg (Nat.not_lt.mpr hmask)))
  · refine ⟨_, fun k hk => getLsbD_cleared _ mask hk, ?_⟩
    exact exec_accepted_agent (g := fun a => { a with deviceFlags := a.deviceFlags &&& ~~~(mask.setWidth 2) }) rfl h rfl
      ((if_pos rfl).trans (if_pos hmask)) (fun _ => rfl) fun _ _ => rfl
  · obtain ⟨hcore, hpool, hslot, hagent⟩ := clearAllCounters_counts (answered s [tag, 0x1C, 0])
    refine ⟨_, exec_clearCounters h, hcore, hpool, hslot, hagent, ?_⟩
    rw [clearAllCounters]
    simp only [Table.get_tab]
    rfl

end Sys2Proof.Machine
end

section
/-! SUPPORT. The four requests that write settings (R31, R38, R149, R191): what a carried field asks for, and the records that
stand after it. -/

namespace Sys2Proof.Machine

variable {s : State} {tag slot pool : Byte} {i : SlotIx} {p : PoolIx} {α : Type} {read : Byte → Option α} {field : Option Byte}

/-! The fields a request carries. -/

theorem known_some {f : Byte → α} (h : ∀ b, field = some b → read b = some (f b)) : known read field = some (field.map f) := by
  cases field with
  | none => rfl
  | some b => rw [known, h b rfl]; rfl

theorem known_none {b : Byte} (hb : field = some b) (h : read b = none) : known read field = none := by
  rw [hb, known, h]
  rfl

theorem illegal_field {P : Byte → Prop} (h : ¬ ∀ b, field = some b → P b) : ∃ b, field = some b ∧ ¬ P b := by
  obtain ⟨b, hcarried⟩ := not_forall.mp h
  exact ⟨b, Classical.not_imp.mp hcarried⟩

theorem clampTo_eq (lo hi n : Nat) : clampTo lo hi n = max lo (min hi n) := by rw [clampTo, min_comm]

theorem policyPoolOf_legal {b : Byte} (h : b.toNat ≤ 3 ∨ b = 0xFF) : policyPoolOf b = some (poolOf b) := by
  unfold policyPoolOf
  split
  · next hb => rw [hb]; rfl
  · next hb =>
    obtain h | h := h
    · rw [poolOf, dif_pos (by omega)]
      rfl
    · exact absurd h hb

theorem policyPoolOf_illegal {b : Byte} (h : ¬ (b.toNat ≤ 3 ∨ b = 0xFF)) : policyPoolOf b = none := by
  rw [policyPoolOf, if_neg fun hb => h (.inr hb), poolOf_none (by omega)]
  rfl

theorem rateModeOf_legal {b : Byte} (h : b.toNat ≤ 2) : ∃ m, rateModeOf b = some m ∧ rateModeCode m = b.toNat := by
  unfold rateModeOf
  have hcases : b.toNat = 0 ∨ b.toNat = 1 ∨ b.toNat = 2 := by omega
  obtain hb | hb | hb := hcases <;> rw [hb] <;> exact ⟨_, rfl, rfl⟩

theorem rateModeOf_illegal {b : Byte} (h : ¬ b.toNat ≤ 2) : rateModeOf b = none := by
  unfold rateModeOf
  split
  · omega
  · omega
  · omega
  · rfl

theorem monitorModeOf_legal {b : Byte} (h : b.toNat ≤ 1) : ∃ m, monitorModeOf b = some m ∧ monitorModeCode m = b.toNat := by
  unfold monitorModeOf
  have hcases : b.toNat = 0 ∨ b.toNat = 1 := by omega
  obtain hb | hb := hcases <;> rw [hb] <;> exact ⟨_, rfl, rfl⟩

theorem monitorModeOf_illegal {b : Byte} (h : ¬ b.toNat ≤ 1) : monitorModeOf b = none := by
  unfold monitorModeOf
  split
  · omega
  · omega
  · rfl

theorem monitorDivisorOf_legal {b : Byte} (h : b.toNat ∈ [1, 2, 4, 8]) : monitorDivisorOf b = some b.toNat :=
  if_pos (by simpa using h)

theorem monitorDivisorOf_illegal {b : Byte} (h : b.toNat ∉ [1, 2, 4, 8]) : monitorDivisorOf b = none :=
  if_neg (by simpa using h)

/-- A field read as a code: the setting in force has the code carried, or stands. -/
theorem known_code {code : α → Nat} (old : α) (h : ∀ b, field = some b → ∃ m, read b = some m ∧ code m = b.toNat) :
    ∃ new, known read field = some new ∧ code (carried old new) = (field.map BitVec.toNat).getD (code old) := by
  cases field with
  | none => exact ⟨none, rfl, rfl⟩
  | some b =>
    obtain ⟨m, hm, hcode⟩ := h b rfl
    exact ⟨some m, by rw [known, hm]; rfl, hcode⟩

/-! SET_POLICY (R31). -/

theorem getLsbD_maskedPolicy (old : BitVec 5) (clear set toggle : Byte) {k : Nat} (hk : k < 5) :
    (maskedPolicy old clear set toggle).getLsbD k
      = (((old.getLsbD k && !clear.getLsbD k) || set.getLsbD k) ^^ toggle.getLsbD k) := by
  simp [maskedPolicy, hk]

theorem known_setPolicy_values {cls mode : Option Byte}
    (h : ¬ ((∀ b, cls = some b → b.toNat ≤ 15) ∧ ∀ b, mode = some b → b.toNat ≤ 2)) :
    known classOf cls = none ∨ known rateModeOf mode = none := by
  rw [not_and_or] at h
  obtain h | h := h
  · obtain ⟨b, hb, hbad⟩ := illegal_field h
    exact .inl (known_none hb (if_neg hbad))
  · obtain ⟨b, hb, hbad⟩ := illegal_field h
    exact .inr (known_none hb (rateModeOf_illegal hbad))

/-- SET_POLICY, `newPool` being the pool it asks for. -/
theorem setPolicy_settles {clear set toggle : Byte} {pool cls deadline mode quota : Option Byte} {newPool : Option PoolIx}
    (hnew : newPool = carried (s.slots.get i).pool (pool.map poolOf))
    (h : Heads (.setPolicy tag slot clear set toggle pool cls deadline mode quota) s) (hslot : slot.toNat = i.val + 1) :
    let c := exec (.setPolicy tag slot clear set toggle pool cls deadline mode quota) s
    let r := s.slots.get i
    let poolLegal := ∀ b, pool = some b → b.toNat ≤ 3 ∨ b = 0xFF
    let valueLegal := (∀ b, cls = some b → b.toNat ≤ 15) ∧ (∀ b, mode = some b → b.toNat ≤ 2)
    (¬ poolLegal → c = .next (answered s [tag, 0x03, 3]))
    ∧ (poolLegal → ¬ valueLegal → c = .next (answered s [tag, 0x03, 5]))
    ∧ (poolLegal → valueLegal → r.state.holding = true → newPool ≠ r.pool → c = .next (answered s [tag, 0x03, 4]))
    ∧ (poolLegal → valueLegal → r.state.holding = false ∨ newPool = r.pool →
      ∃ r' : SlotRecord,
        (∀ k, k < 5 → r'.policy.getLsbD k
          = (((r.policy.getLsbD k && !clear.getLsbD k) || set.getLsbD k) ^^ toggle.getLsbD k))
        ∧ r'.pool = newPool ∧ r'.expectedClass = (cls.map BitVec.toNat).getD r.expectedClass
        ∧ r'.retireDeadline = (deadline.map fun b => min 60 b.toNat).getD r.retireDeadline
        ∧ rateModeCode r'.rateMode = (mode.map BitVec.toNat).getD (rateModeCode r.rateMode)
        ∧ r'.quota = (quota.map fun b => max 8 (min 128 b.toNat)).getD r.quota
        ∧ r' = { r with
            policy := r'.policy, pool := r'.pool, expectedClass := r'.expectedClass
            retireDeadline := r'.retireDeadline, rateMode := r'.rateMode, quota := r'.quota }
        ∧ c = .next { answered s [tag, 0x03, 0, slot, r'.policy.setWidth 8, 0, 0, 0x1F,
              (r'.pool.map fun p => BitVec.ofNat 8 p.val).getD 0xFF, BitVec.ofNat 8 r'.expectedClass,
              BitVec.ofNat 8 r'.retireDeadline, BitVec.ofNat 8 (rateModeCode r'.rateMode),
              BitVec.ofNat 8 r'.quota] with slots := s.slots.set i r' }) := by
  intro c r poolLegal valueLegal
  have hanswer : answerSetPolicy slot clear set toggle pool cls deadline mode quota (dropRequest s) = _ := withSlot_of hslot _
  have hpool (h : poolLegal) : known policyPoolOf pool = some (pool.map poolOf) := known_some fun b hb => policyPoolOf_legal (h b hb)
  have hmode (h : valueLegal) := known_code (code := rateModeCode) r.rateMode fun b hb => rateModeOf_legal (h.2 b hb)
  have hcls (h : valueLegal) : known classOf cls = some (cls.map BitVec.toNat) := known_some fun b hb => if_pos (h.1 b hb)
  refine ⟨fun hp => ?_, fun hp hv => ?_, fun hp hv hheld hne => ?_, fun hp hv hfree => ?_⟩
  · obtain ⟨b, hb, hbad⟩ := illegal_field hp
    rw [known_none hb (policyPoolOf_illegal hbad)] at hanswer
    exact exec_refused (status := .badPool) rfl h rfl hanswer
  · rw [hpool hp] at hanswer
    refine exec_refused (status := .range) rfl h rfl (hanswer.trans ?_)
    dsimp only
    obtain hrange | hrange := known_setPolicy_values hv
    · rw [hrange]
    · rw [hrange]
      cases known classOf cls <;> rfl
  · obtain ⟨mode', hmode', -⟩ := hmode hv
    rw [hpool hp, hcls hv, hmode'] at hanswer
    exact exec_refused (status := .badState) rfl h rfl (hanswer.trans (if_pos ⟨hheld, hnew ▸ hne⟩))
  · obtain ⟨mode', hmode', hcode⟩ := hmode hv
    rw [hpool hp, hcls hv, hmode'] at hanswer
    have haccept := hanswer.trans (if_neg fun hc => by
      obtain hfree | hfree := hfree
      · exact Bool.false_ne_true (hfree.symm.trans hc.1)
      · exact hc.2 (hnew.symm.trans hfree))
    refine ⟨r.withPolicy clear set toggle (pool.map poolOf) (cls.map BitVec.toNat) deadline mode' quota,
      fun k hk => getLsbD_maskedPolicy _ clear set toggle hk, hnew.symm, rfl, rfl, hcode, ?_, rfl, ?_⟩
    · simp only [SlotRecord.withPolicy, carried, clampTo_eq]
    · refine (exec_effect rfl h rfl haccept rfl).trans ?_
      rw [policyResult, State.updSlot_slots, Table.get_modify_self, slotByte_of hslot]
      rfl

/-! POOL_SET (R38). -/

theorem poolSetRefused_iff (s : State) (p : PoolIx) (salt width : Option Byte) : poolSetRefused s p salt width = true ↔
    (s.pools.get p).enabled = true ∧ salt.getD (s.pools.get p).salt ≠ (s.pools.get p).salt
      ∨ ∃ b, width = some b ∧ max 1 (min 4 b.toNat) < activeMoves s p := by
  unfold poolSetRefused
  rw [Bool.or_eq_true, Bool.and_eq_true, decide_eq_true_iff, and_comm, carried]
  refine or_congr_right ?_
  cases width with
  | none => simp
  | some b => simp [clampTo_eq]

theorem withSettings_eq (r : PoolRecord) (salt : Option Byte) (ramp : Option (BitVec 16)) (settle drain width adoption : Option Byte) :
    r.withSettings salt ramp settle drain width adoption = { r with
      salt := salt.getD r.salt
      rampInterval := (ramp.map fun w => max 1 (min 1000 w.toNat)).getD r.rampInterval
      settleTime := (settle.map BitVec.toNat).getD r.settleTime
      drainLimit := (drain.map fun b => max 1 b.toNat).getD r.drainLimit
      width := (width.map fun b => max 1 (min 4 b.toNat)).getD r.width
      adoptionWindow := (adoption.map fun b => min 60 b.toNat).getD r.adoptionWindow } := by
  simp only [PoolRecord.withSettings, carried, clampTo_eq]

/-! SET_BEACON (R149). -/

theorem setBeacon_legal {mode divisor : Option Byte} {low high alarm : Option Byte} (m : MonitorRecord)
    (hmode : ∀ b, mode = some b → b.toNat ≤ 1) (hdivisor : ∀ b, divisor = some b → b.toNat ∈ [1, 2, 4, 8])
    (hslot : slot.toNat = i.val + 1) :
    ∃ mode', monitorModeCode (carried m.mode mode') = (mode.map BitVec.toNat).getD (monitorModeCode m.mode)
      ∧ answerSetBeacon slot mode divisor low high alarm
        = .accept (fun s => s.updMonitor i fun m => (m.withSettings mode' (divisor.map BitVec.toNat) low high alarm).clear)
          fun s => beaconResult s i := by
  obtain ⟨mode', hmode', hcode⟩ := known_code (code := monitorModeCode) m.mode fun b hb => monitorModeOf_legal (hmode b hb)
  refine ⟨mode', hcode, (withSlot_of hslot _).trans ?_⟩
  rw [hmode', known_some fun b hb => monitorDivisorOf_legal (hdivisor b hb)]

theorem setBeacon_illegal {mode divisor low high alarm : Option Byte}
    (h : ¬ ((∀ b, mode = some b → b.toNat ≤ 1) ∧ ∀ b, divisor = some b → b.toNat ∈ [1, 2, 4, 8]))
    (hslot : slot.toNat = i.val + 1) : answerSetBeacon slot mode divisor low high alarm = .refuse .range := by
  refine (withSlot_of hslot _).trans ?_
  have hrange : known monitorModeOf mode = none ∨ known monitorDivisorOf divisor = none := by
    rw [not_and_or] at h
    obtain h | h := h
    · obtain ⟨b, hb, hbad⟩ := illegal_field h
      exact .inl (known_none hb (monitorModeOf_illegal hbad))
    · obtain ⟨b, hb, hbad⟩ := illegal_field h
      exact .inr (known_none hb (monitorDivisorOf_illegal hbad))
  obtain hrange | hrange := hrange
  · rw [hrange]
  · rw [hrange]
    cases known monitorModeOf mode <;> rfl

/-! SET_DEVICE (R191). -/

theorem noticesOf_legal {b : Byte} (h : b.toNat ≤ 1) : noticesOf b = some (decide (b = 1)) := by
  have hcases : b = 0 ∨ b = 1 := by
    have hb : b.toNat = 0 ∨ b.toNat = 1 := by omega
    exact hb.imp (fun h => BitVec.eq_of_toNat_eq h) fun h => BitVec.eq_of_toNat_eq h
  obtain rfl | rfl := hcases <;> rfl

theorem noticesOf_illegal {b : Byte} (h : 1 < b.toNat) : noticesOf b = none := by
  rw [noticesOf, if_neg, if_neg] <;> rintro rfl <;> simp at h

/-- Settles O45: each carried field is read into its clamped value, and one that names no value refuses the whole. -/
theorem settingsAreTakenClamped : Obligations.SettingsAreTakenClamped := by
  refine ⟨fun s tag slot clear set toggle pool cls deadline mode quota i h hslot => ?_,
    fun s tag pool salt ramp settle drain width adoption p h hpool => ?_,
    fun s tag pause ack qualify attempts notices h => ?_, fun s tag slot mode divisor low high alarm i h hslot => ?_⟩
  · cases pool with
    | none => exact setPolicy_settles rfl h hslot
    | some b => exact setPolicy_settles rfl h hslot
  · have hanswer : answerPoolSet pool salt ramp settle drain width adoption (dropRequest s) = _ := withPool_of hpool _
    refine ⟨fun hrefused => ?_, fun hrefused => ?_⟩
    · exact exec_refused (status := .badState) rfl h rfl
        (hanswer.trans (if_pos ((poolSetRefused_iff (dropRequest s) p salt width).mpr hrefused)))
    · have haccept := hanswer.trans (if_neg (mt (poolSetRefused_iff (dropRequest s) p salt width).mp hrefused))
      have hbyte : byteOf p.val = pool := by rw [byteOf, ← hpool, BitVec.ofNat_toNat, BitVec.setWidth_eq]
      intro r'
      have hr' : r' = (s.pools.get p).withSettings salt ramp settle drain width adoption := (withSettings_eq ..).symm
      rw [hr']
      refine (exec_effect rfl h rfl haccept rfl).trans ?_
      rw [poolSetResult, State.updPool_pools, Table.get_modify_self, hbyte]
      rfl
  · refine ⟨fun ⟨b, hb, hbad⟩ => ?_, fun hlegal => ?_⟩
    · refine exec_refused (status := .range) rfl h rfl ?_
      rw [answerSetDevice, known_none hb (noticesOf_illegal hbad)]
    · have haccept : answerSetDevice pause ack qualify attempts notices = .accept
          (fun s => s.updAgent fun a => a.withSettings pause ack qualify attempts (notices.map fun b => decide (b = 1)))
          deviceResult := by
        rw [answerSetDevice, known_some fun b hb => noticesOf_legal (hlegal b hb)]
      refine (exec_accepted_agent (g := fun a =>
        a.withSettings pause ack qualify attempts (notices.map fun b => decide (b = 1))) rfl h rfl haccept (fun _ => rfl) fun _ _ => rfl).trans ?_
      simp only [AgentRecord.withSettings, deviceResult, State.updAgent, carried, clampTo_eq]
      rfl
  · refine ⟨fun hbad => ?_, fun hlegal => ?_⟩
    · exact exec_refused (status := .range) rfl h rfl (setBeacon_illegal hbad hslot)
    · obtain ⟨mode', hcode, haccept⟩ := setBeacon_legal (low := low) (high := high) (alarm := alarm) (s.monitors.get i)
        hlegal.1 hlegal.2 hslot
      refine ⟨((s.monitors.get i).withSettings mode' (divisor.map BitVec.toNat) low high alarm).clear, hcode, rfl, rfl, rfl, rfl,
        rfl, ?_⟩
      refine (exec_effect rfl h rfl haccept rfl).trans ?_
      rw [beaconResult, State.updMonitor_monitors, Table.get_modify_self, slotByte_of hslot]
      rfl

end Sys2Proof.Machine
end

section
/-! SUPPORT. The lamp requests (R173–R175): the levels of a mask, the entries of a map, and the tables they write. -/

namespace Sys2Proof.Machine

variable {s : State} {tag slot index : Byte} {i : SlotIx} {k : PatternIx}

theorem patternOf_of_toNat {b : Byte} (h : b.toNat = k.val) : patternOf b = some k := by
  rw [patternOf, dif_pos (by omega)]
  exact congrArg some (Fin.ext h)

theorem patternOf_none {b : Byte} (h : 7 < b.toNat) : patternOf b = none := by
  rw [patternOf, dif_neg (by omega)]

theorem byteOf_toNat (b : Byte) : byteOf b.toNat = b := by rw [byteOf, BitVec.ofNat_toNat, BitVec.setWidth_eq]

theorem byteOf_of {b : Byte} {n : Nat} (h : b.toNat = n) : byteOf n = b := by rw [← h, byteOf_toNat]

/-! Levels and masks (R201). -/

theorem testBit_levelMask (levels : List Bool) (n : Nat) : (levelMask levels).testBit n = levels.getD n false := by
  induction levels generalizing n with
  | nil => simp [levelMask]
  | cons b rest ih =>
    cases n with
    | zero => cases b <;> simp [levelMask, Nat.testBit_zero, Nat.add_mod]
    | succ n =>
      have hhalf : levelMask (b :: rest) / 2 = levelMask rest := by
        rw [levelMask]
        split <;> omega
      rw [Nat.testBit_succ, hhalf, ih, List.getD_cons_succ]

theorem getLsbD_levelMask (levels : List Bool) {n : Nat} (hn : n < 16) :
    (BitVec.ofNat 16 (levelMask levels)).getLsbD n = levels.getD n false := by
  rw [BitVec.getLsbD_ofNat, decide_eq_true hn, Bool.true_and, testBit_levelMask]

theorem levelsOf_length (n : Nat) (mask : BitVec 16) : (levelsOf n mask).length = n := by
  rw [levelsOf, List.length_map, List.length_range]

theorem levelsOf_get {n m : Nat} (mask : BitVec 16) (h : m < n) : (levelsOf n mask)[m]? = some (mask.getLsbD m) := by
  rw [levelsOf, List.getElem?_map, List.getElem?_range h]
  rfl

/-- A definition's mask comes back with the bits at or above its length as 0. -/
theorem levelMask_levelsOf (n : Nat) (mask : BitVec 16) :
    BitVec.ofNat 16 (levelMask (levelsOf n mask)) = mask &&& BitVec.ofNat 16 (2 ^ n - 1) := by
  refine BitVec.eq_of_getLsbD_eq fun m hm => ?_
  rw [getLsbD_levelMask _ hm, BitVec.getLsbD_and, BitVec.getLsbD_ofNat, decide_eq_true hm, Bool.true_and, Nat.testBit_two_pow_sub_one,
    List.getD_eq_getElem?_getD]
  by_cases h : m < n
  · rw [levelsOf_get mask h, decide_eq_true h, Bool.and_true]
    rfl
  · rw [List.getElem?_eq_none (by rw [levelsOf_length]; omega), decide_eq_false h, Bool.and_false]
    rfl

/-! SET_LAMP_PATTERN (R173). -/

theorem widthOf_legal {b : Byte} (h : b.toNat ∈ [25, 50, 100, 200]) : ∃ w, widthOf b = some w ∧ 25 * w = b.toNat := by
  unfold widthOf
  simp only [List.mem_cons, List.not_mem_nil, or_false] at h
  obtain h | h | h | h := h <;> rw [h] <;> exact ⟨_, rfl, rfl⟩

theorem widthOf_illegal {b : Byte} (h : b.toNat ∉ [25, 50, 100, 200]) : widthOf b = none := by
  simp only [List.mem_cons, List.not_mem_nil, or_false, not_or] at h
  obtain ⟨h25, h50, h100, h200⟩ := h
  unfold widthOf
  split
  · contradiction
  · contradiction
  · contradiction
  · contradiction
  · rfl

theorem patternOf_cases (b : Byte) : (7 < b.toNat ∧ patternOf b = none) ∨ ∃ k : PatternIx, b.toNat = k.val ∧ patternOf b = some k := by
  by_cases h : b.toNat < 8
  · exact .inr ⟨⟨b.toNat, h⟩, rfl, patternOf_of_toNat rfl⟩
  · exact .inl ⟨by omega, patternOf_none (by omega)⟩

theorem answerDefinition_range {length width : Byte} {mask : BitVec 16}
    (h : 7 < index.toNat ∨ length.toNat < 2 ∨ 16 < length.toNat ∨ width.toNat ∉ [25, 50, 100, 200]) :
    answerDefinition index length width length mask = .refuse .range := by
  rw [answerDefinition, if_neg (fun hne => hne rfl)]
  obtain ⟨-, hindex⟩ | ⟨k, hk, hindex⟩ := patternOf_cases index
  · rw [hindex]
  · rw [hindex]
    dsimp only
    split
    · rfl
    · rw [widthOf_illegal]
      have := k.isLt
      obtain h | h | h | h := h
      · omega
      · omega
      · omega
      · exact h

theorem exec_definition {len width count : Byte} {mask : BitVec 16} {w : Nat}
    (h : Heads (.setLampPattern tag index (some len) (some width) (some (count, mask))) s) (hcount : count = len)
    (hk : index.toNat = k.val) (hlow : 2 ≤ len.toNat) (hhigh : len.toNat ≤ 16) (hw : widthOf width = some w)
    (hwidth : 25 * w = width.toNat) :
    exec (.setLampPattern tag index (some len) (some width) (some (count, mask))) s
      = .next { answered s ([tag, 0x16, 0, index, len, width, len]
            ++ bytes16 (mask &&& BitVec.ofNat 16 (2 ^ len.toNat - 1)) ++ bytes32 s.lamps.counter) with
          lamps := { s.lamps with patterns := s.lamps.patterns.set k ⟨levelsOf len.toNat mask, w⟩ } } := by
  have haccept : answerDefinition index len width count mask
      = .accept (writePattern k ⟨levelsOf len.toNat mask, w⟩) fun s => patternResult s k := by
    rw [answerDefinition, hcount, if_neg (fun hne => hne rfl), patternOf_of_toNat hk]
    dsimp only
    rw [if_neg (by omega), hw]
  refine (exec_effect rfl h rfl haccept rfl).trans ?_
  have hresult : patternResult (writePattern k ⟨levelsOf len.toNat mask, w⟩ (accepting s)) k
      = [index, len, width, len] ++ bytes16 (mask &&& BitVec.ofNat 16 (2 ^ len.toNat - 1)) ++ bytes32 s.lamps.counter := by
    simp only [patternResult, writePattern, State.updLamps, Table.get_set_self, levelsOf_length, widthMs, word16Of,
      levelMask_levelsOf, byteOf_toNat, byteOf_of hk, byteOf_of hwidth.symm]
    rfl
  rw [hresult]
  rfl

/-! SET_LAMP_MAP (R174). -/

/-- The bytes of a State Map entry. -/
def entryBytes (e : Fin 10 × PatternIx) : Byte × Byte := (BitVec.ofNat 8 e.1.val, BitVec.ofNat 8 e.2.val)

theorem ofNat8_inj {a b : Nat} (ha : a < 256) (hb : b < 256) (h : BitVec.ofNat 8 a = BitVec.ofNat 8 b) : a = b := by
  have hnat := congrArg BitVec.toNat h
  rwa [BitVec.toNat_ofNat, BitVec.toNat_ofNat, Nat.mod_eq_of_lt ha, Nat.mod_eq_of_lt hb] at hnat

theorem entryBytes_fst_inj {c d : Fin 10} (h : BitVec.ofNat 8 c.val = BitVec.ofNat 8 d.val) : c = d :=
  Fin.ext (ofNat8_inj (by omega) (by omega) h)

theorem entryBytes_inj {e f : Fin 10 × PatternIx} (h : entryBytes e = entryBytes f) : e = f :=
  Prod.ext (entryBytes_fst_inj (congrArg Prod.fst h)) (Fin.ext (ofNat8_inj (by omega) (by omega) (congrArg Prod.snd h)))

theorem mapEntries_none {entries : List (Byte × Byte)} (h : ∃ e, e ∈ entries ∧ (9 < e.1.toNat ∨ 7 < e.2.toNat)) :
    mapEntries entries = none := by
  induction entries with
  | nil =>
    obtain ⟨_, hmem, -⟩ := h
    cases hmem
  | cons e rest ih =>
    obtain ⟨f, hmem, hbad⟩ := h
    rw [mapEntries]
    split
    · next c k more hc hk hmore =>
      obtain rfl | hmem := List.mem_cons.mp hmem
      · obtain hbad | hbad := hbad
        · rw [stateOfCode, dif_neg (by omega)] at hc
          cases hc
        · rw [patternOf_none hbad] at hk
          cases hk
      · rw [ih ⟨f, hmem, hbad⟩] at hmore
        cases hmore
    · rfl

theorem mapEntries_some {entries : List (Byte × Byte)} (h : ∀ e, e ∈ entries → e.1.toNat ≤ 9 ∧ e.2.toNat ≤ 7) :
    ∃ es, mapEntries entries = some es ∧ es.map entryBytes = entries := by
  induction entries with
  | nil => exact ⟨[], rfl, rfl⟩
  | cons e rest ih =>
    obtain ⟨es, hes, hrest⟩ := ih fun f hf => h f (.tail e hf)
    obtain ⟨hc, hk⟩ := h e (.head rest)
    refine ⟨(⟨e.1.toNat, by omega⟩, ⟨e.2.toNat, by omega⟩) :: es, ?_, ?_⟩
    · rw [mapEntries, stateOfCode, dif_pos (by omega), patternOf, dif_pos (by omega), hes]
    · rw [List.map_cons, hrest, entryBytes, BitVec.ofNat_toNat, BitVec.setWidth_eq, BitVec.ofNat_toNat, BitVec.setWidth_eq]

/-- Entries with no state twice: each is found in the table they are written into, and the others stand. -/
theorem foldl_set_get {α : Type} {n : Nat} (es : List (Fin n × α)) (t : Table α n) (h : (es.map Prod.fst).Nodup) :
    (∀ c k, (c, k) ∈ es → (es.foldl (fun t e => t.set e.1 e.2) t).get c = k)
    ∧ ∀ c, c ∉ es.map Prod.fst → (es.foldl (fun t e => t.set e.1 e.2) t).get c = t.get c := by
  induction es generalizing t with
  | nil => exact ⟨fun _ _ hmem => (List.not_mem_nil hmem).elim, fun _ _ => rfl⟩
  | cons e rest ih =>
    rw [List.map_cons, List.nodup_cons] at h
    obtain ⟨hin, hout⟩ := ih (t.set e.1 e.2) h.2
    refine ⟨fun c k hmem => ?_, fun c hc => ?_⟩
    · obtain rfl | hmem := List.mem_cons.mp hmem
      · exact (hout c h.1).trans (Table.get_set_self ..)
      · exact hin c k hmem
    · rw [List.map_cons, List.mem_cons, not_or] at hc
      exact (hout c hc.2).trans (Table.get_set_of_ne _ hc.1 _)

theorem exec_definition_range {len width : Byte} {mask : BitVec 16}
    (h : Heads (.setLampPattern tag index (some len) (some width) (some (len, mask))) s)
    (hbad : 7 < index.toNat ∨ len.toNat < 2 ∨ 16 < len.toNat ∨ width.toNat ∉ [25, 50, 100, 200]) :
    exec (.setLampPattern tag index (some len) (some width) (some (len, mask))) s = .next (answered s [tag, 0x16, 5]) :=
  exec_refused (owner := fun _ => answerSetLampPattern index (some len) (some width) (some (len, mask))) (status := .range)
    rfl h rfl (answerDefinition_range hbad)

theorem exec_definition_badRequest {len width count : Byte} {mask : BitVec 16}
    (h : Heads (.setLampPattern tag index (some len) (some width) (some (count, mask))) s) (hcount : count ≠ len) :
    exec (.setLampPattern tag index (some len) (some width) (some (count, mask))) s = .next (answered s [tag, 0x16, 1]) :=
  exec_refused (owner := fun _ => answerSetLampPattern index (some len) (some width) (some (count, mask)))
    (status := .badRequest) rfl h rfl (if_pos hcount)

theorem answerReportPattern_eq (index : Byte) : answerSetLampPattern index none none none
    = (patternOf index).elim (.refuse .range) fun k => report fun s => patternResult s k := by
  delta answerSetLampPattern
  dsimp only
  cases patternOf index <;> rfl

theorem exec_setLampPattern_report_range (h : Heads (.setLampPattern tag index none none none) s) (hbad : 7 < index.toNat) :
    exec (.setLampPattern tag index none none none) s = .next (answered s [tag, 0x16, 5]) := by
  have hrefuse : answerSetLampPattern index none none none = .refuse .range := by
    rw [answerReportPattern_eq, patternOf_none hbad]
    rfl
  exact exec_refused rfl h rfl hrefuse

theorem exec_setLampPattern_report (h : Heads (.setLampPattern tag index none none none) s) (hk : index.toNat = k.val) :
    exec (.setLampPattern tag index none none none) s
      = .next (answered s ([tag, 0x16, 0, index, BitVec.ofNat 8 (s.lamps.patterns.get k).levels.length,
          BitVec.ofNat 8 (25 * (s.lamps.patterns.get k).width),
          BitVec.ofNat 8 (s.lamps.patterns.get k).levels.length]
            ++ bytes16 (BitVec.ofNat 16 (levelMask (s.lamps.patterns.get k).levels)) ++ bytes32 s.lamps.counter)) := by
  have hreport : answerSetLampPattern index none none none = report fun s => patternResult s k := by
    rw [answerReportPattern_eq, patternOf_of_toNat hk]
    rfl
  refine (exec_reported rfl h rfl hreport).trans ?_
  rw [patternResult, byteOf_of hk]
  rfl

theorem exec_setLampPattern_part {len width : Option Byte} {levels : Option (Byte × BitVec 16)}
    (h : Heads (.setLampPattern tag index len width levels) s) (hsome : len.isSome ∨ width.isSome ∨ levels.isSome)
    (hnone : len = none ∨ width = none ∨ levels = none) :
    exec (.setLampPattern tag index len width levels) s = .next (answered s [tag, 0x16, 1]) := by
  have hrefuse : answerSetLampPattern index len width levels = .refuse .badRequest := by
    rcases len with _ | len <;> rcases width with _ | width <;> rcases levels with _ | levels
    case none.none.none => obtain h | h | h := hsome <;> cases h
    case some.some.some => obtain h | h | h := hnone <;> cases h
    all_goals rfl
  exact exec_refused rfl h rfl hrefuse

theorem exec_setLampMap_range {entries : List (Byte × Byte)} (h : Heads (.setLampMap tag entries) s)
    (hnodup : (entries.map Prod.fst).Nodup) (hbad : ∃ e, e ∈ entries ∧ (9 < e.1.toNat ∨ 7 < e.2.toNat)) :
    exec (.setLampMap tag entries) s = .next (answered s [tag, 0x17, 5]) := by
  have hrefuse : answerSetLampMap entries = .refuse .range := by
    rw [answerSetLampMap, if_pos hnodup, mapEntries_none hbad]
  exact exec_refused rfl h rfl hrefuse

theorem exec_setLampMap {entries : List (Byte × Byte)} (h : Heads (.setLampMap tag entries) s)
    (hnodup : (entries.map Prod.fst).Nodup) (hlegal : ∀ e, e ∈ entries → e.1.toNat ≤ 9 ∧ e.2.toNat ≤ 7) :
    ∃ map : Table PatternIx 10,
      (∀ (c : Fin 10) (k : PatternIx), (BitVec.ofNat 8 c.val, BitVec.ofNat 8 k.val) ∈ entries → map.get c = k)
      ∧ (∀ c : Fin 10, BitVec.ofNat 8 c.val ∉ entries.map Prod.fst → map.get c = s.lamps.stateMap.get c)
      ∧ exec (.setLampMap tag entries) s
        = .next { answered s ([tag, 0x17, 0] ++ map.cells.map fun k => BitVec.ofNat 8 k.val) with
            lamps := { s.lamps with stateMap := map } } := by
  obtain ⟨es, hes, hbytes⟩ := mapEntries_some hlegal
  have haccept : answerSetLampMap entries = .accept (writeMap es) mapResult := by
    rw [answerSetLampMap, if_pos hnodup, hes]
  have hkeys : entries.map Prod.fst = (es.map Prod.fst).map fun c : Fin 10 => BitVec.ofNat 8 c.val := by
    rw [← hbytes, List.map_map, List.map_map]
    rfl
  obtain ⟨hin, hout⟩ := foldl_set_get es s.lamps.stateMap (List.Nodup.of_map _ (hkeys ▸ hnodup))
  refine ⟨_, fun c k hmem => hin c k ?_, fun c hc => hout c fun hmem => hc ?_, exec_effect rfl h rfl haccept rfl⟩
  · rw [← hbytes, List.mem_map] at hmem
    obtain ⟨e, he, heq⟩ := hmem
    rwa [← entryBytes_inj (f := (c, k)) heq]
  · rw [hkeys]
    exact List.mem_map_of_mem hmem

/-! LAMP_OVERRIDE (R175). -/

theorem exec_lampOverride_range {pattern : Byte} (h : Heads (.lampOverride tag slot pattern) s) (hslot : slot.toNat = i.val + 1)
    (hbad : 7 < pattern.toNat) (hne : pattern ≠ 0xFF) :
    exec (.lampOverride tag slot pattern) s = .next (answered s [tag, 0x18, 5]) := by
  have hrefuse : answerLampOverride slot pattern = .refuse .range := by
    refine (withSlot_of hslot _).trans ?_
    rw [overrideOf, if_neg hne, patternOf_none hbad]
    rfl
  exact exec_refused rfl h rfl hrefuse

theorem exec_lampOverride {pattern : Byte} {o : Option PatternIx} (h : Heads (.lampOverride tag slot pattern) s)
    (hslot : slot.toNat = i.val + 1) (ho : overrideOf pattern = some o) :
    exec (.lampOverride tag slot pattern) s = .next { answered s [tag, 0x18, 0, slot,
          (o.map fun k => BitVec.ofNat 8 k.val).getD 0xFF,
          BitVec.ofNat 8 (o.getD (s.lamps.stateMap.get (stateCode (s.slots.get i).state))).val] with
        lamps := { s.lamps with override := s.lamps.override.set i o } } := by
  have haccept : answerLampOverride slot pattern
      = .accept (fun s => s.updLamps fun l => { l with override := l.override.set i o }) fun s => overrideResult s i := by
    refine (withSlot_of hslot _).trans ?_
    rw [ho]
  refine (exec_effect rfl h rfl haccept rfl).trans ?_
  simp only [overrideResult, selectedPattern, State.updLamps, Table.get_set_self, slotByte_of hslot]
  rfl

theorem overrideOf_of_toNat {pattern : Byte} (hk : pattern.toNat = k.val) : overrideOf pattern = some (some k) := by
  rw [overrideOf, if_neg, patternOf_of_toNat hk]
  · rfl
  · rintro rfl
    have := k.isLt
    simp at hk
    omega

/-- Settles O42: a whole definition, a map and an override are written or refused as one. -/
theorem lampRequestsWriteTheTables : Obligations.LampRequestsWriteTheTables := by
  refine ⟨fun s tag index len width count mask h => ?_,
    fun s tag index h => ⟨exec_setLampPattern_report_range h, fun k hk _ => ?_⟩,
    fun s tag index len width levels h => exec_setLampPattern_part h,
    fun s tag entries h => ⟨fun hdup => ?_, exec_setLampMap_range h, exec_setLampMap h⟩,
    fun s tag slot pattern i h hslot => ⟨exec_lampOverride_range h hslot, fun hff => ?_, fun k hk => ?_⟩⟩
  · refine ⟨exec_definition_badRequest h, fun hcount hbad => ?_, fun k hcount hk hlow hhigh hw => ?_⟩
    · subst hcount
      exact exec_definition_range h hbad
    · obtain ⟨w, hw, hwidth⟩ := widthOf_legal hw
      exact ⟨⟨levelsOf len.toNat mask, w⟩, levelsOf_length _ mask, fun n hn => levelsOf_get mask hn, hwidth,
        exec_definition h hcount hk hlow hhigh hw hwidth⟩
  · exact ⟨_, fun n hn => getLsbD_levelMask _ hn, exec_setLampPattern_report h hk⟩
  · exact exec_refused (owner := fun _ => answerSetLampMap entries) (status := .badRequest) rfl h rfl (if_neg hdup)
  · exact exec_lampOverride h hslot (if_pos hff)
  · have hbyte : BitVec.ofNat 8 k.val = pattern := byteOf_of hk
    have hexec := exec_lampOverride h hslot (overrideOf_of_toNat hk)
    rwa [Option.map_some, Option.getD_some, Option.getD_some, hbyte] at hexec

end Sys2Proof.Machine
end

section
/-! SUPPORT. The records of the reading requests, byte by byte (R33, R58, R82, R189, R192, R193, R202–R204). -/

namespace Sys2Proof.Machine

variable {s : State} {tag slot pool : Byte} {i : SlotIx} {p : PoolIx} {α β : Type}

/-! Blocks of a record. -/

theorem drop_block {A : List α} {a : Nat} (h : A.length = a) (B : List α) (n : Nat) : (A ++ B).drop (a + n) = B.drop n := by
  rw [← h, List.drop_length_add_append]

theorem take_block {A : List α} {a : Nat} (h : A.length = a) (B : List α) : (A ++ B).take a = A := List.take_left' h

theorem length_blocks {f : α → List β} {k : Nat} (h : ∀ a, (f a).length = k) (l : List α) :
    (l.flatMap f).length = k * l.length := by
  induction l with
  | nil => rfl
  | cons a l ih => rw [List.flatMap_cons, List.length_append, ih, h, List.length_cons]; ring

/-- The block of a table's record. -/
theorem take_blocks {f : α → List β} {k : Nat} (h : ∀ a, (f a).length = k) (l : List α) (rest : List β) {n : Nat}
    (hn : n < l.length) : ((l.flatMap f ++ rest).drop (k * n)).take k = f l[n] := by
  induction l generalizing n with
  | nil => exact absurd hn (Nat.not_lt_zero n)
  | cons a l ih =>
    rw [List.flatMap_cons, List.append_assoc]
    cases n with
    | zero => exact take_block (h a) _
    | succ n =>
      rw [Nat.mul_succ, Nat.add_comm, drop_block (h a)]
      exact ih (Nat.lt_of_succ_lt_succ hn)

theorem take_table {n k : Nat} {f : α → List β} (h : ∀ a, (f a).length = k) (t : Table α n) (rest : List β) (i : Fin n) :
    ((t.cells.flatMap f ++ rest).drop (k * i.val)).take k = f (t.get i) :=
  take_blocks h t.cells rest _

theorem take_finRange {n k : Nat} {f : Fin n → List β} (h : ∀ a, (f a).length = k) (rest : List β) (i : Fin n) :
    (((List.finRange n).flatMap f ++ rest).drop (k * i.val)).take k = f i := by
  rw [take_blocks h _ _ (by rw [List.length_finRange]; exact i.isLt), List.getElem_finRange]
  rfl

theorem length_table {n k : Nat} {f : α → List β} (h : ∀ a, (f a).length = k) (t : Table α n) :
    (t.cells.flatMap f).length = k * n := by
  rw [length_blocks h, t.size]

theorem length_finRange_blocks {n k : Nat} {f : Fin n → List β} (h : ∀ a, (f a).length = k) :
    ((List.finRange n).flatMap f).length = k * n := by
  rw [length_blocks h, List.length_finRange]

/-- The five bytes of a block. -/
theorem block_five {l : List α} {n : Nat} {a b c d e : α} (h : (l.drop n).take 5 = [a, b, c, d, e]) :
    l[n]? = some a ∧ l[n + 1]? = some b ∧ (l.drop (n + 2)).take 3 = [c, d, e] := by
  have hget (m : Nat) (hm : m < 5) : l[n + m]? = [a, b, c, d, e][m]? := by
    rw [← h, List.getElem?_take_of_lt hm, List.getElem?_drop]
  refine ⟨hget 0 (by omega), hget 1 (by omega), ?_⟩
  have hrest := congrArg (List.drop 2) h
  rwa [List.drop_take, List.drop_drop] at hrest

/-! READ_SLOT (R33, R204). -/

theorem statusWord_report (presence power handle : Bool) (cls : BitVec 4) : statusWord presence power handle cls
    = BitVec.ofNat 8 ((if presence then 128 else 0) + (if power then 64 else 0) + (if handle then 32 else 0) + cls.toNat) := by
  revert cls
  cases presence <;> cases power <;> cases handle <;> decide

theorem acceptedWord_eq (q : PortRecord) : acceptedWord q = acceptedReport q := statusWord_report _ _ _ _

theorem candidateBytes_eq {γ : Type} (f : γ → Byte) (c : Option (γ × Nat)) :
    candidateBytes f c = candidateReport (c.map fun c => (f c.1, c.2)) := by
  cases c <;> rfl

theorem candidatesBytes_eq (q : PortRecord) : candidatesBytes q = candidatesReport q := by
  simp only [candidatesBytes, candidatesReport, candidateBytes_eq]
  rfl

theorem candidateReport_length (c : Option (Byte × Nat)) : (candidateReport c).length = 3 := by cases c <;> rfl

theorem candidatesReport_length (q : PortRecord) : (candidatesReport q).length = 12 := by
  simp only [candidatesReport, List.length_append, candidateReport_length]

/-- The READ_SLOT record up to the accepted word, from the records it reports. -/
def slotHeadBytes (number : Byte) (r : SlotRecord) (held target : Nat) (l : LinkRecord) (m : MonitorRecord) : List Byte :=
  [number] ++ stateBytes r.state
    ++ [absentByte (r.pool.map fun p => byteOf p.val), byteOf r.weight, byteOf r.expectedClass,
        r.policy.setWidth 8, byteOf r.retireDeadline, byteOf (rateModeCode r.rateMode), byteOf r.quota,
        byteOf ((r.lastFault.map causeCode).getD 0)]
    ++ bytes16 (r.attention.setWidth 16)
    ++ [r.echoes, flagByte r.beaconsQualified]
    ++ timerBytes r.probeTimer ++ timerBytes r.qualifyTimer ++ timerBytes r.deadlineTimer
    ++ timerBytes r.ackTimer
    ++ [byteOf held, byteOf target,
        byteOf (linkStateCode l.state), byteOf ((l.train.map fun t => rateCode t.rate).getD 0),
        byteOf ((l.train.map fun t => t.attempt).getD 0), byteOf ((l.train.map fun t => t.limit).getD 0),
        flagByte l.lock, flagByte l.lost, flagByte l.remotePause.isSome]
    ++ timerBytes l.remotePause
    ++ [byteOf l.control.length,
        byteOf (monitorModeCode m.mode), byteOf m.divisor, byteOf m.lowLimit, byteOf m.highLimit,
        byteOf m.alarmLimit, flagByte m.linkRunning, byteOf (monitorPhaseCode m.phase), byteOf m.runningCount,
        byteOf m.latchedCount, flagByte m.latchedSaturated, flagByte m.alarmRaised, byteOf m.run]

def slotRecordHead (s : State) (i : SlotIx) : List Byte :=
  slotHeadBytes (slotByte i) (s.slots.get i) (slotHeld s i) (slotTarget s i) (s.links.get i) (s.monitors.get i)

/-- The rest of the READ_SLOT record. -/
def slotRecordTail (s : State) (i : SlotIx) : List Byte :=
  acceptedReport (s.ports.get i) :: candidatesReport (s.ports.get i)
    ++ [byteOf (s.ports.get i).noResponse, absentByte ((s.lamps.override.get i).map fun k => byteOf k.val),
        byteOf (selectedPattern s i).val, flagByte (s.lamps.level.get i)]

theorem slotRecordBytes_eq (s : State) (i : SlotIx) : slotRecordBytes s i = slotRecordHead s i ++ slotRecordTail s i := by
  rw [slotRecordBytes, acceptedWord_eq, candidatesBytes_eq]
  rfl

theorem slotRecordHead_length (s : State) (i : SlotIx) : (slotRecordHead s i).length = 47 := rfl

theorem slotRecordTail_length (s : State) (i : SlotIx) : (slotRecordTail s i).length = 17 := by
  rw [slotRecordTail, List.length_append, List.length_cons, candidatesReport_length]
  rfl

theorem slotRecordBytes_accepting (s : State) (i : SlotIx) : slotRecordBytes (accepting s) i = slotRecordBytes s i := rfl

theorem exec_readSlot (h : Heads (.readSlot tag slot) s) (hslot : slot.toNat = i.val + 1) :
    exec (.readSlot tag slot) s = .next (answered s ([tag, 0x02, 0] ++ (slotRecordHead s i ++ slotRecordTail s i))) := by
  have hreport : (withSlot slot fun i => report fun s => slotRecordBytes s i) = report fun s => slotRecordBytes s i :=
    withSlot_of hslot _
  have hexec := exec_reported (owner := fun _ => withSlot slot fun i => report fun s => slotRecordBytes s i) rfl h rfl hreport
  rwa [slotRecordBytes_accepting, slotRecordBytes_eq] at hexec

/-! READ_POOL, READ_BINS and READ_MOVES (R58, R82, R204). -/

theorem totalWeight_eligible (s : State) (p : PoolIx) :
    totalWeight (eligibleWeight s p) = (((List.finRange 12).filter (isEligible s p)).map fun i => (s.slots.get i).weight).sum := by
  rw [totalWeight]
  induction List.finRange 12 with
  | nil => rfl
  | cons i rest ih =>
    rw [List.map_cons, List.sum_cons, ih, eligibleWeight, List.filter_cons]
    split
    · rw [List.map_cons, List.sum_cons]
    · exact Nat.zero_add _

/-- The READ_POOL record, its total weight that of the eligible members. -/
theorem poolRecordBytes_eq (s : State) (p : PoolIx) (hpool : pool.toNat = p.val) :
    let r := s.pools.get p
    let members := (List.finRange 12).filter (isEligible s p)
    let holders := (List.finRange 12).filter (isHolding s p)
    poolRecordBytes s p = [pool, yesReport r.enabled, r.salt] ++ bytes16 (BitVec.ofNat 16 r.rampInterval)
        ++ [BitVec.ofNat 8 r.settleTime, BitVec.ofNat 8 r.drainLimit, BitVec.ofNat 8 r.width,
          BitVec.ofNat 8 r.adoptionWindow, yesReport (isDark s p)]
        ++ bytes16 (BitVec.ofNat 16 (members.map fun i => 2 ^ i.val).sum)
        ++ [BitVec.ofNat 8 (members.map fun i => (s.slots.get i).weight).sum]
        ++ timerReport r.rampTimer ++ timerReport r.adoptionTimer
        ++ [BitVec.ofNat 8 r.plan.length, BitVec.ofNat 8 (activeMoves s p)]
        ++ bytes32 (s.poolCount p .immediateAssigns) ++ [BitVec.ofNat 8 holders.length]
        ++ holders.flatMap fun i =>
          [BitVec.ofNat 8 (i.val + 1), BitVec.ofNat 8 (stateCode (s.slots.get i).state).val,
            BitVec.ofNat 8 (phaseCode (s.slots.get i).state), BitVec.ofNat 8 (r.targets.get i),
            BitVec.ofNat 8 (binsHeld s p i)] := by
  intro r members holders
  rw [poolRecordBytes, totalWeight_eligible, byteOf_of hpool]
  rfl

theorem exec_poolReport {c : Instr} {code : Byte} {record : State → PoolIx → List Byte} (h : Heads c s)
    (hkey : requestKey c = some (tag, code)) (hpool : pool.toNat = p.val)
    (hexec : exec c s = .next (processRequest c (fun _ => withPool pool fun p => report fun s => record s p) s))
    (hrecord : record (accepting s) p = record s p) :
    exec c s = .next (answered s ([tag, code, 0] ++ record s p)) := by
  rw [exec_reported hexec h hkey (withPool_of hpool _), hrecord]

/-- A bin's five bytes. -/
def binBytes (b : BinRecord) : List Byte :=
  ownerBytes b.owner ++ word16Of b.inflight ++ [absentByte (b.engine.map fun e => byteOf e.val)]

theorem binBytes_length (b : BinRecord) : (binBytes b).length = 5 := by
  unfold binBytes ownerBytes
  split <;> rfl

theorem binsRecordBytes_eq (s : State) (p : PoolIx) (hpool : pool.toNat = p.val) :
    binsRecordBytes s p = pool :: (s.pools.get p).bins.cells.flatMap binBytes := by
  rw [binsRecordBytes, byteOf_of hpool]
  rfl

theorem engineBytes_length (s : State) (e : EngineIx) : (engineBytes s e).length = 10 := by
  unfold engineBytes
  split <;> rfl

theorem movesRecordBytes_eq (s : State) (p : PoolIx) (hpool : pool.toNat = p.val) : movesRecordBytes s p
    = [pool, BitVec.ofNat 8 (s.pools.get p).plan.length]
      ++ (s.pools.get p).plan.flatMap (fun e => [BitVec.ofNat 8 e.bin.val, BitVec.ofNat 8 (e.source.val + 1),
          BitVec.ofNat 8 (e.destination.val + 1)])
      ++ (List.finRange 4).flatMap (engineBytes s)
      ++ bytes32 (s.poolCount p .movesDone) ++ bytes32 (s.poolCount p .earlyCommits)
      ++ bytes32 (s.poolCount p .forcedCommits) ++ bytes32 (s.poolCount p .abortedMoves) := by
  rw [movesRecordBytes, byteOf_of hpool]
  rfl

/-! READ_COUNTERS (R193, R204). -/

theorem bytes32_length (w : BitVec 32) : (bytes32 w).length = 4 := rfl

theorem counterBytes_length {n : Nat} (t : Table Counter n) : (counterBytes t).length = 4 * n := length_table bytes32_length t

/-- A slot's five bytes of upstream state. -/
def upstreamBytes (s : State) (i : SlotIx) : List Byte :=
  [byteOf (s.upstream.get i).queue.length, reportedQuota s i, flagByte (s.upstream.get i).pause.isSome]
    ++ timerBytes (s.upstream.get i).pause

/-- The READ_COUNTERS record from the slots' counters on, and from the egress queues on. -/
def egressOn (s : State) : List Byte :=
  s.egress.cells.flatMap (fun q => word16Of q.length) ++ ((List.finRange 12).flatMap (upstreamBytes s)
    ++ [slotByte s.core.pointer, byteOf s.agent.requests.length, byteOf s.agent.transmit.length])

theorem countersRecordBytes_eq (s : State) : countersRecordBytes s = counterBytes s.core.counters
    ++ (s.pools.cells.flatMap (fun r => counterBytes r.counters) ++ (s.slotCounters.cells.flatMap counterBytes
      ++ (counterBytes s.agent.counters ++ (word16Of (cellsInUse s) ++ egressOn s)))) := by
  simp only [countersRecordBytes, egressOn, List.append_assoc]
  rfl

theorem word16Of_length (n : Nat) : (word16Of n).length = 2 := rfl

theorem upstreamBytes_length (s : State) (i : SlotIx) : (upstreamBytes s i).length = 5 := rfl

/-- The block of each part of the record. -/
theorem drop_countersRecord (s : State) (n : Nat) :
    (countersRecordBytes s).drop (28 + n) = (s.pools.cells.flatMap (fun r => counterBytes r.counters)
        ++ (s.slotCounters.cells.flatMap counterBytes
          ++ (counterBytes s.agent.counters ++ (word16Of (cellsInUse s) ++ egressOn s)))).drop n
    ∧ (countersRecordBytes s).drop (140 + n) = (s.slotCounters.cells.flatMap counterBytes
          ++ (counterBytes s.agent.counters ++ (word16Of (cellsInUse s) ++ egressOn s))).drop n
    ∧ (countersRecordBytes s).drop (1292 + n)
        = (counterBytes s.agent.counters ++ (word16Of (cellsInUse s) ++ egressOn s)).drop n
    ∧ (countersRecordBytes s).drop (1312 + n) = (word16Of (cellsInUse s) ++ egressOn s).drop n
    ∧ (countersRecordBytes s).drop (1314 + n) = (egressOn s).drop n := by
  have hpools : (s.pools.cells.flatMap fun r => counterBytes r.counters).length = 112 :=
    length_table (k := 28) (fun r => counterBytes_length r.counters) s.pools
  have hslots : (s.slotCounters.cells.flatMap counterBytes).length = 1152 := length_table (k := 96) counterBytes_length _
  have hcore (n : Nat) := drop_block (counterBytes_length s.core.counters) (s.pools.cells.flatMap (fun r => counterBytes r.counters)
    ++ (s.slotCounters.cells.flatMap counterBytes
      ++ (counterBytes s.agent.counters ++ (word16Of (cellsInUse s) ++ egressOn s)))) n
  rw [countersRecordBytes_eq]
  refine ⟨hcore n, ?_, ?_, ?_, ?_⟩
  · rw [show 140 + n = 4 * 7 + (112 + n) by omega, hcore, drop_block hpools]
  · rw [show 1292 + n = 4 * 7 + (112 + (1152 + n)) by omega, hcore, drop_block hpools, drop_block hslots]
  · rw [show 1312 + n = 4 * 7 + (112 + (1152 + (4 * 5 + n))) by omega, hcore, drop_block hpools, drop_block hslots,
      drop_block (counterBytes_length _)]
  · rw [show 1314 + n = 4 * 7 + (112 + (1152 + (4 * 5 + (2 + n)))) by omega, hcore, drop_block hpools, drop_block hslots,
      drop_block (counterBytes_length _), drop_block (word16Of_length _)]

theorem countersRecord_egress (s : State) (i : SlotIx) :
    ((countersRecordBytes s).drop (1314 + 2 * i.val)).take 2 = word16Of (s.egress.get i).length := by
  obtain ⟨-, -, -, -, hdrop⟩ := drop_countersRecord s (2 * i.val)
  rw [hdrop, egressOn, take_table (k := 2) (f := fun q : List EgressEntry => word16Of q.length) fun _ => rfl]

theorem countersRecord_upstream (s : State) (i : SlotIx) :
    ((countersRecordBytes s).drop (1338 + 5 * i.val)).take 5 = upstreamBytes s i := by
  obtain ⟨-, -, -, -, hdrop⟩ := drop_countersRecord s (24 + 5 * i.val)
  rw [← Nat.add_assoc] at hdrop
  rw [hdrop, egressOn, drop_block (a := 24) (length_table (k := 2) (fun _ => rfl) _), take_finRange (upstreamBytes_length s)]

theorem countersRecord_end (s : State) : (countersRecordBytes s).drop 1398
    = [slotByte s.core.pointer, byteOf s.agent.requests.length, byteOf s.agent.transmit.length] := by
  obtain ⟨-, -, -, -, hdrop⟩ := drop_countersRecord s 84
  rw [hdrop, egressOn, show 84 = 24 + (60 + 0) from rfl, drop_block (a := 24) (length_table (k := 2) (fun _ => rfl) _),
    drop_block (a := 60) (length_finRange_blocks (upstreamBytes_length s))]
  rfl

theorem countersRecord_length (s : State) : (countersRecordBytes s).length = 1401 := by
  have hend := congrArg List.length (countersRecord_end s)
  rw [List.length_drop] at hend
  simp only [List.length_cons, List.length_nil] at hend
  omega

theorem reportedQuota_of {q : Nat} (h : effectiveQuota s i = some q) : reportedQuota s i = BitVec.ofNat 8 q := by
  rw [reportedQuota, h]
  rfl

theorem exec_readCounters (h : Heads (.readCounters tag) s) : exec (.readCounters tag) s
    = .next { answered s ([tag, 0x1B, 0] ++ countersRecordBytes (dropRequest s)) with freeDraws := s.freeDraws + 12 } :=
  exec_effect (owner := fun now => .accept (fun s => { s with freeDraws := s.freeDraws + 12 }) fun _ => countersRecordBytes now)
    rfl h rfl rfl rfl

/-- Settles O43: each record is cut into its blocks. -/
theorem readsReportAndChangeNothing : Obligations.ReadsReportAndChangeNothing := by
  refine ⟨fun s tag h => ?_, fun s tag slot i h hslot => ?_, fun s tag pool p hpool => ?_, fun s tag h => ?_, fun s tag h => ?_,
    fun s tag h => ?_⟩
  · exact exec_reported (owner := fun _ => report fun _ => identityResult) rfl h rfl rfl
  · intro r l m q selected
    refine ⟨_, ?_, ?_, ?_, exec_readSlot h hslot⟩
    · rw [List.length_append, slotRecordHead_length, slotRecordTail_length]
    · rw [show 47 = 47 + 0 from rfl, drop_block (slotRecordHead_length s i), List.drop_zero, slotRecordTail]
      have hselected : selectedPattern s i = selected := by
        dsimp only [selected]
        rw [selectedPattern]
        cases s.lamps.override.get i <;> rfl
      rw [hselected]
      rfl
    · rw [take_block (slotRecordHead_length s i), slotRecordHead, slotByte_of hslot]
      change slotHeadBytes slot r (slotHeld s i) (slotTarget s i) l m = _
      clear_value l m
      obtain ⟨state, train, _⟩ := l
      obtain ⟨mode, _, _, _, _, _, phase, _⟩ := m
      rcases train with _ | ⟨rate, _⟩
      · cases state <;> cases mode <;> cases phase <;> rfl
      · cases rate <;> cases state <;> cases mode <;> cases phase <;> rfl
  · intro r members holders
    refine ⟨fun h => ?_, fun h => ⟨(s.pools.get p).bins.cells.flatMap binBytes, ?_, fun b => ?_, ?_⟩,
      fun h => ⟨(List.finRange 4).flatMap (engineBytes s), ?_, fun e => ?_, ?_⟩⟩
    · rw [exec_poolReport (record := poolRecordBytes) h rfl hpool rfl rfl, poolRecordBytes_eq s p hpool]
      rfl
    · exact length_table binBytes_length (s.pools.get p).bins
    · rw [← List.append_nil ((s.pools.get p).bins.cells.flatMap binBytes), take_table binBytes_length, binBytes]
      cases ((s.pools.get p).bins.get b).owner <;> rfl
    · rw [exec_poolReport (record := binsRecordBytes) h rfl hpool rfl rfl, binsRecordBytes_eq s p hpool]
      rfl
    · exact length_finRange_blocks (engineBytes_length s)
    · rw [← List.append_nil ((List.finRange 4).flatMap (engineBytes s)), take_finRange (engineBytes_length s), engineBytes]
      rcases s.engines.get e with _ | m
      · rfl
      · obtain ⟨_, _, _, _, _, _, phase, _, _⟩ := m
        cases phase <;> rfl
    · rw [exec_poolReport (record := movesRecordBytes) h rfl hpool rfl rfl, movesRecordBytes_eq s p hpool]
      rfl
  · exact exec_reported (owner := fun _ => report attentionResult) rfl h rfl rfl
  · refine (exec_reported (owner := fun _ => report causeResult) rfl h rfl rfl).trans ?_
    rw [causeResult]
    change Host.Outcome.next (answered s ([tag, 0x1E, 0] ++ [causeByte s.agent.lastCause, _, _])) = _
    cases s.agent.lastCause <;> rfl
  · have hdrop (n : Nat) := drop_countersRecord (dropRequest s) n
    refine ⟨countersRecordBytes (dropRequest s), countersRecord_length _, ?_, fun p => ?_, fun i => ?_, ?_, ?_, fun i => ?_,
      (countersRecord_end _).trans ?_, exec_readCounters h⟩
    · rw [countersRecordBytes_eq]
      exact take_block (counterBytes_length s.core.counters) _
    · rw [(hdrop _).1, take_table (k := 28) (f := fun r : PoolRecord => counterBytes r.counters) fun r => counterBytes_length r.counters]
      rfl
    · rw [(hdrop _).2.1, take_table (k := 96) (f := counterBytes) fun t => counterBytes_length t]
      rfl
    · rw [show 1292 = 1292 + 0 from rfl, (hdrop 0).2.2.1]
      exact take_block (counterBytes_length s.agent.counters) _
    · rw [show 1312 = 1312 + 0 from rfl, (hdrop 0).2.2.2.1]
      rfl
    · obtain ⟨hqueue, hquota, hpause⟩ := block_five (countersRecord_upstream (dropRequest s) i)
      refine ⟨countersRecord_egress (dropRequest s) i, hqueue, fun q hq => ?_, ?_⟩
      · rw [show 1339 + 5 * i.val = 1338 + 5 * i.val + 1 by omega, hquota]
        exact congrArg some (reportedQuota_of (s := dropRequest s) hq)
      · rw [show 1340 + 5 * i.val = 1338 + 5 * i.val + 2 by omega, hpause]
        rfl
    · exact congrArg (fun n => [_, byteOf n, _]) List.length_tail

end Sys2Proof.Machine
end

section
/-! SUPPORT. The scanner's choice of a cycle, and the two requests that write its settings and begin it afresh (R157, R161,
R164). -/

namespace Sys2Proof.Machine

variable {s : State} {tag : Byte} {c : ScannerRecord}

/-- The least of the indices that meet a condition. -/
theorem find?_finRange_least {n : Nat} {q : Fin n → Bool} {a : Fin n} (h : (List.finRange n).find? q = some a) :
    q a = true ∧ ∀ b, q b = true → a ≤ b := by
  obtain ⟨hq, before, after, hlist, hnone⟩ := List.find?_eq_some_iff_append.mp h
  refine ⟨hq, fun b hb => ?_⟩
  have hmem : b ∈ before ++ a :: after := hlist ▸ List.mem_finRange b
  obtain hmem | hmem := List.mem_append.mp hmem
  · simpa [hb] using hnone b hmem
  · obtain rfl | hmem := List.mem_cons.mp hmem
    · exact le_rfl
    · have hsorted : (before ++ a :: after).Pairwise (· < ·) := hlist ▸ List.pairwise_lt_finRange n
      exact ((List.pairwise_cons.mp (List.pairwise_append.mp hsorted).2.1).1 b hmem).le

/-! The choice of R157. -/

theorem ScannerRecord.nextAddress_rotation (c : ScannerRecord) : RotationNext c c.nextAddress := by
  unfold ScannerRecord.nextAddress
  split
  · next hp => exact .inr ⟨fun a ⟨_, _, p, hp', _⟩ => (nomatch hp.symm.trans hp'), rfl⟩
  · next p hp =>
    have habove {a : SlotIx} : (c.firstAddress ≤ a ∧ a ≤ c.lastAddress ∧ ∃ p, c.pointer = some p ∧ p < a)
        ↔ decide (c.firstAddress ≤ a ∧ a ≤ c.lastAddress ∧ p < a) = true := by
      rw [hp, decide_eq_true_iff]
      simp
    split
    · next a ha =>
      obtain ⟨hin, hleast⟩ := find?_finRange_least ha
      exact .inl ⟨habove.mpr hin, fun a' h => hleast a' (habove.mp h)⟩
    · next hnone =>
      rw [List.find?_eq_none] at hnone
      exact .inr ⟨fun a h => hnone a (List.mem_finRange a) (habove.mp h), rfl⟩

theorem RotationNext.within {a : SlotIx} (h : RotationNext c a) (hrange : c.firstAddress ≤ c.lastAddress) :
    c.firstAddress ≤ a ∧ a ≤ c.lastAddress := by
  obtain ⟨⟨hfirst, hlast, -⟩, -⟩ | ⟨-, rfl⟩ := h
  · exact ⟨hfirst, hlast⟩
  · exact ⟨le_rfl, hrange⟩

theorem RotationNext.of_eq {c' : ScannerRecord} {a : SlotIx} (h : RotationNext c a) (hfirst : c'.firstAddress = c.firstAddress)
    (hlast : c'.lastAddress = c.lastAddress) (hpointer : c'.pointer = c.pointer) : RotationNext c' a := by
  unfold RotationNext
  rw [hfirst, hlast, hpointer]
  exact h

theorem ScannerRecord.chooseCycle_single {i : SlotIx} (h : c.waitingRead = some i) : c.chooseCycle = c.beginCycle i true := by
  rw [ScannerRecord.chooseCycle, h]

theorem ScannerRecord.beginCycle_cycle (c : ScannerRecord) (a : SlotIx) (single : Bool) :
    (c.beginCycle a single).cycle = some ⟨a, single, c.mode, c.divisor, c.preamble || c.forcedPreamble⟩ := rfl

/-- A rotation cycle begins in SCAN mode with no read waiting. -/
theorem ScannerRecord.chooseCycle_rotation (hwait : c.waitingRead = none) (hmode : c.mode = .scan) :
    ∃ a, RotationNext c a
      ∧ c.chooseCycle.cycle = some ⟨a, false, .scan, c.divisor, c.preamble || c.forcedPreamble⟩ :=
  ⟨c.nextAddress, c.nextAddress_rotation, by rw [ScannerRecord.chooseCycle_scan hwait hmode, ScannerRecord.beginCycle_cycle, hmode]⟩

theorem chooseIfIdle_eq (s : State) : chooseIfIdle s = if s.scanner.cycle = none then chooseCycle s else s := by
  unfold chooseIfIdle
  cases s.scanner.cycle <;> rfl

/-! SET_SCAN (R161). -/

theorem scanModeOf_legal {b : Byte} (h : b.toNat ≤ 2) : ∃ m, scanModeOf b = some m ∧ scanModeCode m = b.toNat := by
  unfold scanModeOf
  have hcases : b.toNat = 0 ∨ b.toNat = 1 ∨ b.toNat = 2 := by omega
  obtain hb | hb | hb := hcases <;> rw [hb] <;> exact ⟨_, rfl, rfl⟩

theorem scanModeOf_illegal {b : Byte} (h : ¬ b.toNat ≤ 2) : scanModeOf b = none := by
  unfold scanModeOf
  split
  · omega
  · omega
  · omega
  · rfl

theorem busDivisorOf_legal {b : Byte} (h : b.toNat ∈ [25, 50, 125, 250]) : busDivisorOf b = some b.toNat :=
  if_pos (by simpa using h)

theorem busDivisorOf_illegal {b : Byte} (h : b.toNat ∉ [25, 50, 125, 250]) : busDivisorOf b = none :=
  if_neg (by simpa using h)

theorem slotOf_legal {b : Byte} (h : 1 ≤ b.toNat ∧ b.toNat ≤ 12) : ∃ i : SlotIx, slotOf b = some i ∧ i.val + 1 = b.toNat := by
  obtain ⟨i, hi⟩ := slotOf_within h
  exact ⟨i, slotOf_of_toNat hi, hi.symm⟩

/-- The settings that a legal SET_SCAN puts in force. -/
theorem setScan_legal {mode divisor preamble first last debounce : Option Byte} (s : State)
    (hmode : ∀ b, mode = some b → b.toNat ≤ 2) (hdivisor : ∀ b, divisor = some b → b.toNat ∈ [25, 50, 125, 250])
    (hfirst : ∀ b, first = some b → 1 ≤ b.toNat ∧ b.toNat ≤ 12) (hlast : ∀ b, last = some b → 1 ≤ b.toNat ∧ b.toNat ≤ 12) :
    ∃ mode' first' last', scanModeCode (carried s.scanner.mode mode') = (mode.map BitVec.toNat).getD (scanModeCode s.scanner.mode)
      ∧ (carried s.scanner.firstAddress first').val + 1 = (first.map BitVec.toNat).getD (s.scanner.firstAddress.val + 1)
      ∧ (carried s.scanner.lastAddress last').val + 1 = (last.map BitVec.toNat).getD (s.scanner.lastAddress.val + 1)
      ∧ answerSetScan mode divisor preamble first last debounce s
        = if carried s.scanner.lastAddress last' < carried s.scanner.firstAddress first' then .refuse .range
          else .accept (writeScan
            (s.scanner.withSettings mode' (divisor.map BitVec.toNat) preamble first' last' debounce)) scanResult := by
  obtain ⟨mode', hmode', hcode⟩ := known_code (code := scanModeCode) s.scanner.mode fun b hb => scanModeOf_legal (hmode b hb)
  obtain ⟨first', hfirst', hfst⟩ := known_code (code := fun a : SlotIx => a.val + 1) s.scanner.firstAddress
    fun b hb => slotOf_legal (hfirst b hb)
  obtain ⟨last', hlast', hlst⟩ := known_code (code := fun a : SlotIx => a.val + 1) s.scanner.lastAddress
    fun b hb => slotOf_legal (hlast b hb)
  refine ⟨mode', first', last', hcode, hfst, hlst, ?_⟩
  rw [answerSetScan, hmode', known_some fun b hb => busDivisorOf_legal (hdivisor b hb), hfirst', hlast']
  rfl

theorem setScan_illegal {mode divisor preamble first last debounce : Option Byte}
    (h : (∃ b, mode = some b ∧ ¬ b.toNat ≤ 2) ∨ (∃ b, divisor = some b ∧ b.toNat ∉ [25, 50, 125, 250])
      ∨ (∃ b, first = some b ∧ ¬ (1 ≤ b.toNat ∧ b.toNat ≤ 12)) ∨ ∃ b, last = some b ∧ ¬ (1 ≤ b.toNat ∧ b.toNat ≤ 12)) :
    answerSetScan mode divisor preamble first last debounce s = .refuse .range := by
  rw [answerSetScan]
  split
  · rfl
  · next hmode =>
    split
    · rfl
    · next hdivisor =>
      split
      · next hfirst hlast =>
        obtain ⟨b, hb, hbad⟩ | ⟨b, hb, hbad⟩ | ⟨b, hb, hbad⟩ | ⟨b, hb, hbad⟩ := h
        · rw [known_none hb (scanModeOf_illegal hbad)] at hmode
          cases hmode
        · rw [known_none hb (busDivisorOf_illegal hbad)] at hdivisor
          cases hdivisor
        · rw [known_none hb (slotOf_none (by omega))] at hfirst
          cases hfirst
        · rw [known_none hb (slotOf_none (by omega))] at hlast
          cases hlast
      · rfl

theorem writeScan_eq (new : ScannerRecord) (s : State) :
    writeScan new s = { s with scanner := (writeScan new s).scanner } := by
  unfold writeScan
  split
  · rw [chooseIfIdle_eq]
    split <;> rfl
  · rfl

theorem writeScan_scanner (new : ScannerRecord) (s : State) : (writeScan new s).scanner
    = if new.cycle = none ∧ s.scanner.mode ≠ .scan ∧ new.mode = .scan then new.chooseCycle else new := by
  unfold writeScan
  split
  · next hmode =>
    rw [chooseIfIdle_eq]
    split
    · next hcycle => rw [if_pos ⟨hcycle, hmode⟩]; rfl
    · next hcycle => rw [if_neg fun h => hcycle h.1]; rfl
  · next hmode => rw [if_neg fun h => hmode h.2]; rfl

theorem writeScan_keeps (new : ScannerRecord) (s : State) : (writeScan new s).scanner.pointer = new.pointer
    ∧ (writeScan new s).scanner.pendingRead = new.pendingRead ∧ (writeScan new s).scanner.mode = new.mode
    ∧ (writeScan new s).scanner.divisor = new.divisor ∧ (writeScan new s).scanner.preamble = new.preamble
    ∧ (writeScan new s).scanner.firstAddress = new.firstAddress ∧ (writeScan new s).scanner.lastAddress = new.lastAddress
    ∧ (writeScan new s).scanner.debounce = new.debounce := by
  rw [writeScan_scanner]
  split
  · exact new.chooseCycle_keeps
  · exact ⟨rfl, rfl, rfl, rfl, rfl, rfl, rfl, rfl⟩

theorem setScan_refused {mode divisor preamble first last debounce : Option Byte}
    (h : ¬ ((∀ b, mode = some b → b.toNat ≤ 2) ∧ (∀ b, divisor = some b → b.toNat ∈ [25, 50, 125, 250])
      ∧ (∀ b, first = some b → 1 ≤ b.toNat ∧ b.toNat ≤ 12) ∧ (∀ b, last = some b → 1 ≤ b.toNat ∧ b.toNat ≤ 12)
      ∧ (first.map BitVec.toNat).getD (s.scanner.firstAddress.val + 1) ≤ (last.map BitVec.toNat).getD (s.scanner.lastAddress.val + 1))) :
    answerSetScan mode divisor preamble first last debounce s = .refuse .range := by
  by_cases hmode : ∀ b, mode = some b → b.toNat ≤ 2
  · by_cases hdivisor : ∀ b, divisor = some b → b.toNat ∈ [25, 50, 125, 250]
    · by_cases hfirst : ∀ b, first = some b → 1 ≤ b.toNat ∧ b.toNat ≤ 12
      · by_cases hlast : ∀ b, last = some b → 1 ≤ b.toNat ∧ b.toNat ≤ 12
        · obtain ⟨mode', first', last', -, hfst, hlst, hanswer⟩ := setScan_legal (preamble := preamble) (debounce := debounce) s
            hmode hdivisor hfirst hlast
          rw [hanswer, if_pos]
          have hgt := Nat.lt_of_not_le fun hle => h ⟨hmode, hdivisor, hfirst, hlast, hle⟩
          rw [← hfst, ← hlst] at hgt
          exact Fin.lt_def.mpr (Nat.lt_of_succ_lt_succ hgt)
        · exact setScan_illegal (.inr (.inr (.inr (illegal_field hlast))))
      · exact setScan_illegal (.inr (.inr (.inl (illegal_field hfirst))))
    · exact setScan_illegal (.inr (.inl (illegal_field hdivisor)))
  · exact setScan_illegal (.inl (illegal_field hmode))

theorem exec_setScan {mode divisor preamble first last debounce : Option Byte} {new : ScannerRecord}
    (h : Heads (.setScan tag mode divisor preamble first last debounce) s)
    (haccept : answerSetScan mode divisor preamble first last debounce (dropRequest s) = .accept (writeScan new) scanResult) :
    exec (.setScan tag mode divisor preamble first last debounce) s = .next { answered s
      ([tag, 0x13, 0] ++ scanResult (writeScan new s)) with scanner := (writeScan new s).scanner } := by
  have hscanner : (writeScan new (accepting s)).scanner = (writeScan new s).scanner := by
    rw [writeScan_scanner, writeScan_scanner]
    rfl
  have hresult : scanResult (writeScan new (accepting s)) = scanResult (writeScan new s) := by
    rw [scanResult, hscanner]
    rfl
  have hagent : (writeScan new (accepting s)).agent = (accepting s).agent := by rw [writeScan_eq]
  rw [exec_effect rfl h rfl haccept hagent, hresult, writeScan_eq, hscanner]
  rfl

/-! SCAN_RESTART (R164). -/

theorem exec_scanRestart (h : Heads (.scanRestart tag) s) : exec (.scanRestart tag) s = .next { answered s [tag, 0x15, 0] with
    scanner := ScannerRecord.chooseCycle { s.scanner with cycle := none, forcedPreamble := true, pointer := none } } :=
  exec_effect (owner := fun _ => .accept restartScan fun _ => []) rfl h rfl rfl rfl

/-- Settles O37: the settings are read field by field; the cycle begun is the choice of R157. -/
theorem scannerSettingsAndRestart : Obligations.ScannerSettingsAndRestart := by
  refine ⟨fun s tag mode divisor preamble first last debounce h => ?_, fun s tag h => ?_⟩
  · intro c fst lst legal
    refine ⟨fun hbad => exec_refused (status := .range) rfl h rfl (setScan_refused hbad), fun hlegal => ?_⟩
    obtain ⟨hmode, hdivisor, hfirst, hlast, hle⟩ := hlegal
    obtain ⟨mode', first', last', hcode, hfst, hlst, hanswer⟩ := setScan_legal (preamble := preamble) (debounce := debounce)
      (dropRequest s) hmode hdivisor hfirst hlast
    have hrange : carried c.firstAddress first' ≤ carried c.lastAddress last' := by
      refine Fin.le_def.mpr (Nat.le_of_succ_le_succ ?_)
      rw [Nat.succ_eq_add_one, Nat.succ_eq_add_one]
      exact hfst.trans_le (hle.trans_eq hlst.symm)
    obtain ⟨new, hnew⟩ : ∃ new, new = c.withSettings mode' (divisor.map BitVec.toNat) preamble first' last' debounce := ⟨_, rfl⟩
    have haccept : answerSetScan mode divisor preamble first last debounce (dropRequest s) = .accept (writeScan new) scanResult :=
      hnew ▸ hanswer.trans (if_neg (not_lt.mpr hrange))
    have hexec := exec_setScan h haccept
    have hscanner := writeScan_scanner new s
    obtain ⟨hpointer, hpending, hm, hd, hp, hf, hl, hdeb⟩ := writeScan_keeps new s
    have hfst' : (writeScan new s).scanner.firstAddress.val + 1 = fst := by rw [hf, hnew]; exact hfst
    have hlst' : (writeScan new s).scanner.lastAddress.val + 1 = lst := by rw [hl, hnew]; exact hlst
    refine ⟨_, hexec, ?_, ?_, ?_, hfst', hlst', ?_, ?_, ?_, fun hstays => ?_, fun hcycle hscan hnow hwait => ?_, ?_⟩
    · exact (congrArg scanModeCode hm).trans (hnew ▸ hcode)
    · exact hd.trans (hnew ▸ rfl)
    · exact hp.trans (hnew ▸ rfl)
    · refine hdeb.trans ?_
      simp only [hnew, ScannerRecord.withSettings, carried, clampTo_eq]
    · exact hpointer.trans (hnew ▸ rfl)
    · exact hpending.trans (hnew ▸ rfl)
    · have hnone : ¬ (new.cycle = none ∧ s.scanner.mode ≠ .scan ∧ new.mode = .scan) := fun hc => by
        obtain hstays | hstays | hstays := hstays
        · exact hstays ((congrArg ScannerRecord.cycle hnew).symm.trans hc.1)
        · exact hc.2.1 hstays
        · exact hstays (hm.trans hc.2.2)
      dsimp only
      rw [hscanner, if_neg hnone, hnew]
      exact ⟨rfl, rfl⟩
    · have hmodeScan : new.mode = .scan := hm.symm.trans hnow
      have hnowait : new.waitingRead = none := hnew ▸ hwait
      obtain ⟨a, hnext, hbegun⟩ := ScannerRecord.chooseCycle_rotation hnowait hmodeScan
      obtain ⟨hlow, hhigh⟩ := hnext.within (hnew ▸ hrange)
      refine ⟨a, hnext.of_eq hf hl hpointer, hf.trans_le hlow, hhigh.trans_eq hl.symm, ?_⟩
      dsimp only
      have hidle : new.cycle = none := hnew ▸ hcycle
      have hforced : new.forcedPreamble = c.forcedPreamble := hnew ▸ rfl
      rw [hd, hp, ← hforced, ← hbegun, hscanner, if_pos ⟨hidle, hscan, hmodeScan⟩]
    · rw [← hfst', ← hlst']
      rfl
  · refine ⟨_, exec_scanRestart h, ?_⟩
    set new : ScannerRecord := { s.scanner with cycle := none, forcedPreamble := true, pointer := none }
    obtain ⟨hpointer, hpending, -⟩ := new.chooseCycle_keeps
    refine ⟨hpointer, fun hwait hmode => ?_, fun hwait hmode => ?_, fun i hwait => ?_, hpending, rfl⟩
    · have hwait : new.waitingRead = none := hwait
      dsimp only
      rw [ScannerRecord.chooseCycle_scan hwait hmode, ScannerRecord.beginCycle_forced rfl]
      exact ⟨congrArg (fun m => some (BusCycle.mk s.scanner.firstAddress false m s.scanner.divisor true)) hmode, rfl⟩
    · have hwait : new.waitingRead = none := hwait
      dsimp only
      rw [ScannerRecord.chooseCycle_idle hwait hmode]
      exact ⟨rfl, rfl⟩
    · have hwait : new.waitingRead = some i := hwait
      dsimp only
      rw [ScannerRecord.chooseCycle_single hwait, ScannerRecord.beginCycle_forced rfl]
      exact ⟨rfl, rfl⟩

end Sys2Proof.Machine
end

section
/-! SUPPORT. The end of a read cycle: the sample, the result of a single read, and the choice of the next cycle (R156–R160,
R162, R163). -/

namespace Sys2Proof.Machine

variable {s t u : State} {i : SlotIx} {tag slot word check : Byte} {ack good : Bool} {c : BusCycle}

/-! The sample. -/

/-- The counter that a read raises. -/
def readCounter (good : Bool) : SlotCounter := if good then .scanGood else .scanFailed

/-- A port record after a read. -/
def portAfter (d : Nat) (good : Bool) (word : Byte) (q : PortRecord) : PortRecord :=
  if good then q.goodRead d word else { q with noResponse := min 8 (q.noResponse + 1) }

/-- A sample is its count and the port's record, then an event of its slot. -/
def sampled (i : SlotIx) (good : Bool) (word : Byte) (s : State) : State :=
  (bumpSlot i (readCounter good) s).updPort i (portAfter s.scanner.debounce good word)

theorem sample_good (i : SlotIx) (word : Byte) (s : State) : sample i true word s
    = deliver i (deliveryOf (s.ports.get i) ((s.ports.get i).goodRead s.scanner.debounce word)) (sampled i true word s) := by
  rw [sample, if_pos rfl, goodRead, State.updPort_ports, Table.get_modify_self]
  rfl

theorem sample_failed (i : SlotIx) (word : Byte) (s : State) : sample i false word s
    = if 7 ≤ (s.ports.get i).noResponse then raiseFlag i .scanNoResponse (sampled i false word s) else sampled i false word s := by
  have hcount : (((sampled i false word s).ports.get i).noResponse = 8) ↔ 7 ≤ (s.ports.get i).noResponse := by
    have hport : (sampled i false word s).ports.get i = { s.ports.get i with noResponse := min 8 ((s.ports.get i).noResponse + 1) } :=
      Table.get_modify_self ..
    rw [hport]
    dsimp only
    omega
  have hsample : sample i false word s = if ((sampled i false word s).ports.get i).noResponse = 8
      then raiseFlag i .scanNoResponse (sampled i false word s) else sampled i false word s := rfl
  rw [hsample]
  exact if_congr hcount rfl rfl

theorem sample_eventAt (i : SlotIx) (good : Bool) (word : Byte) (s : State) :
    EventAt i (sampled i good word s) (sample i good word s) := by
  cases good
  · rw [sample_failed]
    exact .ite (fun _ => raiseFlag_eventAt i _ _) fun _ => .refl i _
  · rw [sample_good]
    exact deliver_eventAt i _ _

theorem sampled_others (i : SlotIx) (good : Bool) (word : Byte) (s : State) : OthersStand i s (sampled i good word s) :=
  { OthersStand.refl i s with }

theorem sample_ports (i : SlotIx) (good : Bool) (word : Byte) (s : State) :
    (sample i good word s).ports = s.ports.modify i (portAfter s.scanner.debounce good word) :=
  (sample_eventAt i good word s).ports

theorem sample_scanner (i : SlotIx) (good : Bool) (word : Byte) (s : State) : (sample i good word s).scanner = s.scanner :=
  (sample_eventAt i good word s).scanner

theorem sample_count (i : SlotIx) (good : Bool) (word : Byte) (s : State) :
    (sample i good word s).slotCount i (readCounter good) = counterAdd (s.slotCount i (readCounter good)) 1 := by
  refine ((sample_eventAt i good word s).counts i _ ?_).trans ((slotCount_bumpSlotBy ..).trans (if_pos ⟨rfl, rfl⟩))
  cases good <;> decide

/-! The result of a single read (R163). -/

theorem readResponse_eq (slot : SlotIx) (tag : Byte) (res : ReadResult) :
    readResponse slot tag res = readReport slot tag res.word res.port := by
  rw [readResponse, readResultBytes, acceptedWord_eq, candidatesBytes_eq]
  rfl

theorem joinReadResponse_waits (h : s.scanner.pendingRead = none) : joinReadResponse s = s := by
  rw [joinReadResponse, h]

theorem joinReadResponse_room {res : ReadResult} (h : s.scanner.pendingRead = some ⟨i, tag, some res⟩)
    (hroom : s.agent.transmit.length < 16) : joinReadResponse s = { s with
      scanner := { s.scanner with pendingRead := none }
      agent := { s.agent with transmit := s.agent.transmit ++ [readReport i tag res.word res.port] } } := by
  rw [joinReadResponse, h, ← readResponse_eq]
  exact if_pos (decide_eq_true hroom)

theorem joinReadResponse_full {res : ReadResult} (h : s.scanner.pendingRead = some ⟨i, tag, some res⟩)
    (hfull : 16 ≤ s.agent.transmit.length) : joinReadResponse s = s := by
  rw [joinReadResponse, h]
  exact if_neg fun hroom => absurd (of_decide_eq_true hroom) (Nat.not_lt.mpr hfull)

theorem joinReadResponse_frame (s : State) : ∃ scanner transmit,
    joinReadResponse s = { s with scanner := scanner, agent := { s.agent with transmit := transmit } } := by
  unfold joinReadResponse
  split
  · split
    · exact ⟨_, _, rfl⟩
    · exact ⟨s.scanner, s.agent.transmit, rfl⟩
  · exact ⟨s.scanner, s.agent.transmit, rfl⟩
  · exact ⟨s.scanner, s.agent.transmit, rfl⟩

/-! The end of a cycle. -/

theorem cycleEnds_frame (c : BusCycle) (good : Bool) (word : Byte) (s : State) : ∃ scanner transmit,
    cycleEnds c good word s = { sample c.address good word s with
      scanner := scanner, agent := { (sample c.address good word s).agent with transmit := transmit } } := by
  rw [cycleEnds]
  generalize sample c.address good word s = u
  split
  · obtain ⟨scanner, transmit, h⟩ := joinReadResponse_frame (u.updScanner fun r =>
      { r with pendingRead := r.pendingRead.map fun p => { p with result := some ⟨if good then some word else none, u.ports.get c.address⟩ } })
    rw [recordRead, h]
    exact ⟨_, transmit, rfl⟩
  · exact ⟨_, u.agent.transmit, rfl⟩

theorem cycleEnds_ports (c : BusCycle) (good : Bool) (word : Byte) (s : State) :
    (cycleEnds c good word s).ports = s.ports.modify c.address (portAfter s.scanner.debounce good word) := by
  obtain ⟨_, _, h⟩ := cycleEnds_frame c good word s
  rw [h]
  exact sample_ports c.address good word s

theorem cycleEnds_slots (c : BusCycle) (good : Bool) (word : Byte) (s : State) :
    (cycleEnds c good word s).slots = (sample c.address good word s).slots := by
  obtain ⟨_, _, h⟩ := cycleEnds_frame c good word s
  rw [h]

theorem cycleEnds_others (c : BusCycle) (good : Bool) (word : Byte) (s : State) :
    OthersStand c.address s (cycleEnds c good word s) := by
  refine ((sampled_others c.address good word s).trans (sample_eventAt c.address good word s).others).trans ?_
  obtain ⟨_, _, h⟩ := cycleEnds_frame c good word s
  rw [h]
  exact { OthersStand.refl c.address (sample c.address good word s) with agent := rfl }

theorem cycleEnds_settings (c : BusCycle) (good : Bool) (word : Byte) (s : State) :
    SettingsStand c.address s (cycleEnds c good word s) := by
  have h := (sample_eventAt c.address good word s).settings
  rw [SettingsStand, cycleEnds_slots]
  exact h

theorem cycleEnds_count (c : BusCycle) (good : Bool) (word : Byte) (s : State) :
    (cycleEnds c good word s).slotCount c.address (readCounter good)
      = counterAdd (s.slotCount c.address (readCounter good)) 1 := by
  obtain ⟨_, _, h⟩ := cycleEnds_frame c good word s
  rw [h]
  exact sample_count c.address good word s

/-- A rotation cycle's end puts the pointer on the address read and chooses from there (R156, R157). -/
theorem cycleEnds_rotation (hc : c.isSingle = false) (good : Bool) (word : Byte) (s : State) :
    (cycleEnds c good word s).scanner = ScannerRecord.chooseCycle { s.scanner with pointer := some c.address } := by
  rw [cycleEnds, hc, ← sample_scanner c.address good word s]
  rfl

/-- A single read's cycle ends with its result offered, or kept for room (R163). -/
theorem cycleEnds_single (hc : c.isSingle = true) (good : Bool) (word : Byte)
    (hread : s.scanner.pendingRead = some ⟨i, tag, none⟩) :
    let u := sample c.address good word s
    let got := if good then some word else none
    (u.agent.transmit.length < 16 → cycleEnds c good word s = { u with
        scanner := ScannerRecord.chooseCycle { s.scanner with pendingRead := none }
        agent := { u.agent with transmit := u.agent.transmit ++ [readReport i tag got (u.ports.get c.address)] } })
    ∧ (16 ≤ u.agent.transmit.length → cycleEnds c good word s = { u with
        scanner := ScannerRecord.chooseCycle
          { s.scanner with pendingRead := some ⟨i, tag, some ⟨got, u.ports.get c.address⟩⟩ } }) := by
  intro u got
  have hu : u.scanner = s.scanner := sample_scanner ..
  have hends : cycleEnds c good word s = chooseCycle (joinReadResponse
      { u with scanner := { s.scanner with pendingRead := some ⟨i, tag, some ⟨got, u.ports.get c.address⟩⟩ } }) := by
    rw [cycleEnds, hc, ← hu]
    refine congrArg (fun r => chooseCycle (joinReadResponse { u with scanner := r })) ?_
    have hread' : u.scanner.pendingRead = some ⟨i, tag, none⟩ := hu ▸ hread
    exact congrArg (fun p : Option PendingRead => ({ u.scanner with
      pendingRead := p.map fun p => { p with result := some ⟨got, u.ports.get c.address⟩ } } : ScannerRecord)) hread'
  refine ⟨fun hroom => hends.trans ?_, fun hfull => hends.trans ?_⟩
  · exact congrArg chooseCycle (joinReadResponse_room (s := { u with
      scanner := { s.scanner with pendingRead := some ⟨i, tag, some ⟨got, u.ports.get c.address⟩⟩ } }) rfl hroom)
  · exact congrArg chooseCycle (joinReadResponse_full (s := { u with
      scanner := { s.scanner with pendingRead := some ⟨i, tag, some ⟨got, u.ports.get c.address⟩⟩ } }) rfl hfull)

theorem ScannerRecord.chooseCycle_pending (c : ScannerRecord) : c.chooseCycle.pendingRead = c.pendingRead := c.chooseCycle_keeps.2.1

theorem readIsGood_iff : readIsGood ack word check = true ↔ ack = true ∧ check = ~~~word := by
  rw [readIsGood, Bool.and_eq_true, decide_eq_true_iff]

theorem readIsGood_failed (h : ack = false ∨ check ≠ ~~~word) : readIsGood ack word check = false := by
  refine Bool.eq_false_iff.mpr fun hgood => ?_
  obtain ⟨hack, hcheck⟩ := readIsGood_iff.mp hgood
  obtain h | h := h
  · exact Bool.false_ne_true (h.symm.trans hack)
  · exact h hcheck

theorem exec_readCycleEnd (h : s.scanner.cycle = some c) :
    exec (.readCycleEnd ack word check) s = .next (cycleEnds c (readIsGood ack word check) word s) := by
  simp only [exec, execReadCycleEnd, h]

/-- The scanner after a single read, whether its result waits or not: the rotation goes on from where it stood. -/
theorem cycleEnds_single_scanner (hc : c.isSingle = true) (good : Bool) (word : Byte)
    (hread : s.scanner.pendingRead = some ⟨i, tag, none⟩) : ∃ pending,
    (cycleEnds c good word s).scanner = ScannerRecord.chooseCycle { s.scanner with pendingRead := pending }
      ∧ ScannerRecord.waitingRead { s.scanner with pendingRead := pending } = none := by
  obtain ⟨hroom, hfull⟩ := cycleEnds_single hc good word hread
  obtain h | h := Nat.lt_or_ge (sample c.address good word s).agent.transmit.length 16
  · exact ⟨none, by rw [hroom h], rfl⟩
  · exact ⟨some ⟨i, tag, some ⟨if good then some word else none, _⟩⟩, by rw [hfull h], rfl⟩

/-! The obligations. -/

/-- What a failed read leaves of the slots. -/
theorem sample_failed_slots (i : SlotIx) (word : Byte) (s : State) :
    ((s.ports.get i).noResponse < 7 → (sample i false word s).slots = s.slots)
    ∧ (7 ≤ (s.ports.get i).noResponse → flagSet (sample i false word s) i .scanNoResponse = true)
    ∧ ∀ j, ((sample i false word s).slots.get j).state = (s.slots.get j).state := by
  rw [sample_failed]
  split
  · next h => exact ⟨fun h' => absurd h (Nat.not_le.mpr h'), fun _ => flagSet_raiseFlag i _ _, fun j => raiseFlag_state i j _ _⟩
  · next h => exact ⟨fun _ => rfl, fun h' => absurd h' h, fun _ => rfl⟩

theorem setWidth_four (word : Byte) : word.extractLsb' 0 4 = word.setWidth 4 := by
  ext k hk
  simp

theorem ScannerRecord.chooseCycle_next {r : ScannerRecord} {a : SlotIx} (hwait : r.waitingRead = none) (hmode : r.mode = .scan)
    (ha : r.nextAddress = a) :
    r.chooseCycle.cycle = some ⟨a, false, .scan, r.divisor, r.preamble || r.forcedPreamble⟩ := by
  rw [ScannerRecord.chooseCycle_scan hwait hmode, ha, ScannerRecord.beginCycle_cycle, hmode]

/-- The address that follows in the rotation (R157). -/
theorem ScannerRecord.nextAddress_of_pointer {r : ScannerRecord} {p : SlotIx} (hp : r.pointer = some p) :
    (r.lastAddress ≤ p → r.nextAddress = r.firstAddress)
    ∧ (∀ a, r.firstAddress ≤ a → a ≤ r.lastAddress → p < a → (∀ a', r.firstAddress ≤ a' → p < a' → a ≤ a') →
      r.nextAddress = a) := by
  obtain ⟨⟨hfirst, hlast, p', hp', habove⟩, hleast⟩ | ⟨hnone, hnext⟩ := r.nextAddress_rotation
  · obtain rfl : p = p' := Option.some.inj (hp.symm.trans hp')
    exact ⟨fun h => absurd (habove.trans_le (hlast.trans h)) (lt_irrefl _),
      fun a ha ha' hpa hmin => le_antisymm (hleast a ⟨ha, ha', p, hp, hpa⟩) (hmin _ hfirst habove)⟩
  · exact ⟨fun _ => hnext, fun a ha ha' hpa _ => absurd ⟨ha, ha', p, hp, hpa⟩ (hnone a)⟩

/-- Settles O34: the sample is the port's record and its event, the choice is `ScannerRecord.chooseCycle` of what the cycle
leaves. -/
theorem readCyclesEndWithASampleAndAChoice : Obligations.ReadCyclesEndWithASampleAndAChoice := by
  intro s c ack word check hcycle q d
  have hport : ∀ good, (cycleEnds c good word s).ports.get c.address = portAfter d good word q := fun good => by
    rw [cycleEnds_ports, Table.get_modify_self]
  refine ⟨_, exec_readCycleEnd hcycle, fun i hi => ?_, cycleEnds_others .., cycleEnds_settings .., fun hack hcheck => ?_,
    fun hbad => ?_, fun hc => ?_, fun hc hwait => ⟨fun hmode => ?_, fun hmode hlast => ?_, fun a hmode ha ha' hca hmin => ?_⟩,
    fun i hc hwait => ?_, fun tag hc hread => ?_⟩
  · rw [cycleEnds_ports]
    exact Table.get_modify_of_ne _ hi _
  · have hgood : readIsGood ack word check = true := readIsGood_iff.mpr ⟨hack, hcheck⟩
    rw [hgood, hport]
    exact ⟨congrArg (fun v => PortRecord.mk _ _ _ (q.bladeClass.judge d v) 0) (setWidth_four word), cycleEnds_count c true word s⟩
  · rw [readIsGood_failed hbad, hport, cycleEnds_slots]
    exact ⟨rfl, cycleEnds_count c false word s, by
      rw [flagSet, cycleEnds_slots]
      exact sample_failed_slots c.address word s⟩
  · rw [cycleEnds_rotation hc]
    exact (ScannerRecord.chooseCycle_keeps _).1
  · exact congrArg ScannerRecord.cycle ((cycleEnds_rotation hc ..).trans (ScannerRecord.chooseCycle_idle hwait hmode))
  · rw [cycleEnds_rotation hc]
    exact ScannerRecord.chooseCycle_next hwait hmode ((ScannerRecord.nextAddress_of_pointer rfl).1 hlast)
  · rw [cycleEnds_rotation hc]
    exact ScannerRecord.chooseCycle_next hwait hmode ((ScannerRecord.nextAddress_of_pointer rfl).2 a ha ha' hca hmin)
  · exact congrArg ScannerRecord.cycle ((cycleEnds_rotation hc ..).trans (ScannerRecord.chooseCycle_single hwait))
  · obtain ⟨pending, hscanner, hwait⟩ := cycleEnds_single_scanner hc (readIsGood ack word check) word hread
    rw [hscanner]
    refine ⟨(ScannerRecord.chooseCycle_keeps _).1, fun hmode => ?_, fun hmode => ?_⟩
    · exact congrArg ScannerRecord.cycle (ScannerRecord.chooseCycle_idle hwait hmode)
    · obtain ⟨a, hnext, ha⟩ := ScannerRecord.chooseCycle_rotation hwait hmode
      exact ⟨a, hnext.of_eq rfl rfl rfl, ha⟩

/-- A request taken without a response now. -/
theorem processRequest_later {cmd : Instr} {code : Byte} {owner : State → Answer} {effect : State → State}
    (h : Heads cmd s) (hkey : requestKey cmd = some (tag, code)) (howner : owner (dropRequest s) = .later effect) :
    processRequest cmd owner s = effect (dropRequest s) := by
  obtain ⟨e, -, -, he⟩ := processRequest_of_heads (owner := owner) h hkey
  rw [he, howner, answerRequest]

/-- A read that waits begins on an IDLE bus and otherwise leaves the cycle. -/
theorem beginRead_idle (tag : Byte) (i : SlotIx) (h : s.scanner.cycle = none) : beginRead tag i s = { s with
    scanner := ScannerRecord.beginCycle { s.scanner with pendingRead := some ⟨i, tag, none⟩ } i true } := by
  rw [beginRead, chooseIfIdle_eq]
  exact if_pos h

theorem beginRead_busy (tag : Byte) (i : SlotIx) (h : s.scanner.cycle ≠ none) : beginRead tag i s = { s with
    scanner := { s.scanner with pendingRead := some ⟨i, tag, none⟩ } } := by
  rw [beginRead, chooseIfIdle_eq]
  exact if_neg h

theorem answerScanRead_of (tag : Byte) (h : slot.toNat = i.val + 1) (s : State) : answerScanRead tag slot s
    = if s.scanner.mode = .off then .refuse .badState
      else if s.scanner.pendingRead.isSome then .refuse .busy else .later (beginRead tag i) :=
  withSlot_of h _

theorem exec_scanRead_taken (h : Heads (.scanRead tag slot) s) (hslot : slot.toNat = i.val + 1)
    (hmode : s.scanner.mode ≠ .off) (hread : s.scanner.pendingRead = none) :
    exec (.scanRead tag slot) s = .next (beginRead tag i (dropRequest s)) := by
  refine congrArg Host.Outcome.next (processRequest_later (owner := answerScanRead tag slot) h rfl ?_)
  rw [answerScanRead_of tag hslot]
  refine (if_neg hmode).trans (if_neg ?_)
  rw [show (dropRequest s).scanner.pendingRead = none from hread]
  exact Bool.false_ne_true

/-- The notices that come before a read's result are those of its sample. -/
theorem exec_singleReadEnd {mode : ScanMode} {div : Nat} {pre : Bool} (hcycle : s.scanner.cycle = some ⟨i, true, mode, div, pre⟩)
    (hread : s.scanner.pendingRead = some ⟨i, tag, none⟩) :
    let got := if ack = true ∧ check = ~~~word then some word else none
    ∃ t notices, exec (.readCycleEnd ack word check) s = .next t
      ∧ (s.agent.noticesEnabled = false → notices = []) ∧ (∀ n, n ∈ notices → n[1]? = some 0x80)
      ∧ ((s.agent.transmit ++ notices).length < 16 → t.scanner.pendingRead = none
        ∧ t.agent.transmit = s.agent.transmit ++ notices ++ [readReport i tag got (t.ports.get i)])
      ∧ (16 ≤ (s.agent.transmit ++ notices).length → t.agent.transmit = s.agent.transmit ++ notices
        ∧ t.scanner.pendingRead = some ⟨i, tag, some ⟨got, t.ports.get i⟩⟩) := by
  intro got
  have hgot : (if readIsGood ack word check then some word else none) = got := if_congr readIsGood_iff rfl rfl
  obtain ⟨notices, hnotices, hcode, hoff, -⟩ := (sample_eventAt i (readIsGood ack word check) word s).proceeds.agent.notices
  have hbefore : (sampled i (readIsGood ack word check) word s).agent = s.agent := rfl
  rw [hbefore] at hnotices hoff
  obtain ⟨hroom, hfull⟩ := cycleEnds_single (c := ⟨i, true, mode, div, pre⟩) rfl (readIsGood ack word check) word hread
  rw [hgot, hnotices] at hroom hfull
  refine ⟨_, notices, exec_readCycleEnd hcycle, hoff, hcode, fun h => ?_, fun h => ?_⟩
  · rw [hroom h]
    exact ⟨ScannerRecord.chooseCycle_pending _, rfl⟩
  · rw [hfull h]
    exact ⟨hnotices, ScannerRecord.chooseCycle_pending _⟩

/-- Settles O38: the read waits in the scanner's record, and its result joins the transmit queue where there is room. -/
theorem singleReadsWaitForTheirCycle : Obligations.SingleReadsWaitForTheirCycle := by
  refine ⟨fun s tag slot i h hslot => ⟨fun hmode => ?_, fun hmode hread => ?_, fun hmode hread => ?_⟩,
    fun s i tag mode div pre ack word check hcycle hread => exec_singleReadEnd hcycle hread,
    fun s i tag res hread => ⟨fun hfull => ?_, fun hroom => ?_⟩, fun s hread => ?_⟩
  · refine exec_refused (owner := answerScanRead tag slot) (status := .badState) rfl h rfl ?_
    exact (answerScanRead_of tag hslot _).trans (if_pos hmode)
  · refine exec_refused (owner := answerScanRead tag slot) (status := .busy) rfl h rfl ?_
    exact (answerScanRead_of tag hslot _).trans ((if_neg hmode).trans (if_pos (Option.isSome_iff_ne_none.mpr hread)))
  · refine ⟨_, exec_scanRead_taken h hslot hmode hread, ?_⟩
    rcases hcycle : s.scanner.cycle with _ | c
    · rw [beginRead_idle tag i (s := dropRequest s) hcycle]
      exact ⟨rfl, fun hne => absurd rfl hne, fun _ => rfl, rfl⟩
    · rw [beginRead_busy tag i (s := dropRequest s) (by rw [show (dropRequest s).scanner.cycle = some c from hcycle]; simp)]
      exact ⟨rfl, fun _ => hcycle, fun hnone => absurd hnone (Option.some_ne_none c), rfl⟩
  · exact congrArg Host.Outcome.next (joinReadResponse_full hread hfull)
  · exact congrArg Host.Outcome.next (joinReadResponse_room hread hroom)
  · exact congrArg Host.Outcome.next (joinReadResponse_waits hread)

end Sys2Proof.Machine
end

section
/-! SUPPORT. What a hold list's release and a commit do to egress queues, bins and counters (R71, R72, R93), and what the
recomputation and the reports after a commit leave as it was (R43–R45, R73). -/

namespace Sys2Proof.Machine

variable {s t u : State} {p q : PoolIx} {i j : SlotIx} {b c : BinIx} {e : EngineIx} {m : MoveRecord}

/-! State operations made twice. -/

theorem counterAdd_zero (c : Counter) : counterAdd c 0 = c := by
  refine BitVec.eq_of_toNat_eq ?_
  rw [counterAdd_toNat]
  omega

theorem counterAdd_counterAdd (c : Counter) (m n : Nat) : counterAdd (counterAdd c m) n = counterAdd c (m + n) := by
  refine BitVec.eq_of_toNat_eq ?_
  simp only [counterAdd_toNat]
  omega

theorem bumpSlotBy_zero (i : SlotIx) (c : SlotCounter) (s : State) : bumpSlotBy i c 0 s = s := by
  rw [bumpSlotBy, Table.modify_id]
  exact Table.modify_id _ _ (counterAdd_zero _)

theorem bumpSlotBy_bumpSlotBy (i : SlotIx) (c : SlotCounter) (m n : Nat) (s : State) :
    bumpSlotBy i c n (bumpSlotBy i c m s) = bumpSlotBy i c (m + n) s := by
  rw [bumpSlotBy, bumpSlotBy, bumpSlotBy]
  dsimp only
  rw [Table.modify_modify]
  refine congrArg (fun table => { s with slotCounters := table }) (congrArg (s.slotCounters.modify i) (funext fun t => ?_))
  rw [Table.modify_modify]
  exact congrArg (t.modify c.ix) (funext fun k => counterAdd_counterAdd k m n)

theorem setEgress_get (i : SlotIx) (s : State) : s.setEgress i (s.egress.get i) = s := by
  rw [State.setEgress, Table.set_get]

theorem setEgress_setEgress (i : SlotIx) (q q' : List EgressEntry) (s : State) :
    (s.setEgress i q).setEgress i q' = s.setEgress i q' := by
  refine congrArg (fun table => { s with egress := table }) (Table.ext_get fun j => ?_)
  rw [State.setEgress_egress, Table.get_set, Table.get_set, Table.get_set]
  split <;> rfl

theorem updBin_updBin (p : PoolIx) (b : BinIx) (f g : BinRecord → BinRecord) (s : State) :
    (s.updBin p b f).updBin p b g = s.updBin p b fun r => g (f r) := by
  refine congrArg (fun table => { s with pools := table }) ?_
  rw [State.updBin_pools, Table.modify_modify]
  exact congrArg (s.pools.modify p) (funext fun r => by rw [Table.modify_modify])

theorem updBin_id (p : PoolIx) (b : BinIx) (s : State) : (s.updBin p b fun r => r) = s := by
  refine congrArg (fun table => { s with pools := table }) (Table.modify_id _ _ ?_)
  rw [Table.modify_id _ _ rfl]

/-- A bin's change is a change of its pool's bins alone. -/
theorem updBin_pool (p q : PoolIx) (b : BinIx) (f : BinRecord → BinRecord) (s : State) :
    (s.updBin p b f).pools.get q = { s.pools.get q with bins := ((s.updBin p b f).pools.get q).bins } := by
  rw [State.updBin_pools, Table.get_modify]
  split
  · next h => rw [h]
  · rfl

/-! A hold list's release (R72, R93). -/

/-- The room that an egress queue has left (R93). -/
def egressRoom (s : State) (i : SlotIx) : Nat := 256 - (s.egress.get i).length

/-- Held frames as the entries they join a queue as. -/
abbrev heldEntries (p : PoolIx) (b : BinIx) (hold : List FrameBytes) : List EgressEntry :=
  hold.map fun f => EgressEntry.mk f (some (p, b))

theorem releaseHold_eq (i : SlotIx) (p : PoolIx) (b : BinIx) (hold : List FrameBytes) (s : State) :
    releaseHold i p b hold s = bumpSlotBy i .egressFull (hold.length - egressRoom s i)
      ((s.setEgress i (s.egress.get i ++ (heldEntries p b hold).take (egressRoom s i))).updBin p b
        fun r => { r with inflight := r.inflight + min hold.length (egressRoom s i) }) := by
  induction hold generalizing s with
  | nil =>
    rw [heldEntries, List.map_nil, List.take_nil, List.append_nil, setEgress_get]
    simp only [List.length_nil, Nat.zero_sub, Nat.zero_min, Nat.add_zero, bumpSlotBy_zero, updBin_id]
    rfl
  | cons f hold ih =>
    have hstep : releaseHold i p b (f :: hold) s = releaseHold i p b hold (offerEgress i ⟨f, some (p, b)⟩ s) := rfl
    rw [hstep]
    obtain hroom | hfull := Nat.lt_or_ge (s.egress.get i).length 256
    · obtain ⟨n, hn⟩ : ∃ n, egressRoom s i = n + 1 := ⟨255 - (s.egress.get i).length, by rw [egressRoom]; omega⟩
      rw [offerEgress_steered p b hroom, ih]
      have hqueue : ((s.setEgress i (s.egress.get i ++ [⟨f, some (p, b)⟩])).updBin p b
          fun r => { r with inflight := r.inflight + 1 }).egress.get i = s.egress.get i ++ [⟨f, some (p, b)⟩] :=
        Table.get_set_self ..
      have hleft : egressRoom ((s.setEgress i (s.egress.get i ++ [⟨f, some (p, b)⟩])).updBin p b
          fun r => { r with inflight := r.inflight + 1 }) i = n := by
        rw [egressRoom, hqueue, List.length_append, List.length_singleton]
        rw [egressRoom] at hn
        omega
      rw [hleft, hqueue, hn, show heldEntries p b (f :: hold) = ⟨f, some (p, b)⟩ :: heldEntries p b hold from rfl,
         List.take_succ_cons, List.append_assoc, List.singleton_append, List.length_cons,
        Nat.add_sub_add_right]
      refine congrArg (bumpSlotBy i .egressFull (hold.length - n)) ?_
      show ((((s.setEgress i _).setEgress i _).updBin p b _).updBin p b _) = _
      rw [setEgress_setEgress, updBin_updBin]
      refine congrArg (State.updBin _ p b) (funext fun r => ?_)
      rw [Nat.add_min_add_right, Nat.add_assoc, Nat.add_comm 1]
    · have hnone : egressRoom s i = 0 := by rw [egressRoom]; omega
      rw [offerEgress_full _ hfull, ih, show egressRoom (bumpSlot i .egressFull s) i = 0 from hnone, hnone]
      simp only [List.take_zero, List.append_nil, Nat.min_zero, Nat.add_zero, updBin_id, setEgress_get, Nat.sub_zero]
      rw [List.length_cons, Nat.add_comm hold.length, ← bumpSlotBy_bumpSlotBy]
      rfl

theorem releaseHold_egress (i : SlotIx) (p : PoolIx) (b : BinIx) (hold : List FrameBytes) (s : State) (j : SlotIx) :
    (releaseHold i p b hold s).egress.get j
      = if j = i then s.egress.get i ++ (heldEntries p b hold).take (egressRoom s i) else s.egress.get j := by
  rw [releaseHold_eq]
  exact Table.get_set ..

theorem releaseHold_bin (i : SlotIx) (p : PoolIx) (b : BinIx) (hold : List FrameBytes) (s : State) (q : PoolIx) (c : BinIx) :
    ((releaseHold i p b hold s).pools.get q).bins.get c
      = if q = p ∧ c = b then
          { (s.pools.get q).bins.get c with
            inflight := ((s.pools.get q).bins.get c).inflight + min hold.length (egressRoom s i) }
        else (s.pools.get q).bins.get c := by
  rw [releaseHold_eq]
  exact get_bin_updBin ..

theorem releaseHold_pool (i : SlotIx) (p : PoolIx) (b : BinIx) (hold : List FrameBytes) (s : State) (q : PoolIx) :
    (releaseHold i p b hold s).pools.get q
      = { s.pools.get q with bins := ((releaseHold i p b hold s).pools.get q).bins } := by
  rw [releaseHold_eq]
  exact updBin_pool ..

theorem releaseHold_counts (i : SlotIx) (p : PoolIx) (b : BinIx) (hold : List FrameBytes) (s : State) (j : SlotIx)
    (k : SlotCounter) : (releaseHold i p b hold s).slotCount j k
      = if j = i ∧ k = .egressFull then counterAdd (s.slotCount j k) (hold.length - egressRoom s i) else s.slotCount j k := by
  rw [releaseHold_eq]
  exact slotCount_bumpSlotBy ..

/-! A commit (R71). -/

/-- A commit before its hold list goes: the destination owns the bin. -/
def reowned (m : MoveRecord) (s : State) : State := s.updBin m.pool m.bin fun r => { r with owner := .owned m.destination }

theorem commitMove_eq (e : EngineIx) (m : MoveRecord) (s : State) : commitMove e m s
    = bumpPool m.pool .movesDone 1 (freeEngine e m (releaseHold m.destination m.pool m.bin m.hold (reowned m s))) := rfl

theorem commitMove_egress (e : EngineIx) (m : MoveRecord) (s : State) (j : SlotIx) : (commitMove e m s).egress.get j
    = if j = m.destination
      then s.egress.get m.destination ++ (heldEntries m.pool m.bin m.hold).take (egressRoom s m.destination)
      else s.egress.get j :=
  releaseHold_egress ..

theorem commitMove_bin (e : EngineIx) (m : MoveRecord) (s : State) (q : PoolIx) (c : BinIx) :
    ((commitMove e m s).pools.get q).bins.get c
      = if q = m.pool ∧ c = m.bin then
          ⟨.owned m.destination,
            ((s.pools.get q).bins.get c).inflight + min m.hold.length (egressRoom s m.destination), none⟩
        else (s.pools.get q).bins.get c := by
  rw [commitMove_eq, bumpPool_bins, freeEngine_bin, releaseHold_bin, reowned, get_bin_updBin]
  split <;> rfl

theorem commitMove_pool_of_ne (e : EngineIx) (m : MoveRecord) (s : State) (hq : q ≠ m.pool) :
    (commitMove e m s).pools.get q = s.pools.get q := by
  have hbins : ((commitMove e m s).pools.get q).bins = (s.pools.get q).bins := Table.ext_get fun c => by
    rw [commitMove_bin, if_neg fun h => hq h.1]
  have hpool : (commitMove e m s).pools.get q = { s.pools.get q with bins := ((commitMove e m s).pools.get q).bins } := by
    rw [commitMove_eq, bumpPool, State.updPool_pools, Table.get_modify_of_ne _ hq, freeEngine, State.setEngine_pools,
      State.updBin, State.updPool_pools, Table.get_modify_of_ne _ hq, releaseHold_pool, reowned, State.updBin,
      State.updPool_pools, Table.get_modify_of_ne _ hq]
  rw [hpool, hbins]

theorem commitMove_poolCount (e : EngineIx) (m : MoveRecord) (s : State) (q : PoolIx) (k : PoolCounter) :
    (commitMove e m s).poolCount q k
      = if q = m.pool ∧ k = .movesDone then counterAdd (s.poolCount q k) 1 else s.poolCount q k := by
  have hbefore : (freeEngine e m (releaseHold m.destination m.pool m.bin m.hold (reowned m s))).poolCount q k
      = s.poolCount q k := by
    have hfree (u : State) : (freeEngine e m u).poolCount q k = u.poolCount q k := by
      rw [State.poolCount, freeEngine, State.setEngine_pools, updBin_pool]
      rfl
    rw [hfree, State.poolCount, releaseHold_pool, reowned, updBin_pool]
    rfl
  rw [commitMove_eq, poolCount_bumpPool, hbefore]

theorem commitMove_counts (e : EngineIx) (m : MoveRecord) (s : State) (j : SlotIx) (k : SlotCounter) :
    (commitMove e m s).slotCount j k
      = if j = m.destination ∧ k = .egressFull
        then counterAdd (s.slotCount j k) (m.hold.length - egressRoom s m.destination) else s.slotCount j k :=
  releaseHold_counts ..

/-! The recomputation and the reports that follow (R43–R45, R73). -/

/-- What a recomputation of pool `p` and reports of changed holdings can change: the pool's targets, plan and UNOWNED bins,
with their count, and the membership that follows. -/
structure Recomputed (p : PoolIx) (s t : State) : Prop where
  touches : TouchesPools s t
  follows : Follows s t
  others : ∀ q, q ≠ p → t.pools.get q = s.pools.get q
  record : t.pools.get p = { s.pools.get p with
    targets := (t.pools.get p).targets, plan := (t.pools.get p).plan, bins := (t.pools.get p).bins
    counters := (t.pools.get p).counters }
  fields : ∀ b, (t.pools.get p).bins.get b
    = { (s.pools.get p).bins.get b with owner := ((t.pools.get p).bins.get b).owner }
  owned : ∀ b, ((s.pools.get p).bins.get b).owner ≠ .unowned →
    ((t.pools.get p).bins.get b).owner = ((s.pools.get p).bins.get b).owner
  counts : ∀ k, k ≠ .immediateAssigns → t.poolCount p k = s.poolCount p k

theorem Recomputed.trans (h : Recomputed p s t) (h' : Recomputed p t u) : Recomputed p s u where
  touches := h.touches.trans h'.touches
  follows := h.follows.trans h'.follows
  others q hq := (h'.others q hq).trans (h.others q hq)
  record := by rw [h'.record, h.record]
  fields b := by rw [h'.fields, h.fields]
  owned b hb := (h'.owned b (h.owned b hb ▸ hb)).trans (h.owned b hb)
  counts k hk := (h'.counts k hk).trans (h.counts k hk)

theorem Recomputed.of_pools_eq (p : PoolIx) (htouches : TouchesPools s t) (hfollows : Follows s t) (h : t.pools = s.pools) :
    Recomputed p s t where
  touches := htouches
  follows := hfollows
  others q _ := by rw [h]
  record := by rw [h]
  fields b := by rw [h]
  owned b _ := by rw [h]
  counts k _ := by rw [State.poolCount, State.poolCount, h]

theorem Recomputed.refl (p : PoolIx) (s : State) : Recomputed p s s := .of_pools_eq p (.refl s) (.refl s) rfl

/-- Targets and plan of the pool alone change. -/
theorem Recomputed.updPool {f : PoolRecord → PoolRecord}
    (hf : ∀ r, f r = { r with targets := (f r).targets, plan := (f r).plan }) : Recomputed p s (s.updPool p f) := by
  have hself : (s.updPool p f).pools.get p = f (s.pools.get p) := Table.get_modify_self ..
  have hbins : (f (s.pools.get p)).bins = (s.pools.get p).bins := by rw [hf]
  have hcounters : (f (s.pools.get p)).counters = (s.pools.get p).counters := by rw [hf]
  exact {
    touches := updPool_pools p f s
    follows := .updPool' (fun r => by rw [hf]) fun r => by rw [hf]
    others := fun q hq => Table.get_modify_of_ne _ hq _
    record := by rw [hself, hf]
    fields := fun b => by rw [hself, hbins]
    owned := fun b _ => by rw [hself, hbins]
    counts := fun k _ => by rw [State.poolCount, State.poolCount, hself, hcounters] }

/-- A gift of UNOWNED bins. -/
theorem Recomputed.giveBins {gifts : List (BinIx × SlotIx)}
    (h : ∀ g ∈ gifts, ((s.pools.get p).bins.get g.1).owner = .unowned) : Recomputed p s (giveBins p gifts s) where
  touches := giveBins_pools p gifts s
  follows := giveBins_follows p gifts s
  others q hq := giveBins_others p gifts s hq
  record := by
    have hgiven := forEach_relates (R := fun s t : State => t.pools.get p = { s.pools.get p with bins := (t.pools.get p).bins })
      (fun _ => rfl) (fun _ _ _ h h' => by rw [h', h]) (fun (g : BinIx × SlotIx) s => updBin_pool p p g.1 (fun b => { b with owner := .owned g.2 }) s) gifts s
    rw [Machine.giveBins, bumpPool, State.updPool_pools, Table.get_modify_self, hgiven]
  fields := giveBins_fields p gifts s
  owned b hb := by
    obtain ⟨j, hj, -⟩ | ⟨-, ho⟩ := giveBins_owner p gifts s b
    · exact absurd (h _ hj) hb
    · exact ho
  counts k hk := by
    rw [Machine.giveBins, poolCount_bumpPool, if_neg fun h => hk h.2]
    refine forEach_eq (g := fun s => s.poolCount p k) (fun g s => ?_) gifts s
    rw [State.poolCount, State.updBin, State.updPool_pools, Table.get_modify_self]
    rfl

theorem recomputeTables_recomputed (p : PoolIx) (s : State) : Recomputed p s (recomputeTables p s) :=
  ((Recomputed.updPool fun _ => rfl).trans
    (.giveBins fun _ hg => mem_unownedBins.mp (List.of_mem_zip hg).1)).trans (.updPool fun _ => rfl)

theorem reportHoldings_recomputed (p : PoolIx) (i : SlotIx) (s : State) : Recomputed p s (reportHoldings i s) :=
  .of_pools_eq p (reportHoldings_members i s).pools (reportHoldings_follows i s) (reportHoldings_members i s).pools_eq

theorem recompute_recomputed (p : PoolIx) (s : State) : Recomputed p s (recompute p s) := by
  unfold recompute
  split
  · exact (recomputeTables_recomputed p s).trans
      (forEach_relates (.refl p) (fun _ _ _ => .trans) (reportHoldings_recomputed p) _ _)
  · exact .refl p s

theorem afterCommit_recomputed (m : MoveRecord) (s : State) : Recomputed m.pool s (afterCommit m s) := by
  unfold afterCommit
  split
  · exact recompute_recomputed m.pool s
  · exact (reportHoldings_recomputed m.pool m.source s).trans (reportHoldings_recomputed m.pool m.destination _)

/-! What the recomputation leaves of engines, queues and counters. -/

theorem TouchesPools.engines_eq : TouchesPools s t → t.engines = s.engines := by
  rintro ⟨_, _, _, _, rfl⟩
  rfl

theorem TouchesPools.slotCounters_eq : TouchesPools s t → t.slotCounters = s.slotCounters := by
  rintro ⟨_, _, _, _, rfl⟩
  rfl

theorem TouchesPools.fields : TouchesPools s t →
    t = { s with slots := t.slots, links := t.links, agent := t.agent, pools := t.pools } := by
  rintro ⟨_, _, _, _, rfl⟩
  rfl

/-- A bin that has an owner stands whole. -/
theorem Recomputed.bin (h : Recomputed p s t) {b : BinIx} (hb : ((s.pools.get p).bins.get b).owner ≠ .unowned) :
    (t.pools.get p).bins.get b = (s.pools.get p).bins.get b := by
  rw [h.fields, h.owned b hb]

end Sys2Proof.Machine
end

section
/-! SUPPORT. What a commit made by an engine leaves, and the events that end in one: a hold list that is full, a drain or a
settle timer, and a grant (R56, R57, R65, R66, R68–R73). -/

namespace Sys2Proof.Machine

variable {s t u : State} {p q : PoolIx} {i j : SlotIx} {b c : BinIx} {e : EngineIx} {m : MoveRecord}

/-- The move of engine `e` with record `m` has been committed, its other consequences apart (R71, R73). -/
structure Committed (e : EngineIx) (m : MoveRecord) (s t : State) : Prop where
  engines : ∀ e', t.engines.get e' = if e' = e then none else s.engines.get e'
  bin : (t.pools.get m.pool).bins.get m.bin = ⟨.owned m.destination,
    ((s.pools.get m.pool).bins.get m.bin).inflight + min m.hold.length (egressRoom s m.destination), none⟩
  bins : ∀ b, b ≠ m.bin → ((s.pools.get m.pool).bins.get b).owner ≠ .unowned →
    (t.pools.get m.pool).bins.get b = (s.pools.get m.pool).bins.get b
  pools : ∀ q, q ≠ m.pool → t.pools.get q = s.pools.get q
  record : t.pools.get m.pool = { s.pools.get m.pool with
    targets := (t.pools.get m.pool).targets, plan := (t.pools.get m.pool).plan, bins := (t.pools.get m.pool).bins
    counters := (t.pools.get m.pool).counters }
  egress : ∀ j, t.egress.get j = if j = m.destination
    then s.egress.get m.destination ++ (heldEntries m.pool m.bin m.hold).take (egressRoom s m.destination) else s.egress.get j
  counters : m.hold.length ≤ egressRoom s m.destination → t.slotCounters = s.slotCounters
  counts : SlotCountsStand m.destination [.egressFull] s t
  done : t.poolCount m.pool .movesDone = counterAdd (s.poolCount m.pool .movesDone) 1
  follows : Follows s t
  touches : TouchesTraffic s t

theorem commitMove_counters (h : m.hold.length ≤ egressRoom s m.destination) : (commitMove e m s).slotCounters = s.slotCounters := by
  have hnone : m.hold.length - egressRoom (reowned m s) m.destination = 0 := Nat.sub_eq_zero_of_le h
  show (releaseHold m.destination m.pool m.bin m.hold (reowned m s)).slotCounters = _
  rw [releaseHold_eq, hnone, bumpSlotBy_zero]
  rfl

theorem commitMove_record (e : EngineIx) (m : MoveRecord) (s : State) (q : PoolIx) : (commitMove e m s).pools.get q
    = { s.pools.get q with bins := ((commitMove e m s).pools.get q).bins, counters := ((commitMove e m s).pools.get q).counters } := by
  have hbefore : (freeEngine e m (releaseHold m.destination m.pool m.bin m.hold (reowned m s))).pools.get q
      = { s.pools.get q with
          bins := ((freeEngine e m (releaseHold m.destination m.pool m.bin m.hold (reowned m s))).pools.get q).bins } := by
    rw [freeEngine, State.setEngine_pools, updBin_pool, releaseHold_pool, reowned, updBin_pool]
  rw [commitMove_eq, bumpPool, State.updPool_pools, Table.get_modify]
  split
  · next h => rw [h] at hbefore ⊢; rw [hbefore]
  · rw [hbefore]

theorem engineCommit_committed (e : EngineIx) (m : MoveRecord) (s : State) : Committed e m s (engineCommit e m s) := by
  have hafter : Recomputed m.pool (commitMove e m s) (engineCommit e m s) := afterCommit_recomputed m _
  obtain ⟨-, -, -, hframe⟩ := hafter.touches
  have hbin : ((commitMove e m s).pools.get m.pool).bins.get m.bin = ⟨.owned m.destination,
      ((s.pools.get m.pool).bins.get m.bin).inflight + min m.hold.length (egressRoom s m.destination), none⟩ := by
    rw [commitMove_bin, if_pos ⟨rfl, rfl⟩]
  have hcounters : (engineCommit e m s).slotCounters = (commitMove e m s).slotCounters := hafter.touches.slotCounters_eq
  exact {
    engines := fun e' => by rw [hafter.touches.engines_eq, commitMove_engines]
    bin := (hafter.bin (by rw [hbin]; nofun)).trans hbin
    bins := fun b hb ho => by
      have hstays : ((commitMove e m s).pools.get m.pool).bins.get b = (s.pools.get m.pool).bins.get b := by
        rw [commitMove_bin, if_neg fun h => hb h.2]
      rw [hafter.bin (hstays ▸ ho), hstays]
    pools := fun q hq => (hafter.others q hq).trans (commitMove_pool_of_ne e m s hq)
    record := by rw [hafter.record, commitMove_record]
    egress := fun j => by rw [hafter.touches.egress_eq, commitMove_egress]
    counters := fun h => hcounters.trans (commitMove_counters h)
    counts := fun j k hk => by
      rw [State.slotCount, hcounters]
      refine (commitMove_counts e m s j k).trans (if_neg fun h => ?_)
      obtain hj | hk := hk
      · exact hj h.1
      · exact hk (by simp [h.2])
    done := by
      rw [hafter.counts _ (by decide), commitMove_poolCount, if_pos ⟨rfl, rfl⟩]
    follows := engineCommit_follows e m s
    touches := engineCommit_traffic e m s }

theorem engineCommit_poolCount {k : PoolCounter} (hdone : k ≠ .movesDone) (hassigns : k ≠ .immediateAssigns) :
    (engineCommit e m s).poolCount m.pool k = s.poolCount m.pool k := by
  refine ((afterCommit_recomputed m (commitMove e m s)).counts k hassigns).trans ?_
  rw [commitMove_poolCount, if_neg fun h => hdone h.2]

/-- A count of the commit's kind leaves what the commit did. -/
theorem Committed.bumpPool (h : Committed e m s t) {k : PoolCounter} (hk : .movesDone ≠ k) :
    Committed e m s (bumpPool m.pool k 1 t) where
  engines := h.engines
  bin := by rw [bumpPool_bins, h.bin]
  bins b hb ho := by rw [bumpPool_bins, h.bins b hb ho]
  pools q hq := (Table.get_modify_of_ne _ hq _).trans (h.pools q hq)
  record := by
    rw [Machine.bumpPool, State.updPool_pools, Table.get_modify_self]
    rw [h.record]
  egress := h.egress
  counters := h.counters
  counts := h.counts
  done := by rw [poolCount_bumpPool, if_neg fun h => hk h.2, h.done]
  follows := h.follows.trans (bumpPool_follows ..)
  touches := h.touches.trans (updPool_pools ..).traffic

theorem TouchesTraffic.fields : TouchesTraffic s t → t = { s with
    slots := t.slots, pools := t.pools, engines := t.engines, egress := t.egress, links := t.links
    slotCounters := t.slotCounters, agent := t.agent } := by
  rintro ⟨_, _, _, _, _, _, _, rfl⟩
  rfl

/-! The timers of moves and pools (R54, R55, R68, R69). -/

theorem exec_settleTimerExpiry (he : s.engines.get e = some m) (hphase : m.phase = .settling) :
    exec (.settleTimerExpiry e) s = .next (engineCommit e m s) := by
  simp only [exec, execSettleTimerExpiry, he, hphase]

theorem exec_drainTimerExpiry (he : s.engines.get e = some m) (hphase : m.phase = .draining) :
    exec (.drainTimerExpiry e) s = .next (Machine.bumpPool m.pool .forcedCommits 1 (engineCommit e m s)) := by
  simp only [exec, execDrainTimerExpiry, he, hphase]

theorem moveTimersExpire (he : s.engines.get e = some m) : ∃ t,
    (m.phase = .settling → exec (.settleTimerExpiry e) s = .next t
      ∧ t.poolCount m.pool .forcedCommits = s.poolCount m.pool .forcedCommits)
    ∧ (m.phase = .draining → exec (.drainTimerExpiry e) s = .next t
      ∧ t.poolCount m.pool .forcedCommits = counterAdd (s.poolCount m.pool .forcedCommits) 1)
    ∧ Committed e m s t := by
  have hforced := engineCommit_poolCount (e := e) (m := m) (s := s) (k := .forcedCommits) (by decide) (by decide)
  cases hphase : m.phase with
  | settling =>
    exact ⟨_, fun _ => ⟨exec_settleTimerExpiry he hphase, hforced⟩, nofun, engineCommit_committed e m s⟩
  | draining =>
    refine ⟨_, nofun, fun _ => ⟨exec_drainTimerExpiry he hphase, ?_⟩, (engineCommit_committed e m s).bumpPool (by decide)⟩
    rw [poolCount_bumpPool, if_pos ⟨rfl, rfl⟩, hforced]

/-- The tables from which the end of an adoption window is recomputed (R54). -/
def windowClosed (p : PoolIx) (s : State) : State := (dropStale p s).updPool p fun r => { r with adoptionTimer := none }

theorem windowClosed_pool (p : PoolIx) (s : State) : (windowClosed p s).pools.get p
    = { (dropStale p s).pools.get p with adoptionTimer := none } := Table.get_modify_self ..

theorem adoptionTimerExpires (h : windowOpen s p = true) :
    ∃ t, exec (.adoptionTimerExpiry p) s = .next t ∧ windowOpen t p = false
      ∧ (∀ b i, ((t.pools.get p).bins.get b).owner ≠ .stale i
        ∧ (((s.pools.get p).bins.get b).owner = .owned i →
          (t.pools.get p).bins.get b = (s.pools.get p).bins.get b))
      ∧ (BinLaws s → (s.pools.get p).enabled = true → isDark s p = false →
        ∀ b, ((t.pools.get p).bins.get b).owner ≠ .unowned)
      ∧ (∀ q, q ≠ p → t.pools.get q = s.pools.get q) ∧ MembershipFollows s t
      ∧ t = { s with slots := t.slots, pools := t.pools, links := t.links, agent := t.agent } := by
  have hexec : exec (.adoptionTimerExpiry p) s = .next (recompute p (windowClosed p s)) :=
    congrArg Host.Outcome.next (if_pos h)
  have hcomputed := recompute_recomputed p (windowClosed p s)
  have hfollows : Follows s (windowClosed p s) := (dropStale_follows p s).trans (.updPool' (fun _ => rfl) fun _ => rfl)
  have hbin (b : BinIx) : ((windowClosed p s).pools.get p).bins.get b
      = { (s.pools.get p).bins.get b with owner := ((s.pools.get p).bins.get b).owner.dropped } := by
    rw [windowClosed_pool]
    exact dropStale_bin p s b
  have hclosed : windowOpen (recompute p (windowClosed p s)) p = false := by
    rw [windowOpen, hcomputed.record, windowClosed_pool]
    rfl
  refine ⟨_, hexec, hclosed, fun b i => ⟨fun ho => ?_, fun ho => ?_⟩, fun hlaws henabled hlit b ho => ?_,
    fun q hq => ?_, (hfollows.trans hcomputed.follows).membershipFollows, ?_⟩
  · obtain hstays | ⟨-, -, -, j, -, hj⟩ := recompute_owner p p (windowClosed p s) b
    · rw [hstays, hbin] at ho
      exact Owner.dropped_ne_stale _ ho
    · cases hj.symm.trans ho
  · rw [hcomputed.bin (by rw [hbin, ho]; nofun), hbin,
      Owner.dropped_of_not_stale fun i => by rw [ho]; nofun]
  · have hroles (j : SlotIx) : ((recompute p (windowClosed p s)).slots.get j).role = (s.slots.get j).role :=
      ((hfollows.trans hcomputed.follows).slots j).role
    have hen : ((recompute p (windowClosed p s)).pools.get p).enabled = (s.pools.get p).enabled := by
      rw [hcomputed.record, windowClosed_pool]
      exact (tables_iff.mp (dropStale_tables p s)).1
    have hdark : isDark (recompute p (windowClosed p s)) p = isDark s p := by
      rw [isDark, isDark, hen, eligibleMembers_congr hroles]
    obtain hyes | hyes := (adoptionExpiry_laws hlaws).unowned p b ho (hen.trans henabled)
    · exact Bool.false_ne_true (hlit.symm.trans (hdark.symm.trans hyes))
    · exact Bool.false_ne_true (hclosed.symm.trans hyes)
  · rw [hcomputed.others q hq]
    exact (Table.get_modify_of_ne _ hq _).trans (dropStale_others hq s)
  · exact ((updPool_pools p _ s).trans ((updPool_pools p _ (dropStale p s)).trans hcomputed.touches)).fields

/-- Settles O32: both timers of a move commit it, and the end of a window is a recomputation of the pool without its STALE
bins. -/
theorem moveAndPoolTimersExpire : Obligations.MoveAndPoolTimersExpire := by
  refine ⟨fun s e m he => ?_, fun s p => rfl, fun s p h => adoptionTimerExpires h⟩
  obtain ⟨t, hsettling, hdraining, ht⟩ := moveTimersExpire he
  refine ⟨t, hsettling, hdraining, by rw [ht.engines, if_pos rfl], fun e' he' => by rw [ht.engines, if_neg he'],
    by rw [ht.bin], by rw [ht.bin], ht.bins, ht.pools, by rw [ht.egress, if_pos rfl]; rfl,
    fun i hi => by rw [ht.egress, if_neg hi], ht.done, ht.follows.membershipFollows, ht.counts, ht.touches.fields⟩

end Sys2Proof.Machine
end

section
/-! SUPPORT. Frames of a moving bin, the last decrement of a drain, and grants (R40, R56, R57, R65–R67, R70). -/

namespace Sys2Proof.Machine

variable {s t u : State} {p q : PoolIx} {i j : SlotIx} {b c : BinIx} {e : EngineIx} {m : MoveRecord} {bytes : FrameBytes}

/-! A frame for a moving bin (R66, R70). -/

theorem steerToEngine_holds (h : m.hold.length < 32) :
    steerToEngine e m bytes s = s.setEngine e (some { m with hold := m.hold ++ [bytes] }) := if_pos h

/-- The arriving frame at the tail of the destination's egress queue, counted in flight. -/
def joinsDestination (m : MoveRecord) (bytes : FrameBytes) (t : State) : State :=
  (t.setEgress m.destination (t.egress.get m.destination ++ [⟨bytes, some (m.pool, m.bin)⟩])).updBin m.pool m.bin
    fun r => { r with inflight := r.inflight + 1 }

theorem joinsDestination_bin (m : MoveRecord) (bytes : FrameBytes) (t : State) :
    ((joinsDestination m bytes t).pools.get m.pool).bins.get m.bin = { (t.pools.get m.pool).bins.get m.bin with
      inflight := ((t.pools.get m.pool).bins.get m.bin).inflight + 1 } := by
  rw [joinsDestination, get_bin_updBin, if_pos ⟨rfl, rfl⟩]
  rfl

theorem joinsDestination_poolCount (m : MoveRecord) (bytes : FrameBytes) (t : State) (k : PoolCounter) :
    (joinsDestination m bytes t).poolCount m.pool k = t.poolCount m.pool k := by
  rw [State.poolCount, joinsDestination, updBin_pool]
  rfl

/-- A full hold list brings an early commit, and the arriving frame goes behind the held ones. -/
theorem steerToEngine_full (h : m.hold.length = 32) (hroom : (s.egress.get m.destination).length ≤ 223) :
    ∃ t, Committed e m s t ∧ t.poolCount m.pool .earlyCommits = counterAdd (s.poolCount m.pool .earlyCommits) 1
      ∧ t.poolCount m.pool .forcedCommits = s.poolCount m.pool .forcedCommits
      ∧ t.egress.get m.destination = s.egress.get m.destination ++ heldEntries m.pool m.bin m.hold
      ∧ steerToEngine e m bytes s = joinsDestination m bytes t := by
  have ht := (engineCommit_committed e m s).bumpPool (k := .earlyCommits) (by decide)
  have hqueue : (Machine.bumpPool m.pool .earlyCommits 1 (engineCommit e m s)).egress.get m.destination
      = s.egress.get m.destination ++ heldEntries m.pool m.bin m.hold := by
    rw [ht.egress, if_pos rfl, List.take_of_length_le]
    rw [List.length_map, egressRoom]
    omega
  refine ⟨_, ht, ?_, ?_, hqueue, ?_⟩
  · rw [poolCount_bumpPool, if_pos ⟨rfl, rfl⟩, engineCommit_poolCount (by decide) (by decide)]
  · rw [poolCount_bumpPool, if_neg fun h => PoolCounter.noConfusion h.2, engineCommit_poolCount (by decide) (by decide)]
  · rw [steerToEngine, if_neg (by rw [h]; decide)]
    refine offerEgress_steered _ _ ?_
    rw [hqueue, List.length_append, List.length_map]
    omega

/-- Settles O7: a frame of a moving bin is held, or the early commit's state takes it behind the frames it releases. -/
theorem movingBinsHoldTheirFrames : Obligations.MovingBinsHoldTheirFrames := by
  intro s bytes info e m hframe hkind htarget henabled hbin he hengine howner
  rw [exec_coreRxEnd_passed hframe, classify_dataPool hkind htarget,
    steer_moving (s := coreReceived s) henabled hbin howner hengine he]
  refine ⟨fun h => congrArg Host.Outcome.next (steerToEngine_holds h), fun h hroom => ?_⟩
  obtain ⟨t, ht, hearly, hforced, hqueue, hsteer⟩ := steerToEngine_full (s := coreReceived s) (e := e) (bytes := bytes) h hroom
  have hinflight : (t.pools.get m.pool).bins.get m.bin
      = ⟨.owned m.destination, ((s.pools.get m.pool).bins.get m.bin).inflight + 32, none⟩ := by
    rw [ht.bin, h, Nat.min_eq_left]
    · rfl
    · rw [egressRoom]
      show 32 ≤ 256 - (s.egress.get m.destination).length
      omega
  have hcounters : t.slotCounters = s.slotCounters := ht.counters (by
    rw [egressRoom, h]
    show 32 ≤ 256 - (s.egress.get m.destination).length
    omega)
  have hafter : ((joinsDestination m bytes t).pools.get m.pool).bins.get m.bin
      = ⟨.owned m.destination, ((s.pools.get m.pool).bins.get m.bin).inflight + 33, none⟩ := by
    rw [joinsDestination_bin, hinflight]
  have hcount := joinsDestination_poolCount m bytes t
  refine ⟨_, congrArg Host.Outcome.next hsteer, (ht.engines e).trans (if_pos rfl), by rw [hafter], by rw [hafter],
    by rw [hafter], ?_, fun i hi => ?_, (hcount _).trans ht.done, (hcount _).trans hearly, (hcount _).trans hforced,
    fun e' he' => (ht.engines e').trans (if_neg he'), fun q hq => ?_, ?_, ?_⟩
  · refine (Table.get_set_self ..).trans ?_
    rw [hqueue, List.append_assoc, List.map_append]
    rfl
  · refine (Table.get_set_of_ne _ hi _).trans ?_
    rw [ht.egress, if_neg hi]
    rfl
  · exact (Table.get_modify_of_ne _ hq _).trans (ht.pools q hq)
  · obtain ⟨hstates, hslots, hlinks⟩ := ((ht.follows.trans (.setEgress ..)).trans (.updBin ..)).membershipFollows
    exact ⟨hstates, hslots, hlinks⟩
  · have hfields := ht.touches.fields
    rw [hcounters] at hfields
    exact congrArg (joinsDestination m bytes) hfields

end Sys2Proof.Machine
end

section
/-! SUPPORT. Frames that leave an egress queue: the in-flight count, the drain's end and the confirmation condition (R18, R40,
R67, R94). -/

namespace Sys2Proof.Machine

variable {s t u : State} {p q : PoolIx} {i j : SlotIx} {b c : BinIx} {e : EngineIx} {m : MoveRecord}
  {entry : EgressEntry} {rest : List EgressEntry}

theorem SlotEventFrame.trans (h : SlotEventFrame i s t) (h' : SlotEventFrame i t u) : SlotEventFrame i s u := by
  obtain ⟨hothers, hsettings, hports, hscanner⟩ := h
  obtain ⟨hothers', hsettings', hports', hscanner'⟩ := h'
  exact ⟨hothers.trans hothers', hsettings.trans hsettings', hports'.trans hports, hscanner'.trans hscanner⟩

/-! The confirmation condition (R18). -/

theorem TouchesMembers.engines_eq : TouchesMembers s t → t.engines = s.engines := by
  rintro ⟨_, _, _, rfl⟩
  rfl

theorem TouchesMembers.slotCounters_eq : TouchesMembers s t → t.slotCounters = s.slotCounters := by
  rintro ⟨_, _, _, rfl⟩
  rfl

theorem TouchesMembers.upstream_eq : TouchesMembers s t → t.upstream = s.upstream := by
  rintro ⟨_, _, _, rfl⟩
  rfl

theorem enterConfirming_state (i : SlotIx) (s : State) : ((enterConfirming i s).slots.get i).state = .retiring .confirming := by
  rw [enterConfirming_get_self]
  exact changeState_state ..

theorem enterConfirming_get_of_ne (hj : j ≠ i) (s : State) : (enterConfirming i s).slots.get j = s.slots.get j := by
  rw [enterConfirming, State.updSlot_slots, Table.get_modify_of_ne _ hj, askControl_slots, changeState_get_of_ne hj]

theorem notice_mem_joinControl {f : ControlFrame} (hf : f = .retireNotice ∨ f = .admitNotice) (list : List ControlFrame) :
    f ∈ joinControl f list := by
  obtain rfl | rfl := hf <;> simp only [joinControl] <;> split <;> simp_all

/-- A link that carries frames is asked for the notice (R132). -/
theorem askControl_notice {f : ControlFrame} (hf : f = .retireNotice ∨ f = .admitNotice)
    (hcarries : (s.links.get i).carries = true) : f ∈ ((askControl i f s).links.get i).control := by
  rw [askControl_link_self, if_pos hcarries]
  exact notice_mem_joinControl hf _

theorem enterConfirming_notice (hup : (s.links.get i).state = .up) (hlost : (s.links.get i).lost = false) :
    .retireNotice ∈ ((enterConfirming i s).links.get i).control := by
  have hlinks : (changeState i (.retiring .confirming) s).links = s.links := changeState_links ..
  exact askControl_notice (.inl rfl) (by rw [hlinks]; exact carries_of_up hup hlost)

theorem evaluateConfirmation_enters (h : (s.slots.get i).state = .retiring .moving) (hheld : slotHeld s i = 0)
    (hmove : inActiveMove s i = false) (hempty : s.egress.get i = []) : evaluateConfirmation i s = enterConfirming i s := by
  refine if_pos ⟨h, ?_⟩
  simp [confirmationHolds, hheld, hmove, hempty]

theorem evaluateConfirmation_stays (h : (s.slots.get i).state ≠ .retiring .moving ∨ s.egress.get i ≠ [] ∨ slotHeld s i ≠ 0
    ∨ inActiveMove s i = true) : evaluateConfirmation i s = s := by
  refine if_neg fun ⟨hstate, hholds⟩ => ?_
  simp only [confirmationHolds, Bool.and_eq_true, decide_eq_true_eq, Bool.not_eq_true', List.isEmpty_iff] at hholds
  obtain ⟨⟨hheld, hmove⟩, hempty⟩ := hholds
  obtain h | h | h | h := h
  · exact h hstate
  · exact h hempty
  · exact h hheld
  · exact Bool.false_ne_true (hmove.symm.trans h)

theorem inActiveMove_congr (h : t.engines = s.engines) (i : SlotIx) : inActiveMove t i = inActiveMove s i := by
  rw [inActiveMove, inActiveMove, h]

/-! A frame leaves (R40, R67, R94). -/

/-- The head of slot `i`'s egress queue has been transmitted and counted, its bin's count apart. -/
def delivered (i : SlotIx) (rest : List EgressEntry) (s : State) : State :=
  bumpSlot i .delivered ((s.updLink i fun l => { l with tx := none }).setEgress i rest)

theorem exec_egressTxEnd (hqueue : s.egress.get i = entry :: rest) (htx : (s.links.get i).tx = some .data) :
    exec (.egressTxEnd i) s = .next (evaluateConfirmation i (reportLeft entry (delivered i rest s))) := by
  simp only [exec, execEgressTxEnd, hqueue, htx, if_pos]
  rw [popEgress_eq (s.updLink i _) hqueue]
  rfl

theorem delivered_frame (i : SlotIx) (rest : List EgressEntry) (s : State) : SlotEventFrame i s (delivered i rest s) :=
  ((EventAt.updLink i _ s).trans ((Follows.setEgress i rest _).eventAt i)).frame.trans
    ⟨bumpSlotBy_others i i .delivered 1 _, .refl i _, rfl, rfl⟩

/-- The bin's count falls by one. -/
def lowered (p : PoolIx) (b : BinIx) (s : State) : State := s.updBin p b fun r => { r with inflight := r.inflight - 1 }

theorem lowered_bin (p : PoolIx) (b : BinIx) (s : State) : ((lowered p b s).pools.get p).bins.get b
    = { (s.pools.get p).bins.get b with inflight := ((s.pools.get p).bins.get b).inflight - 1 } := by
  rw [lowered, get_bin_updBin, if_pos ⟨rfl, rfl⟩]

theorem lowerInflight_drains (hengine : ((s.pools.get p).bins.get b).engine = some e) (he : s.engines.get e = some m)
    (hphase : m.phase = .draining) (hlast : ((s.pools.get p).bins.get b).inflight ≤ 1) :
    lowerInflight p b s = drainEnd e m (lowered p b s) := by
  have hbin := lowered_bin p b s
  have he' : (lowered p b s).engines.get e = some m := he
  have hzero : ((s.pools.get p).bins.get b).inflight - 1 = 0 := Nat.sub_eq_zero_of_le hlast
  rw [lowered] at hbin he'
  simp only [lowerInflight, hbin, hengine, he', hphase, hzero, and_self, if_true]
  rfl

theorem lowerInflight_stays (h : ∀ e m, ((s.pools.get p).bins.get b).engine = some e → s.engines.get e = some m →
    m.phase = .draining → ¬ ((s.pools.get p).bins.get b).inflight ≤ 1) : lowerInflight p b s = lowered p b s := by
  have hbin := lowered_bin p b s
  rw [lowered] at hbin
  simp only [lowerInflight, hbin]
  split
  · rfl
  · next e hengine =>
    split
    · rfl
    · next m he =>
      refine if_neg fun ⟨hphase, hzero⟩ => h e m hengine he hphase ?_
      omega

/-- Settles O25: the last frame of a draining bin leaves its count 0, and the engine settles or commits. -/
theorem theLastDecrementEndsTheDrain : Obligations.TheLastDecrementEndsTheDrain := by
  intro s i bytes rest e m hqueue htx he hphase hengine hlast
  have hdrain : reportLeft ⟨bytes, some (m.pool, m.bin)⟩ (delivered i rest s)
      = drainEnd e m (lowered m.pool m.bin (delivered i rest s)) :=
    lowerInflight_drains (s := delivered i rest s) hengine he hphase hlast.le
  have hlowered := lowered_bin m.pool m.bin (delivered i rest s)
  have hexec := exec_egressTxEnd hqueue htx
  rw [hdrain] at hexec
  have hmembers := evaluateConfirmation_members i (drainEnd e m (lowered m.pool m.bin (delivered i rest s)))
  have hframe : SlotEventFrame i s
      (evaluateConfirmation i (drainEnd e m (lowered m.pool m.bin (delivered i rest s)))) :=
    (delivered_frame i rest s).trans ((((Follows.updBin m.pool m.bin _ _).trans (drainEnd_follows e m _)).trans
      (evaluateConfirmation_follows i _)).eventAt i).frame
  refine ⟨_, hexec, hframe, fun hsettle => ?_, fun hnone => ?_⟩
  · have hend : drainEnd e m (lowered m.pool m.bin (delivered i rest s))
        = (lowered m.pool m.bin (delivered i rest s)).setEngine e (some { m with phase := .settling, timer := m.settleTime }) :=
      if_neg hsettle.ne'
    rw [hmembers.engines_eq, hmembers.pools_eq, hend]
    refine ⟨Table.get_set_self .., ?_, ?_⟩ <;> rw [State.setEngine_pools, hlowered]
    · exact Nat.sub_eq_zero_of_le hlast.le
    · rfl
  · have hend : drainEnd e m (lowered m.pool m.bin (delivered i rest s))
        = engineCommit e m (lowered m.pool m.bin (delivered i rest s)) := if_pos hnone
    have hcommit := engineCommit_committed e m (lowered m.pool m.bin (delivered i rest s))
    rw [State.poolCount, hmembers.engines_eq, hmembers.pools_eq, hend]
    refine ⟨(hcommit.engines e).trans (if_pos rfl), by rw [hcommit.bin], hcommit.done.trans ?_⟩
    rw [State.poolCount, lowered, updBin_pool]
    rfl

/-- What a frame's leaving does where it ends no drain. -/
def left (entry : EgressEntry) (s : State) : State :=
  match entry.steered with
  | some (p, b) => lowered p b s
  | none => s

theorem left_stand (entry : EgressEntry) (s : State) : BinsStand s (left entry s) := by
  unfold left
  split
  · exact .updBin _ _ fun _ => rfl
  · exact .refl s

theorem left_frame (entry : EgressEntry) (s : State) : ∃ pools, left entry s = { s with pools := pools } := by
  unfold left
  split
  · exact ⟨_, rfl⟩
  · exact ⟨s.pools, rfl⟩

theorem left_follows (entry : EgressEntry) (s : State) : Follows s (left entry s) := by
  unfold left
  split
  · exact .updBin ..
  · exact .refl s

/-- The pools that a frame's leaving changes. -/
theorem left_pools (entry : EgressEntry) (s : State) :
    (∀ p b, entry.steered = some (p, b) → (left entry s).pools.get p = { s.pools.get p with
      bins := (s.pools.get p).bins.modify b fun r => { r with inflight := r.inflight - 1 } })
    ∧ (entry.steered = none → (left entry s).pools = s.pools) := by
  refine ⟨fun p b h => ?_, fun h => ?_⟩
  · rw [left, h]
    exact Table.get_modify_self ..
  · rw [left, h]

/-- Settles O24: where no drain ends, the frame's leaving is all that happens before the confirmation condition is
evaluated. -/
theorem egressTransmissionEndsAreDelivered : Obligations.EgressTransmissionEndsAreDelivered := by
  intro s i entry rest hqueue htx t stays drains
  have hexec := exec_egressTxEnd hqueue htx
  have hleft (hdrains : ¬ drains) : reportLeft entry (delivered i rest s) = left entry (delivered i rest s) := by
    rcases hsteered : entry.steered with _ | ⟨p, b⟩
    · rw [reportLeft, left, hsteered]
    · rw [reportLeft, left, hsteered]
      exact lowerInflight_stays fun e m hengine he hphase hlast => hdrains ⟨p, b, e, m, hsteered, hengine, he, hphase, hlast⟩
  obtain ⟨pools, hframe⟩ := left_frame entry (delivered i rest s)
  have hegress : (left entry (delivered i rest s)).egress.get i = rest := by
    rw [hframe]
    exact Table.get_set_self ..
  have hslots : (left entry (delivered i rest s)).slots = s.slots := by
    rw [hframe]
    rfl
  have hheld : slotHeld (left entry (delivered i rest s)) i = slotHeld s i :=
    (left_stand entry _).slotHeld i
  have hmove : inActiveMove (left entry (delivered i rest s)) i = inActiveMove s i :=
    inActiveMove_congr (by rw [hframe]; rfl) i
  have hstays (h : stays) : evaluateConfirmation i (left entry (delivered i rest s)) = left entry (delivered i rest s) :=
    evaluateConfirmation_stays (by rwa [hslots, hegress, hheld, hmove])
  refine ⟨fun h hsteered => ?_, fun p b h hdrains hsteered => ?_, fun hnot hdrains => ?_⟩
  · have hdrains : ¬ drains := fun ⟨p, b, e, m, hsome, _⟩ => nomatch hsteered.symm.trans hsome
    rw [hexec, hleft hdrains, hstays h, left, hsteered]
    rfl
  · rw [hexec, hleft hdrains, hstays h, left, hsteered]
    rfl
  · simp only [stays, not_or, not_not, Bool.not_eq_true] at hnot
    obtain ⟨hstate, rfl, hnone, hidle⟩ := hnot
    have henters := evaluateConfirmation_enters (s := left entry (delivered i [] s)) (i := i) (by rw [hslots, hstate])
      (hheld.trans hnone) (hmove.trans hidle) hegress
    have hmembers := enterConfirming_members i (left entry (delivered i [] s))
    obtain ⟨hsteered, hunsteered⟩ := left_pools entry (delivered i [] s)
    have hlink : ((left entry (delivered i [] s)).links.get i).state = (s.links.get i).state
        ∧ ((left entry (delivered i [] s)).links.get i).lost = (s.links.get i).lost := by
      rw [hframe]
      show ((s.links.modify i _).get i).state = _ ∧ ((s.links.modify i _).get i).lost = _
      rw [Table.get_modify_self]
      exact ⟨rfl, rfl⟩
    rw [hleft hdrains, henters] at hexec
    refine ⟨_, hexec, enterConfirming_state .., by rw [enterConfirming_get_self], ?_, fun hup hlost => ?_,
      by rw [hmembers.egress_eq, hegress], ?_, fun p b h => by rw [hmembers.pools_eq, hsteered p b h]; rfl,
      fun h => by rw [hmembers.pools_eq, hunsteered h]; rfl, fun j hj => by rw [enterConfirming_get_of_ne hj, hslots], ?_⟩
    · rw [enterConfirming_get_self, hframe]
      rfl
    · exact enterConfirming_notice (hlink.1.trans hup) (hlink.2.trans hlost)
    · rw [State.slotCount, hmembers.slotCounters_eq, hframe]
      exact (slotCount_bumpSlotBy ..).trans (if_pos ⟨rfl, rfl⟩)
    · exact (delivered_frame i [] s).trans ((((left_follows entry _).eventAt i).trans (enterConfirming_eventAt i _)).frame)

end Sys2Proof.Machine
end

section
/-! SUPPORT. The engine arbiter's choice and its grant (R56, R57, R65). -/

namespace Sys2Proof.Machine

variable {s t u : State} {p q : PoolIx} {b : BinIx} {e : EngineIx} {m : MoveRecord} {entry : PlanEntry} {rest : List PlanEntry}

/-- The first index that meets a condition is found. -/
theorem find?_finRange_first {n : Nat} {f : Fin n → Bool} {a : Fin n} (ha : f a = true) (hbelow : ∀ b, b < a → f b = false) :
    (List.finRange n).find? f = some a := by
  rcases hfound : (List.finRange n).find? f with _ | a'
  · exact absurd ha (List.find?_eq_none.mp hfound a (List.mem_finRange a))
  · obtain ⟨ha', hleast⟩ := find?_finRange_least hfound
    obtain hlt | rfl := (hleast a ha).lt_or_eq
    · exact absurd ((hbelow a' hlt).symm.trans ha') Bool.false_ne_true
    · rfl

theorem idleEngine_eq (he : s.engines.get e = none) (hbelow : ∀ e', e' < e → s.engines.get e' ≠ none) :
    idleEngine s = some e :=
  find?_finRange_first (decide_eq_true he) fun e' he' => decide_eq_false (hbelow e' he')

theorem wantingPool_eq {k : PoolIx} (hp : p = s.arbiter + 1 + k) (hwants : wantsEngine s p = true)
    (hbelow : ∀ j, j < k → wantsEngine s (s.arbiter + 1 + j) = false) : wantingPool s = some p := by
  subst hp
  rw [wantingPool, List.find?_map, find?_finRange_first (f := wantsEngine s ∘ fun k => s.arbiter + 1 + k) hwants hbelow]
  rfl

/-- Every pool is one of those after the pointer. -/
theorem wantingPool_none (h : ∀ q, wantsEngine s q = false) : wantingPool s = none := by
  refine List.find?_eq_none.mpr fun q _ => ?_
  rw [h]
  exact Bool.false_ne_true

theorem exec_engineGrant (he : idleEngine s = some e) (hp : wantingPool s = some p) (hplan : (s.pools.get p).plan = entry :: rest) :
    exec .engineGrant s = .next (grant e p entry rest s) := by
  simp only [exec, execEngineGrant, he, hp, hplan]

theorem exec_engineGrant_none (h : idleEngine s = none ∨ wantingPool s = none) : exec .engineGrant s = .next s := by
  simp only [exec, execEngineGrant]
  obtain h | h := h <;> rw [h]
  cases idleEngine s <;> rfl

/-! The grant (R57, R65). -/

theorem granted_record (e : EngineIx) (m : MoveRecord) (rest : List PlanEntry) (s : State) :
    (granted e m rest s).pools.get m.pool = { s.pools.get m.pool with
      plan := rest, rampTimer := some (s.pools.get m.pool).rampInterval
      bins := (s.pools.get m.pool).bins.modify m.bin fun b => { b with engine := some e } } := by
  rw [granted, State.setEngine_pools, State.updBin_pools, Table.get_modify_self, State.updPool_pools, Table.get_modify_self]

theorem granted_pool_of_ne (hq : q ≠ m.pool) : (granted e m rest s).pools.get q = s.pools.get q := by
  rw [granted, State.setEngine_pools, State.updBin_pools, Table.get_modify_of_ne _ hq, State.updPool_pools,
    Table.get_modify_of_ne _ hq]

/-- The move that a plan entry starts, in a phase with its timer. -/
def startedMove (p : PoolIx) (entry : PlanEntry) (phase : MovePhase) (timer : Nat) (s : State) : MoveRecord :=
  { moveOf p (s.pools.get p) entry with phase := phase, timer := timer }

/-- A grant starts the move, and commits it at once where there is nothing to wait for. -/
theorem grant_eq (e : EngineIx) (p : PoolIx) (entry : PlanEntry) (rest : List PlanEntry) (s : State) :
    grant e p entry rest s
      = if 0 < ((s.pools.get p).bins.get entry.bin).inflight then
          granted e (startedMove p entry .draining (s.pools.get p).drainLimit s) rest s
        else if 0 < (s.pools.get p).settleTime then
          granted e (startedMove p entry .settling (s.pools.get p).settleTime s) rest s
        else engineCommit e (startedMove p entry .settling 0 s) (granted e (startedMove p entry .settling 0 s) rest s) := by
  have hcount : ((granted e (startedMove p entry .settling 0 s) rest s).pools.get p).bins.get entry.bin
      = { (s.pools.get p).bins.get entry.bin with engine := some e } := by
    refine (congrArg (fun r : PoolRecord => r.bins.get entry.bin) (granted_record e (startedMove p entry .settling 0 s) rest s)).trans ?_
    exact Table.get_modify_self ..
  have hinflight := congrArg BinRecord.inflight hcount
  rw [← show _ = ((s.pools.get p).bins.get entry.bin).inflight from hinflight]
  rfl

/-- A grant whose move waits: the engine, the head of the plan and the bin alone are taken. -/
theorem granted_waits (phase : MovePhase) (timer : Nat) (s : State) :
    let t := granted e (startedMove p entry phase timer s) rest s
    t.engines.get e = some (startedMove p entry phase timer s) ∧ (t.pools.get p).plan = rest
      ∧ (t.pools.get p).bins.get entry.bin = { (s.pools.get p).bins.get entry.bin with engine := some e }
      ∧ (∀ b, b ≠ entry.bin → (t.pools.get p).bins.get b = (s.pools.get p).bins.get b)
      ∧ (∀ q, q ≠ p → t.pools.get q = s.pools.get q) ∧ (∀ e', e' ≠ e → t.engines.get e' = s.engines.get e')
      ∧ t = { s with pools := t.pools, engines := t.engines, arbiter := p } := by
  intro t
  have hrecord : t.pools.get p = _ := granted_record e (startedMove p entry phase timer s) rest s
  refine ⟨(granted_engines ..).trans (if_pos rfl), by rw [hrecord], by rw [hrecord]; exact Table.get_modify_self ..,
    fun b hb => by rw [hrecord]; exact Table.get_modify_of_ne _ hb _, fun q hq => granted_pool_of_ne hq,
    fun e' he' => (granted_engines ..).trans (if_neg he'), rfl⟩

/-- A grant that commits at once. -/
theorem granted_commits (s : State) :
    let m := startedMove p entry .settling 0 s
    let t := engineCommit e m (granted e m rest s)
    (t.pools.get p).rampTimer = some (s.pools.get p).rampInterval ∧ t.arbiter = p
      ∧ t.engines.get e = none ∧ ((t.pools.get p).bins.get entry.bin).owner = .owned entry.destination
      ∧ ((t.pools.get p).bins.get entry.bin).engine = none
      ∧ t.poolCount p .movesDone = counterAdd (s.poolCount p .movesDone) 1
      ∧ (∀ q, q ≠ p → t.pools.get q = s.pools.get q) ∧ (∀ e', e' ≠ e → t.engines.get e' = s.engines.get e')
      ∧ MembershipFollows s t
      ∧ t = { s with
          slots := t.slots, pools := t.pools, engines := t.engines, arbiter := p, links := t.links
          agent := t.agent } := by
  intro m t
  have ht : Committed e m (granted e m rest s) t := engineCommit_committed e m _
  have hrecord : (granted e m rest s).pools.get p = _ := granted_record e m rest s
  have hfields := ht.touches.fields
  have hegress : t.egress = s.egress := Table.ext_get fun j => by
    rw [ht.egress]
    split
    · next h =>
      rw [h, show heldEntries m.pool m.bin m.hold = [] from rfl, List.take_nil, List.append_nil]
      rfl
    · rfl
  have hcounters : t.slotCounters = s.slotCounters := ht.counters (Nat.zero_le _)
  refine ⟨(congrArg PoolRecord.rampTimer ht.record).trans ?_, by rw [hfields]; rfl, (ht.engines e).trans (if_pos rfl),
    congrArg BinRecord.owner ht.bin, congrArg BinRecord.engine ht.bin, ht.done.trans ?_,
    fun q hq => (ht.pools q hq).trans (granted_pool_of_ne hq),
    fun e' he' => (ht.engines e').trans ((if_neg he').trans ((granted_engines ..).trans (if_neg he'))), ?_, ?_⟩
  · exact congrArg PoolRecord.rampTimer hrecord
  · rw [State.poolCount, show (granted e m rest s).pools.get m.pool = _ from hrecord]
    rfl
  · obtain ⟨hstates, hslots, hlinks⟩ := ht.follows.membershipFollows
    exact ⟨hstates, hslots, hlinks⟩
  · rw [hegress, hcounters] at hfields
    exact hfields

/-- Settles O33: the arbiter's two searches find the engine and the pool, and the grant is one of three. -/
theorem theEngineArbiterGrantsAPlansHead : Obligations.TheEngineArbiterGrantsAPlansHead := by
  intro s wants
  have hwants (q : PoolIx) : wantsEngine s q = true ↔ wants q := wantsEngine_iff
  refine ⟨fun h => exec_engineGrant_none ?_, ?_⟩
  · obtain h | h := h
    · exact .inl (List.find?_eq_none.mpr fun e _ => by simpa using h e)
    · exact .inr (wantingPool_none fun q => Bool.eq_false_iff.mpr fun hq => h q ((hwants q).mp hq))
  · intro e k p entry rest he hbelow hp hp' hfirst hplan r n
    have hexec := exec_engineGrant (idleEngine_eq he hbelow)
      (wantingPool_eq hp ((hwants p).mpr hp') fun j hj => Bool.eq_false_iff.mpr fun hq => hfirst j hj ((hwants _).mp hq)) hplan
    rw [grant_eq] at hexec
    by_cases hdrains : 0 < n
    · rw [if_pos hdrains] at hexec
      refine ⟨_, hexec, rfl, ?_, fun _ => ?_, fun hn => absurd hdrains (Nat.not_lt.mpr hn.le)⟩
      · exact congrArg PoolRecord.rampTimer (granted_record e (startedMove p entry .draining (s.pools.get p).drainLimit s) rest s)
      · rw [if_pos hdrains, if_pos hdrains]
        exact granted_waits .draining _ s
    · rw [if_neg hdrains] at hexec
      by_cases hsettles : 0 < r.settleTime
      · rw [if_pos hsettles] at hexec
        refine ⟨_, hexec, rfl, ?_, fun _ => ?_, fun _ hr => absurd hsettles (Nat.not_lt.mpr hr.le)⟩
        · exact congrArg PoolRecord.rampTimer (granted_record e (startedMove p entry .settling (s.pools.get p).settleTime s) rest s)
        · rw [if_neg hdrains, if_neg hdrains]
          exact granted_waits .settling _ s
      · rw [if_neg hsettles] at hexec
        obtain ⟨hramp, harbiter, hrest⟩ := granted_commits (e := e) (p := p) (entry := entry) (rest := rest) s
        exact ⟨_, hexec, harbiter, hramp, fun h => absurd h (not_or.mpr ⟨hdrains, hsettles⟩), fun _ _ => hrest⟩

end Sys2Proof.Machine
end

section
/-! SUPPORT. What the flushes of a slot's two queues leave of the slot, its link and its queues (R96, R111, R114). -/

namespace Sys2Proof.Machine

variable {s t u : State} {p q : PoolIx} {i j : SlotIx} {b : BinIx} {e : EngineIx} {m : MoveRecord} {old : SlotState}

/-- A step that starts no move and, where no move goes to slot `i`, leaves its egress queue; no FLUSHED count changes. -/
structure Spares (i : SlotIx) (s t : State) : Prop where
  noneTo : NoneTo i s → NoneTo i t
  egress : NoneTo i s → t.egress.get i = s.egress.get i
  flushed : ∀ j, t.slotCount j .flushed = s.slotCount j .flushed

theorem Spares.refl (i : SlotIx) (s : State) : Spares i s s := ⟨id, fun _ => rfl, fun _ => rfl⟩

theorem Spares.trans (h : Spares i s t) (h' : Spares i t u) : Spares i s u where
  noneTo hn := h'.noneTo (h.noneTo hn)
  egress hn := (h'.egress (h.noneTo hn)).trans (h.egress hn)
  flushed j := (h'.flushed j).trans (h.flushed j)

theorem Spares.ite {t' : State} {P : Prop} [Decidable P] (h : P → Spares i s t) (h' : ¬ P → Spares i s t') :
    Spares i s (if P then t else t') := by
  split
  · exact h ‹_›
  · exact h' ‹_›

/-- What touches no move, no queue and no count spares the slot. -/
theorem Spares.of_pools (h : TouchesPools s t) : Spares i s t where
  noneTo hn e m hm := hn e m (h.engines_eq ▸ hm)
  egress _ := by rw [h.egress_eq]
  flushed j := by rw [State.slotCount, State.slotCount, h.slotCounters_eq]

theorem Spares.updBin (p : PoolIx) (b : BinIx) (f : BinRecord → BinRecord) (s : State) : Spares i s (s.updBin p b f) :=
  .of_pools (updBin_pools p b f s)

/-- A commit to another slot. -/
theorem Spares.commit (h : Committed e m s t) (he : s.engines.get e = some m) : Spares i s t where
  noneTo hn e' m' hm := by
    rw [h.engines] at hm
    split_ifs at hm
    exact hn e' m' hm
  egress hn := by rw [h.egress, if_neg fun hi => hn e m he hi.symm]
  flushed j := h.counts j _ (.inr (by decide))

theorem drainEnd_spares (he : s.engines.get e = some m) : Spares i s (drainEnd e m s) := by
  refine .ite (fun _ => .commit (engineCommit_committed e m s) he) fun _ => ⟨fun hn e' m' hm => ?_, fun _ => rfl, fun _ => rfl⟩
  rw [State.setEngine_engines, Table.get_set] at hm
  split_ifs at hm
  · cases hm
    exact hn e m he
  · exact hn e' m' hm

theorem lowerInflight_spares (p : PoolIx) (b : BinIx) (s : State) : Spares i s (lowerInflight p b s) := by
  by_cases h : ∃ e m, ((s.pools.get p).bins.get b).engine = some e ∧ s.engines.get e = some m ∧ m.phase = .draining
      ∧ ((s.pools.get p).bins.get b).inflight ≤ 1
  · obtain ⟨e, m, hengine, he, hphase, hlast⟩ := h
    rw [lowerInflight_drains hengine he hphase hlast]
    exact (Spares.updBin ..).trans (drainEnd_spares he)
  · rw [lowerInflight_stays fun e m hengine he hphase hlast => h ⟨e, m, hengine, he, hphase, hlast⟩]
    exact .updBin ..

theorem reportLeft_spares (entry : EgressEntry) (s : State) : Spares i s (reportLeft entry s) := by
  unfold reportLeft
  split
  · exact lowerInflight_spares ..
  · exact .refl i s

/-! The egress queue (R96). -/

/-- What a flush of slot `i`'s egress queue does: the frames leave one by one, each counted. -/
structure EgressFlushed (i : SlotIx) (s t : State) : Prop where
  noneTo : NoneTo i t
  egress : t.egress.get i = []
  flushed : t.slotCount i .flushed = counterAdd (s.slotCount i .flushed) (s.egress.get i).length

theorem flushOne_spares (entry : EgressEntry) (hn : NoneTo i s) : NoneTo i (flushOne i entry s)
    ∧ (flushOne i entry s).egress.get i = (s.egress.get i).tail
    ∧ (flushOne i entry s).slotCount i .flushed = counterAdd (s.slotCount i .flushed) 1 := by
  have h := reportLeft_spares (i := i) entry (bumpSlot i .flushed (popEgress i s))
  refine ⟨h.noneTo hn, (h.egress hn).trans (Table.get_set_self ..), (h.flushed i).trans ?_⟩
  exact (slotCount_bumpSlotBy ..).trans (if_pos ⟨rfl, rfl⟩)

theorem forEach_flushOne_empties (entries : List EgressEntry) (s : State) (hn : NoneTo i s) (hqueue : s.egress.get i = entries) :
    EgressFlushed i s (forEach (flushOne i) entries s) := by
  induction entries generalizing s with
  | nil => exact ⟨hn, hqueue, by rw [hqueue]; exact (counterAdd_zero _).symm⟩
  | cons entry entries ih =>
    obtain ⟨hn', hqueue', hcount⟩ := flushOne_spares entry hn
    rw [hqueue, List.tail_cons] at hqueue'
    obtain ⟨hnone, hempty, hflushed⟩ := ih _ hn' hqueue'
    refine ⟨hnone, hempty, hflushed.trans ?_⟩
    rw [hcount, counterAdd_counterAdd, hqueue', hqueue, List.length_cons, Nat.add_comm]

/-- The frames leave before the confirmation condition is evaluated (R96, steps 1 and 2). -/
theorem flushes_empty (hn : NoneTo i s) : EgressFlushed i s (forEach (flushOne i) (s.egress.get i) (abortData i s)) := by
  have hqueue : (abortData i s).egress = s.egress := by rw [abortData]; split <;> rfl
  have hengines : (abortData i s).engines = s.engines := by rw [abortData]; split <;> rfl
  have hcounts : (abortData i s).slotCounters = s.slotCounters := by rw [abortData]; split <;> rfl
  have h := forEach_flushOne_empties (i := i) (s.egress.get i) (abortData i s) (fun e m hm => hn e m (hengines ▸ hm)) (by rw [hqueue])
  refine ⟨h.noneTo, h.egress, h.flushed.trans ?_⟩
  rw [State.slotCount, State.slotCount, hcounts, hqueue]

theorem flushEgress_empties (hn : NoneTo i s) : EgressFlushed i s (flushEgress i s) := by
  have h := flushes_empty hn
  have hconfirm : Spares i (forEach (flushOne i) (s.egress.get i) (abortData i s)) (flushEgress i s) :=
    .of_pools (evaluateConfirmation_members i _).pools
  exact ⟨hconfirm.noneTo h.noneTo, (hconfirm.egress h.noneTo).trans h.egress, (hconfirm.flushed i).trans h.flushed⟩

/-! The upstream queue (R111, R114). -/

theorem clearLocalPause_upstream (i : SlotIx) (s : State) : (clearLocalPause i s).upstream.get i = { s.upstream.get i with pause := none } :=
  Table.get_modify_self ..

theorem pauseAtFlush_upstream (i : SlotIx) (s : State) : (pauseAtFlush i s).upstream.get i = { s.upstream.get i with pause := none } := by
  unfold pauseAtFlush
  split
  · next h =>
    cases hu : s.upstream.get i
    rw [hu] at h
    exact congrArg (UpstreamRecord.mk _) h
  · split
    · exact (sendResume_sends i s).upstream
    · exact clearLocalPause_upstream i s

/-- A flush of an upstream queue before the pause state is looked at. -/
def upstreamEmptied (i : SlotIx) (s : State) : State :=
  bumpSlotBy i .flushed (s.upstream.get i).queue.length ((abortUpstream i s).updUpstream i fun u => { u with queue := [] })

theorem flushUpstream_eq (i : SlotIx) (s : State) : flushUpstream i s = pauseAtFlush i (upstreamEmptied i s) := rfl

theorem flushUpstream_upstream (i : SlotIx) (s : State) : (flushUpstream i s).upstream.get i = ⟨[], none⟩ := by
  have habort : (abortUpstream i s).upstream = s.upstream := by rw [abortUpstream]; split <;> rfl
  rw [flushUpstream_eq, pauseAtFlush_upstream]
  have hqueue : (upstreamEmptied i s).upstream.get i = { s.upstream.get i with queue := [] } := by
    show ((abortUpstream i s).upstream.modify i _).get i = _
    rw [Table.get_modify_self, habort]
  rw [hqueue]

theorem upstreamEmptied_links (i : SlotIx) (s : State) : (upstreamEmptied i s).links = s.links
    ∧ (upstreamEmptied i s).slots = s.slots ∧ (upstreamEmptied i s).monitors = s.monitors
    ∧ (upstreamEmptied i s).egress = s.egress ∧ (upstreamEmptied i s).engines = s.engines
    ∧ (upstreamEmptied i s).pools = s.pools := by
  have habort : ∃ core, abortUpstream i s = { s with core := core } := by
    unfold abortUpstream
    split
    · exact ⟨_, rfl⟩
    · exact ⟨s.core, rfl⟩
  obtain ⟨core, habort⟩ := habort
  rw [upstreamEmptied, habort]
  exact ⟨rfl, rfl, rfl, rfl, rfl, rfl⟩

/-- The pause state's end asks at most for a PAUSE (R111). -/
theorem pauseAtFlush_link (i : SlotIx) (s : State) : ∃ control,
    (pauseAtFlush i s).links.get i = { s.links.get i with control := control } := by
  unfold pauseAtFlush
  split
  · exact ⟨_, rfl⟩
  · split
    · show ∃ control, ((askControl i (.pause 0) s).links.get i) = _
      rw [askControl_link_self]
      split
      · exact ⟨_, rfl⟩
      · exact ⟨_, rfl⟩
    · exact ⟨_, rfl⟩

/-- What the flush of an upstream queue leaves but for the slot's link, its own queue and its counts. -/
theorem flushUpstream_frame (i : SlotIx) (s : State) : (flushUpstream i s).slots = s.slots
    ∧ (flushUpstream i s).monitors = s.monitors ∧ (flushUpstream i s).egress = s.egress
    ∧ (flushUpstream i s).engines = s.engines ∧ (flushUpstream i s).pools = s.pools := by
  obtain ⟨-, hslots, hmonitors, hegress, hengines, hpools⟩ := upstreamEmptied_links i s
  have hpause := pauseAtFlush_links i (upstreamEmptied i s)
  have hmon : (pauseAtFlush i (upstreamEmptied i s)).monitors = (upstreamEmptied i s).monitors := by
    unfold pauseAtFlush
    split
    · rfl
    · split
      · show (askControl i (.pause 0) _).monitors = _
        obtain ⟨-, h⟩ | ⟨-, h⟩ := askControl_cases i (.pause 0) (upstreamEmptied i s) <;> rw [h]
        rfl
      · rfl
  obtain ⟨_, _, _, _, hframe⟩ := hpause
  rw [flushUpstream_eq]
  rw [hmon]
  rw [hframe]
  exact ⟨hslots, hmonitors, hegress, hengines, hpools⟩

theorem flushUpstream_link (i : SlotIx) (s : State) : ∃ control,
    (flushUpstream i s).links.get i = { s.links.get i with control := control } := by
  rw [flushUpstream_eq, ← (upstreamEmptied_links i s).1]
  exact pauseAtFlush_link i _

/-! A link that carries no frames is asked for nothing (R132). -/

theorem flushUpstream_link_idle (h : (s.links.get i).carries = false) : (flushUpstream i s).links.get i = s.links.get i := by
  have hlinks := (upstreamEmptied_links i s).1
  rw [flushUpstream_eq, ← hlinks]
  unfold pauseAtFlush
  split
  · rfl
  · split
    · show ((askControl i (.pause 0) _).links.get i) = _
      rw [askControl_link_self, if_neg (by rw [hlinks, h]; exact Bool.false_ne_true)]
    · rfl

end Sys2Proof.Machine
end

section
/-! SUPPORT. What a departure and an entry to FAULTED leave of the slot, its link, its monitor and its queues (R7, R24–R26). -/

namespace Sys2Proof.Machine

variable {s t u : State} {p q : PoolIx} {i j : SlotIx} {b : BinIx} {e : EngineIx} {m : MoveRecord} {old : SlotState}
  {cause : FaultCause}

/-- A record that no completed admission or retirement can change. -/
theorem RecordFollows.stands {r r' : SlotRecord} (h : RecordFollows r r') (hadmitting : r.state ≠ .admitting)
    (hmoving : r.state ≠ .retiring .moving) : r' = r := by
  obtain hsame | ⟨ha, -⟩ | ⟨hm, -⟩ := h.state
  · exact h.same hsame
  · exact absurd ha hadmitting
  · exact absurd hm hmoving

theorem TouchesTraffic.monitors_eq : TouchesTraffic s t → t.monitors = s.monitors := by
  rintro ⟨_, _, _, _, _, _, _, rfl⟩
  rfl

theorem TouchesLinks.engines_eq : TouchesLinks s t → t.engines = s.engines := by
  rintro ⟨_, _, _, _, rfl⟩
  rfl

/-! A departure (R7). -/

/-- A departure up to the flushes. -/
def departed (i : SlotIx) (old : SlotState) (s : State) : State :=
  let s1 := if old.eligible then loseEligibility i s else s
  if old.holding ∧ slotHolds s1 i then evacuate i s1 else s1

theorem depart_eq (i : SlotIx) (old : SlotState) (s : State) : depart i old s = flushQueues i (departed i old s) := rfl

theorem departed_follows (i : SlotIx) (old : SlotState) (s : State) : Follows s (departed i old s) :=
  (Follows.ite (fun _ => loseEligibility_follows i s) fun _ => .refl s).trans
    (.ite (fun _ => evacuate_follows i _) fun _ => .refl _)

theorem departed_idle (hold : old.holding = false) (s : State) : departed i old s = s := by
  have helig : old.eligible = false := by cases old <;> simp_all [SlotState.holding, SlotState.eligible]
  simp [departed, hold, helig]

theorem flushEgress_follows (i : SlotIx) (s : State) : Follows (abortData i s) (flushEgress i s) :=
  (forEach_follows (flushOne_follows i) _ _).trans (evaluateConfirmation_follows i _)

/-- A data frame in transmission is cut off. -/
theorem abortData_frame (i : SlotIx) (s : State) : abortData i s
    = s.updLink i fun l => { l with tx := if l.tx = some .data then none else l.tx } := by
  unfold abortData
  split
  · next h => exact updLink_congr (by rw [if_pos h])
  · next h => exact (updLink_id (by rw [if_neg h])).symm

theorem depart_record (i j : SlotIx) (old : SlotState) (s : State) :
    RecordFollows (s.slots.get j) ((depart i old s).slots.get j) := by
  have hflush : (depart i old s).slots = (flushEgress i (departed i old s)).slots := (flushUpstream_frame i _).1
  have habort : (abortData i (departed i old s)).slots = (departed i old s).slots := by rw [abortData_frame]; rfl
  rw [hflush]
  refine ((departed_follows i old s).slots j).trans ?_
  rw [← habort]
  exact (flushEgress_follows i _).slots j

theorem depart_monitors (i : SlotIx) (old : SlotState) (s : State) : (depart i old s).monitors = s.monitors := by
  have hflush : (depart i old s).monitors = (flushEgress i (departed i old s)).monitors := (flushUpstream_frame i _).2.1
  have habort : (abortData i (departed i old s)).monitors = (departed i old s).monitors := by rw [abortData_frame]; rfl
  rw [hflush, (flushEgress_follows i _).touches.monitors_eq, habort, (departed_follows i old s).touches.monitors_eq]

theorem depart_upstream (i : SlotIx) (old : SlotState) (s : State) : (depart i old s).upstream.get i = ⟨[], none⟩ :=
  flushUpstream_upstream ..

theorem LinkFollows.fields {l l' : LinkRecord} (h : LinkFollows l l') : ∃ control, l' = { l with control := control } := by
  obtain rfl | ⟨-, -, rfl⟩ := h
  · exact ⟨_, rfl⟩
  · exact ⟨_, rfl⟩

theorem LinkFollows.idle {l l' : LinkRecord} (h : LinkFollows l l') (hcarries : l.carries = false) : l' = l := by
  obtain rfl | ⟨h, -⟩ := h
  · rfl
  · exact absurd (hcarries.symm.trans h) Bool.false_ne_true

theorem depart_link (i : SlotIx) (old : SlotState) (s : State) : ∃ control tx,
    (depart i old s).links.get i = { s.links.get i with control := control, tx := tx } := by
  obtain ⟨control, hflush⟩ := flushUpstream_link i (flushEgress i (departed i old s))
  obtain ⟨control', hegress⟩ := ((flushEgress_follows i (departed i old s)).links i).fields
  obtain ⟨control'', hdeparted⟩ := ((departed_follows i old s).links i).fields
  rw [abortData_frame, State.updLink_links, Table.get_modify_self, hdeparted] at hegress
  rw [hegress] at hflush
  exact ⟨_, _, hflush⟩

/-- The link of a departing slot that carries no frames and sends none stands. -/
theorem depart_link_idle (hcarries : (s.links.get i).carries = false) (htx : (s.links.get i).tx = none) (old : SlotState) :
    (depart i old s).links.get i = s.links.get i := by
  have hdeparted := ((departed_follows i old s).links i).idle hcarries
  have habort : (abortData i (departed i old s)).links.get i = s.links.get i := by
    rw [abortData_frame, State.updLink_links, Table.get_modify_self, hdeparted, htx]
    exact congrArg (fun tx => { s.links.get i with tx := tx }) htx.symm
  have hegress := ((flushEgress_follows i (departed i old s)).links i).idle (by rw [habort]; exact hcarries)
  rw [habort] at hegress
  refine (flushUpstream_link_idle (s := flushEgress i (departed i old s)) ?_).trans hegress
  rw [hegress]
  exact hcarries

/-- The egress queue of a departing slot to which nothing moves is emptied. -/
theorem depart_egress (hn : NoneTo i (departed i old s)) : (depart i old s).egress.get i = [] ∧ NoneTo i (depart i old s) := by
  have h := flushEgress_empties hn
  obtain ⟨-, -, hegress, hengines, -⟩ := flushUpstream_frame i (flushEgress i (departed i old s))
  refine ⟨?_, fun e m hm => h.noneTo e m ?_⟩
  · rw [depart_eq, flushQueues, hegress, h.egress]
  · rwa [depart_eq, flushQueues, hengines] at hm

/-! Links that go dark (R121). -/

theorem linkGoDark_state (i : SlotIx) (s : State) : ((linkGoDark i s).links.get i).state = .dark := by
  unfold linkGoDark
  split
  · next h => exact h
  all_goals
    rw [State.updLink_links, Table.get_modify_self]
    rfl

theorem carries_of_dark {l : LinkRecord} (h : l.state = .dark) : l.carries = false := by
  simp [LinkRecord.carries, h]

/-! An entry to FAULTED (R24–R26). -/

/-- What an entry to FAULTED leaves (R7, R24–R26), where its bins go apart. -/
structure Faults (i : SlotIx) (cause : FaultCause) (s t : State) : Prop where
  state : (t.slots.get i).state = .faulted
  lastFault : (t.slots.get i).lastFault = some cause
  timers : (t.slots.get i).timersStopped
  progress : (t.slots.get i).echoes = (s.slots.get i).echoes ∧ (t.slots.get i).beaconsQualified = (s.slots.get i).beaconsQualified
  fault : flagSet t i .fault = true
  changed : (s.slots.get i).state ≠ .faulted → flagSet t i .stateChanged = true
  link : (t.links.get i).state = .dark
  upstream : t.upstream.get i = ⟨[], none⟩
  event : EventAt i s t

/-- FAULTED is recorded with its cause and raised, before the link goes dark. -/
def faultRecorded (i : SlotIx) (cause : FaultCause) (s : State) : State :=
  raiseFlag i .fault ((changeState i .faulted s).updSlot i fun r => { r.stopTimers with lastFault := some cause })

theorem enterFaulted_eq (i : SlotIx) (cause : FaultCause) (s : State) :
    enterFaulted i cause s = depart i (s.slots.get i).state (linkGoDark i (faultRecorded i cause s)) := rfl

/-- The record of a slot whose fault has been recorded. -/
theorem faultRecorded_get (i : SlotIx) (cause : FaultCause) (s : State) : ∃ attention,
    (faultRecorded i cause s).slots.get i = { (s.slots.get i).stopTimers with
      state := .faulted, lastFault := some cause, attention := attention } := by
  obtain ⟨slots, agent, hraise, hslots⟩ := raiseFlag_frame i .fault
    ((changeState i .faulted s).updSlot i fun r => { r.stopTimers with lastFault := some cause })
  obtain ⟨attention, hget⟩ := hslots i
  refine ⟨attention, ?_⟩
  rw [faultRecorded, hraise]
  refine hget.trans ?_
  rw [State.updSlot_slots, Table.get_modify_self, changeState_get_self]
  split
  · next h => rw [← h]; rfl
  · rfl

theorem faultRecorded_flag (i : SlotIx) (cause : FaultCause) (s : State) :
    flagSet (faultRecorded i cause s) i .fault = true
    ∧ ((s.slots.get i).state ≠ .faulted → flagSet (faultRecorded i cause s) i .stateChanged = true) := by
  refine ⟨flagSet_raiseFlag .., fun h => (raiseFlag_eventAt i .fault _).proceeds.flags i .stateChanged ?_⟩
  have hset := flagSet_changeState_self h
  rw [flagSet, State.updSlot_slots, Table.get_modify_self]
  exact hset

theorem enterFaulted_slot (i : SlotIx) (cause : FaultCause) (s : State) :
    (enterFaulted i cause s).slots.get i = (faultRecorded i cause s).slots.get i := by
  obtain ⟨_, hget⟩ := faultRecorded_get i cause s
  have hlinks : (linkGoDark i (faultRecorded i cause s)).slots = (faultRecorded i cause s).slots := (linkGoDark_links i _).slots_eq
  have hstate : ((faultRecorded i cause s).slots.get i).state = .faulted := by rw [hget]
  have hstands := (depart_record i i (s.slots.get i).state (linkGoDark i (faultRecorded i cause s))).stands
    (by rw [hlinks, hstate]; nofun) (by rw [hlinks, hstate]; nofun)
  rw [enterFaulted_eq, hstands, hlinks]

theorem enterFaulted_faults (i : SlotIx) (cause : FaultCause) (s : State) : Faults i cause s (enterFaulted i cause s) := by
  obtain ⟨attention, hget⟩ := faultRecorded_get i cause s
  obtain ⟨hfault, hchanged⟩ := faultRecorded_flag i cause s
  obtain ⟨control, tx, hlink⟩ := depart_link i (s.slots.get i).state (linkGoDark i (faultRecorded i cause s))
  have hslot := (enterFaulted_slot i cause s).trans hget
  exact {
    state := by rw [hslot]
    lastFault := by rw [hslot]
    timers := by rw [hslot]; exact ⟨rfl, rfl, rfl, rfl⟩
    progress := by rw [hslot]; exact ⟨rfl, rfl⟩
    fault := by rw [flagSet, enterFaulted_slot]; exact hfault
    changed := fun h => by rw [flagSet, enterFaulted_slot]; exact hchanged h
    link := by rw [enterFaulted_eq, hlink]; exact linkGoDark_state ..
    upstream := depart_upstream ..
    event := enterFaulted_eventAt i s cause }

/-- The egress queue of a faulted slot that held nothing and to which nothing moves. -/
theorem enterFaulted_egress (hold : (s.slots.get i).state.holding = false) (hn : NoneTo i s) :
    (enterFaulted i cause s).egress.get i = [] := by
  have hengines : (linkGoDark i (faultRecorded i cause s)).engines = s.engines := by
    have hrecorded : (faultRecorded i cause s).engines = s.engines :=
      (raiseFlag_members i .fault _).engines_eq.trans ((updSlot_members i _ _).engines_eq.trans (changeState_members i .faulted s).engines_eq)
    exact ((linkGoDark_links i _).engines_eq).trans hrecorded
  rw [enterFaulted_eq]
  refine (depart_egress ?_).1
  rw [departed_idle hold]
  exact fun e m hm => hn e m (hengines ▸ hm)

/-- Settles O30: both expiries are an entry to FAULTED of a slot that holds nothing. -/
theorem probingExpiriesFaultTheSlot : Obligations.ProbingExpiriesFaultTheSlot := by
  intro s i hmove hstate
  have hnone : NoneTo i s := fun e m hm hi => by
    obtain ⟨-, -, helig, -⟩ := hmove.move e m hm
    rw [hi, isEligible_iff, hstate] at helig
    exact Bool.false_ne_true helig.2
  have hfaults (cause : FaultCause) : ∃ t, enterFaulted i cause s = t ∧ (t.slots.get i).state = .faulted
      ∧ (t.slots.get i).lastFault = some cause ∧ (t.slots.get i).timersStopped ∧ flagSet t i .fault = true
      ∧ (t.links.get i).state = .dark ∧ t.egress.get i = [] ∧ (t.upstream.get i).queue = [] ∧ SlotEventFrame i s t := by
    have h := enterFaulted_faults i cause s
    exact ⟨_, rfl, h.state, h.lastFault, h.timers, h.fault, h.link, enterFaulted_egress (by rw [hstate]; rfl) hnone,
      by rw [h.upstream], h.event.frame⟩
  refine ⟨fun htimer => ?_, fun htimer => ?_⟩
  · obtain ⟨t, ht, hfaulted⟩ := hfaults .probeTimeout
    exact ⟨t, congrArg Host.Outcome.next ((if_pos ⟨hstate, Option.isSome_iff_ne_none.mpr htimer⟩).trans ht), hfaulted⟩
  · obtain ⟨t, ht, hfaulted⟩ := hfaults .beaconUnqualified
    exact ⟨t, congrArg Host.Outcome.next ((if_pos ⟨hstate, Option.isSome_iff_ne_none.mpr htimer⟩).trans ht), hfaulted⟩

end Sys2Proof.Machine
end

section
/-! SUPPORT. Trainings and the entries to SEATED and PROBING (R8, R9, R121–R123, R147), and requests whose effect is an event
of their slot (R184). -/

namespace Sys2Proof.Machine

variable {s t u : State} {i j : SlotIx} {c : Instr} {tag code slot : Byte} {owner : State → Answer} {effect : State → State}
  {results : State → List Byte} {cause : FaultCause}

/-! A training (R121–R123). -/

theorem dropLink_slots (i : SlotIx) (s : State) : (dropLink i s).slots = s.slots := (dropLink_links i s).slots_eq

/-- The link of a slot whose training starts (R121, R123). -/
theorem linkTrain_link (i : SlotIx) (s : State) : ∃ l : LinkRecord, (linkTrain i s).links.get i
    = l.startAttempt (s.slots.get i).rateMode s.agent.trainingAttempts 1 :=
  ⟨_, Table.get_modify_self ..⟩

theorem attemptRate_one (mode : RateMode) : attemptRate mode 1 = if mode = .half then .half else .full := by
  cases mode <;> rfl

/-- A training that starts is in its first attempt, at the rate of its mode. -/
theorem linkTrain_starts (i : SlotIx) (s : State) : ((linkTrain i s).links.get i).state = .training
    ∧ ((linkTrain i s).links.get i).attemptTimer = some 50
    ∧ ((linkTrain i s).links.get i).train = some ⟨if (s.slots.get i).rateMode = .half then .half else .full, 1,
        s.agent.trainingAttempts, (s.slots.get i).rateMode⟩ := by
  obtain ⟨l, hl⟩ := linkTrain_link i s
  rw [hl, LinkRecord.startAttempt, attemptRate_one]
  exact ⟨rfl, rfl, rfl⟩

theorem linkGoDark_of_training (h : (s.links.get i).state = .training) :
    linkGoDark i s = s.updLink i LinkRecord.enterDark := by
  simp only [linkGoDark, dropLink, h]

/-! The monitor of a link that goes dark (R140). -/

theorem linkDown_running (m : MonitorRecord) : m.linkDown.linkRunning = false := by
  unfold MonitorRecord.linkDown
  split <;> rfl

theorem linkGoDark_running (h : (s.monitors.get i).linkRunning = false) :
    ((linkGoDark i s).monitors.get i).linkRunning = false := by
  have hdrop : ((dropLink i s).monitors.get i).linkRunning = false := by
    unfold dropLink
    split
    · exact (congrArg MonitorRecord.linkRunning (Table.get_modify_self ..)).trans (linkDown_running _)
    · rw [cutReception_monitors, h]
    · exact h
    · exact h
  unfold linkGoDark
  split
  · exact h
  all_goals exact hdrop

theorem faultRecorded_members (i : SlotIx) (cause : FaultCause) (s : State) : TouchesMembers s (faultRecorded i cause s) :=
  ((changeState_members i .faulted s).trans (updSlot_members i _ _)).trans (raiseFlag_members i .fault _)

theorem enterFaulted_running (h : (s.monitors.get i).linkRunning = false) :
    ((enterFaulted i cause s).monitors.get i).linkRunning = false := by
  rw [enterFaulted_eq, depart_monitors]
  exact linkGoDark_running (by rw [(faultRecorded_members i cause s).monitors_eq, h])

/-! An entry to PROBING (R4, R9). -/

theorem forEach_probe_link (ns : List (Fin 8)) (s : State) (hcarries : (s.links.get i).carries = true) :
    (forEach (fun n => askControl i (.probe n)) ns s).links.get i
      = { s.links.get i with control := (s.links.get i).control ++ ns.map ControlFrame.probe } := by
  induction ns generalizing s with
  | nil => rw [forEach_nil, List.map_nil, List.append_nil]
  | cons n ns ih =>
    have hlink : (askControl i (.probe n) s).links.get i
        = { s.links.get i with control := (s.links.get i).control ++ [.probe n] } := by
      rw [askControl_link_self, if_pos hcarries]
      rfl
    rw [forEach_cons, ih _ (by rw [hlink]; exact hcarries), hlink, List.map_cons, List.append_assoc, List.singleton_append]

/-- What the probe exchange starts with (R9). -/
structure BeginsProbing (i : SlotIx) (s t : State) : Prop where
  slot : t.slots.get i = { s.slots.get i with probeTimer := some 50, qualifyTimer := some s.agent.qualifyLimit }
  link : (s.links.get i).carries = true → t.links.get i
    = { s.links.get i with control := (s.links.get i).control ++ (List.finRange 8).map ControlFrame.probe }
  monitor : t.monitors.get i = (s.monitors.get i).clear
  frame : t = { s with slots := t.slots, links := t.links, monitors := t.monitors }

theorem beginProbing_begins (i : SlotIx) (s : State) : BeginsProbing i s (beginProbing i s) := by
  have hmembers := forEach_relates (f := fun (n : Fin 8) => askControl i (.probe n)) (R := fun s t : State => ∃ links, t = { s with links := links })
    (fun s => ⟨s.links, rfl⟩) (by rintro _ _ _ ⟨_, rfl⟩ ⟨_, rfl⟩; exact ⟨_, rfl⟩)
    (fun n s => by
      obtain ⟨-, h⟩ | ⟨-, h⟩ := askControl_cases i (.probe n) s <;> rw [h]
      · exact ⟨_, rfl⟩
      · exact ⟨s.links, rfl⟩)
    (List.finRange 8)
    (monitorClear i (s.updSlot i fun r => { r with probeTimer := some 50, qualifyTimer := some s.agent.qualifyLimit }))
  obtain ⟨links, hframe⟩ := hmembers
  have hbegun : beginProbing i s = _ := hframe
  exact {
    slot := by
      rw [hbegun]
      exact Table.get_modify_self ..
    link := fun hcarries => forEach_probe_link (List.finRange 8) _ hcarries
    monitor := by
      rw [hbegun]
      exact Table.get_modify_self ..
    frame := by
      rw [hbegun]
      rfl }

/-- Progress is cleared at every entry to PROBING (R4). -/
theorem clearProgress_slot (i : SlotIx) (s : State) :
    (clearProgress i s).slots.get i = { s.slots.get i with echoes := 0, beaconsQualified := false } := Table.get_modify_self ..

theorem classPasses_iff : classPasses s i = true ↔ (s.slots.get i).expectedClass = 0
    ∨ (s.slots.get i).expectedClass = (s.ports.get i).bladeClass.accepted.toNat := decide_eq_true_iff

theorem checkClass_passed (h : classPasses s i = true) : checkClass i s = beginProbing i (clearProgress i s) :=
  if_pos h

theorem checkClass_failed (h : classPasses s i = false) : checkClass i s = enterFaulted i .classMismatch (clearProgress i s) :=
  if_neg (by rw [h]; exact Bool.false_ne_true)

/-! A request whose effect is an event of its slot (R184). -/

/-- The response has taken its place in the transmit queue. -/
def responded (n : Nat) (payload : List Byte) (u : State) : State :=
  u.updAgent fun a => { a with transmit := a.transmit.set n payload }

theorem accepting_frame (i : SlotIx) (s : State) : SlotEventFrame i s (accepting s) :=
  ⟨{ OthersStand.refl i s with agent := rfl }, .refl i s, rfl, rfl⟩

theorem responded_frame (i : SlotIx) (n : Nat) (payload : List Byte) (u : State) : SlotEventFrame i u (responded n payload u) :=
  ⟨{ OthersStand.refl i u with agent := rfl }, .refl i u, rfl, rfl⟩

theorem exec_event (hexec : exec c s = .next (processRequest c owner s)) (h : Heads c s)
    (hkey : requestKey c = some (tag, code)) (howner : owner (dropRequest s) = .accept effect results)
    (hevent : EventAt i (accepting s) (effect (accepting s))) :
    ∃ t, t = responded s.agent.transmit.length ([tag, code, 0] ++ results (effect (accepting s))) (effect (accepting s))
      ∧ exec c s = .next t ∧ Answers s t ([tag, code, 0] ++ results (effect (accepting s))) ∧ SlotEventFrame i s t := by
  refine ⟨_, rfl, exec_accepted hexec h hkey howner, ⟨?_, ?_⟩, ?_⟩
  · exact congrArg AgentRecord.requests hevent.proceeds.agent.fields
  · obtain ⟨ns, hns, -⟩ := hevent.proceeds.agent.notices
    refine ⟨ns, ?_⟩
    show (effect (accepting s)).agent.transmit.set _ _ = _
    rw [hns]
    show ((s.agent.transmit ++ [[]]) ++ ns).set _ _ = _
    rw [List.append_assoc, List.set_append_right _ _ le_rfl, Nat.sub_self]
    rfl
  · exact ((accepting_frame i s).trans hevent.frame).trans (responded_frame ..)

/-- The results that report a slot whose state is known (R202). -/
theorem slotResult_of {x : SlotState} (hslot : slot.toNat = i.val + 1) (hstate : (s.slots.get i).state = x) :
    slotResult s i = slot :: stateBytes x ++ [byteOf (s.slots.get i).weight] := by
  rw [slotResult, slotByte_of hslot, hstate]

end Sys2Proof.Machine
end

section
/-! SUPPORT. The ends of a training attempt, the loss of lock, and the requests that bring a slot back (R8, R25, R28, R29,
R123, R124). -/

namespace Sys2Proof.Machine

variable {s t u : State} {i j : SlotIx} {tag slot : Byte} {tr : TrainRecord}

/-! A failed attempt (R123). -/

theorem inAttempt_of (hstate : (s.links.get i).state = .training) (htimer : (s.links.get i).attemptTimer ≠ none) :
    (s.links.get i).inAttempt = true := by
  rw [LinkRecord.inAttempt, decide_eq_true hstate, Bool.true_and]
  exact Option.isSome_iff_ne_none.mpr htimer

theorem attemptFailed_retries (htrain : (s.links.get i).train = some tr) (h : tr.attempt < tr.limit) :
    attemptFailed i s = s.updLink i fun l => l.startAttempt tr.mode tr.limit (tr.attempt + 1) := by
  simp only [attemptFailed, htrain, if_pos h]

/-- The state in which a training has failed (R123). -/
def trainingOver (i : SlotIx) (s : State) : State :=
  bumpSlot i .trainFailures (s.updLink i fun l => { l with attemptTimer := none, lockLossTimer := none })

theorem attemptFailed_fails (htrain : (s.links.get i).train = some tr) (h : tr.limit ≤ tr.attempt)
    (hstate : (s.slots.get i).state = .seated) : attemptFailed i s = enterFaulted i .trainTimeout (trainingOver i s) := by
  simp only [attemptFailed, htrain, if_neg (Nat.not_lt.mpr h)]
  exact if_pos hstate

theorem exec_attemptTimerExpiry (hstate : (s.links.get i).state = .training) (htimer : (s.links.get i).attemptTimer ≠ none) :
    exec (.attemptTimerExpiry i) s = .next (attemptFailed i s) :=
  congrArg Host.Outcome.next (if_pos (inAttempt_of hstate htimer))

theorem exec_trainingLockLoss (hstate : (s.links.get i).state = .training) (htimer : (s.links.get i).attemptTimer ≠ none)
    (hloss : (s.links.get i).lockLossTimer ≠ none) :
    exec (.trainingLockLoss i) s = .next (attemptFailed i (bumpSlot i .lockLosses s)) :=
  congrArg Host.Outcome.next (if_pos ⟨inAttempt_of hstate htimer, Option.isSome_iff_ne_none.mpr hloss⟩)

theorem trainingOver_frame (i : SlotIx) (s : State) : SlotEventFrame i s (trainingOver i s) :=
  (EventAt.updLink i _ s).frame.trans ⟨bumpSlotBy_others i i _ 1 _, .refl i _, rfl, rfl⟩

theorem trainingOver_count (i : SlotIx) (s : State) (k : SlotCounter) : (trainingOver i s).slotCount i k
    = if k = .trainFailures then counterAdd (s.slotCount i k) 1 else s.slotCount i k := by
  refine (slotCount_bumpSlotBy ..).trans ?_
  simp only [true_and]
  rfl

/-- The link of a slot whose training has failed goes dark, and nothing else is asked of it (R121, R123). -/
theorem trainingOver_dark (hlink : (s.links.get i).state = .training) (htx : (s.links.get i).tx = none) :
    (enterFaulted i .trainTimeout (trainingOver i s)).links.get i = { s.links.get i with
      state := .dark, train := none, lock := false, lockedInAttempt := false, attemptTimer := none, lockLossTimer := none } := by
  have hrecorded : (faultRecorded i .trainTimeout (trainingOver i s)).links.get i
      = { s.links.get i with attemptTimer := none, lockLossTimer := none } := by
    rw [show (faultRecorded i .trainTimeout (trainingOver i s)).links = (trainingOver i s).links from
      (raiseFlag_links ..).trans (changeState_links ..)]
    exact Table.get_modify_self ..
  have hdark : (linkGoDark i (faultRecorded i .trainTimeout (trainingOver i s))).links.get i = { s.links.get i with
      state := .dark, train := none, lock := false, lockedInAttempt := false, attemptTimer := none, lockLossTimer := none } := by
    rw [linkGoDark_of_training (by rw [hrecorded]; exact hlink), State.updLink_links, Table.get_modify_self, hrecorded]
    rfl
  rw [enterFaulted_eq, depart_link_idle, hdark]
  · exact carries_of_dark (linkGoDark_state ..)
  · rw [hdark]
    exact htx

/-- What the failure of a training leaves. -/
theorem trainingFails (htrain : (s.links.get i).train = some tr) (h : tr.limit ≤ tr.attempt)
    (hstate : (s.slots.get i).state = .seated) (hlink : (s.links.get i).state = .training) (htx : (s.links.get i).tx = none) :
    let t := attemptFailed i s
    t.slotCount i .lockLosses = s.slotCount i .lockLosses
      ∧ (t.slots.get i).state = .faulted ∧ (t.slots.get i).lastFault = some .trainTimeout
      ∧ t.slotCount i .trainFailures = counterAdd (s.slotCount i .trainFailures) 1
      ∧ flagSet t i .fault = true ∧ flagSet t i .stateChanged = true ∧ SlotEventFrame i s t
      ∧ t.links.get i = { s.links.get i with
          state := .dark, train := none, lock := false, lockedInAttempt := false, attemptTimer := none
          lockLossTimer := none } := by
  intro t
  have ht : t = enterFaulted i .trainTimeout (trainingOver i s) := attemptFailed_fails htrain h hstate
  have hfaults := enterFaulted_faults i .trainTimeout (trainingOver i s)
  have hseated : ((trainingOver i s).slots.get i).state ≠ .faulted := by
    show (s.slots.get i).state ≠ .faulted
    rw [hstate]
    nofun
  rw [ht]
  refine ⟨?_, hfaults.state, hfaults.lastFault, ?_, hfaults.fault, hfaults.changed hseated,
    (trainingOver_frame i s).trans hfaults.event.frame, trainingOver_dark hlink htx⟩
  · exact (hfaults.event.counts i .lockLosses (by decide)).trans (trainingOver_count i s .lockLosses)
  · exact (hfaults.event.counts i .trainFailures (by decide)).trans (trainingOver_count i s .trainFailures)

/-- Settles O21: a failed attempt below the limit starts the next one, and the last one is an entry to FAULTED. -/
theorem failedAttemptsRetryOrFault : Obligations.FailedAttemptsRetryOrFault := by
  intro s i tr hstate htimer htrain
  refine ⟨?_, fun c losses hlast hseated htx hc => ?_⟩
  · intro hmore next
    have hnext : (fun l : LinkRecord => l.startAttempt tr.mode tr.limit (tr.attempt + 1)) = next := by
      funext l
      rcases tr with ⟨_, _, _, mode⟩
      cases mode <;> rfl
    refine ⟨?_, fun hloss => ?_⟩
    · rw [exec_attemptTimerExpiry hstate htimer, attemptFailed_retries htrain hmore, hnext]
    · rw [exec_trainingLockLoss hstate htimer hloss,
        attemptFailed_retries (s := bumpSlot i .lockLosses s) htrain hmore, hnext]
  · obtain ⟨rfl, rfl⟩ | ⟨rfl, rfl, hloss⟩ := hc
    · obtain ⟨hlosses, hfails⟩ := trainingFails htrain hlast hseated hstate htx
      exact ⟨_, exec_attemptTimerExpiry hstate htimer, hlosses.trans (counterAdd_zero _).symm, hfails⟩
    · obtain ⟨hlosses, hfaulted, hfault, hfailures, hflag, hchanged, hframe, hlink⟩ :=
        trainingFails (s := bumpSlot i .lockLosses s) htrain hlast hseated hstate htx
      refine ⟨_, exec_trainingLockLoss hstate htimer hloss, hlosses.trans ?_, hfaulted, hfault, hfailures.trans ?_, hflag,
        hchanged, ?_, hlink⟩
      · exact (slotCount_bumpSlotBy ..).trans (if_pos ⟨rfl, rfl⟩)
      · exact congrArg (counterAdd · 1) ((slotCount_bumpSlotBy ..).trans (if_neg (by simp)))
      · exact SlotEventFrame.trans ⟨bumpSlotBy_others i i _ 1 s, .refl i s, rfl, rfl⟩ hframe

/-! A loss of lock (R25, R124). -/

/-- The link has lost lock, with what it drops and its reports to the monitor and the upstream queue (R124). -/
def lockLost (i : SlotIx) (s : State) : State :=
  reportLeftUp i (cutReception i (bumpSlot i .lockLosses
    (s.updLink i fun l => { l with lost := true, lockLossTimer := none, tx := none })))

theorem exec_lockLossExpiry (hup : (s.links.get i).state = .up) (hlost : (s.links.get i).lost = false)
    (htimer : (s.links.get i).lockLossTimer ≠ none) :
    exec (.lockLossExpiry i) s = .next (lockLossReported i (lockLost i s)) :=
  congrArg Host.Outcome.next (if_pos ⟨carries_of_up hup hlost, Option.isSome_iff_ne_none.mpr htimer⟩)

theorem cutReception_link (i : SlotIx) (s : State) : ∃ rx, (cutReception i s).links.get i = { s.links.get i with rx := rx } := by
  unfold cutReception
  split
  · exact ⟨_, rfl⟩
  · exact ⟨none, Table.get_modify_self ..⟩

theorem lockLost_link (i : SlotIx) (s : State) : ∃ rx, (lockLost i s).links.get i
    = { s.links.get i with lost := true, lockLossTimer := none, tx := none, rx := rx } := by
  obtain ⟨rx, h⟩ := cutReception_link i (bumpSlot i .lockLosses
    (s.updLink i fun l => { l with lost := true, lockLossTimer := none, tx := none }))
  refine ⟨rx, h.trans ?_⟩
  rw [show (bumpSlot i .lockLosses (s.updLink i fun l => { l with lost := true, lockLossTimer := none, tx := none })).links.get i
    = _ from Table.get_modify_self ..]

theorem lockLost_frame (i : SlotIx) (s : State) : SlotEventFrame i s (lockLost i s)
    ∧ (lockLost i s).slotCount i .lockLosses = counterAdd (s.slotCount i .lockLosses) 1 := by
  have hevent := (cutReception_eventAt i (bumpSlot i .lockLosses
    (s.updLink i fun l => { l with lost := true, lockLossTimer := none, tx := none }))).trans (reportLeftUp_eventAt i _)
  refine ⟨((EventAt.updLink i _ s).frame.trans ⟨bumpSlotBy_others i i .lockLosses 1 _, .refl i _, rfl, rfl⟩).trans hevent.frame, ?_⟩
  exact (hevent.counts i .lockLosses (by decide)).trans ((slotCount_bumpSlotBy ..).trans (if_pos ⟨rfl, rfl⟩))

theorem lockLost_slots (i : SlotIx) (s : State) : (lockLost i s).slots = s.slots :=
  ((cutReception_links i _).trans (reportLeftUp_links i _)).slots_eq

theorem lockLost_monitor (i : SlotIx) (s : State) : ((lockLost i s).monitors.get i).linkRunning = false :=
  (congrArg MonitorRecord.linkRunning (Table.get_modify_self ..)).trans (linkDown_running _)

theorem lockLost_pause (i : SlotIx) (s : State) : ((lockLost i s).upstream.get i).pause = none :=
  congrArg UpstreamRecord.pause (Table.get_modify_self ..)

theorem lockLossReported_faults (h : (s.slots.get i).state ∈ [.admitting, .inService, .retiring .moving, .probing, .standby]) :
    lockLossReported i s = enterFaulted i .linkLost s := by
  simp only [List.mem_cons, List.not_mem_nil, or_false] at h
  obtain h | h | h | h | h := h <;> simp only [lockLossReported, h]

theorem lockLossReported_stays (h : (s.slots.get i).state ∈ [.seated, .empty, .drained, .faulted, .fenced]) :
    lockLossReported i s = s := by
  simp only [List.mem_cons, List.not_mem_nil, or_false] at h
  obtain h | h | h | h | h := h <;> simp only [lockLossReported, h]

theorem lockLossReported_drains (h : (s.slots.get i).state = .retiring .confirming) :
    lockLossReported i s = enterDrained i id s := by
  simp only [lockLossReported, h]

theorem lockLossReported_cases (i : SlotIx) (s : State) : lockLossReported i s = s
    ∨ lockLossReported i s = enterFaulted i .linkLost s ∨ lockLossReported i s = enterDrained i id s := by
  unfold lockLossReported
  split
  all_goals simp only [true_or, or_true]

/-- An entry to DRAINED from an UP link stops the monitor and clears the local pause. -/
theorem enterDrained_down (h : (s.links.get i).state = .up) : ((enterDrained i id s).monitors.get i).linkRunning = false
    ∧ ((enterDrained i id s).upstream.get i).pause = none := by
  have hup : ((id (changeState i .drained s)).links.get i).state = .up := by rw [id, changeState_links, h]
  rw [enterDrained, linkPark_of_up hup]
  exact ⟨(congrArg MonitorRecord.linkRunning (Table.get_modify_self ..)).trans (linkDown_running _),
    congrArg UpstreamRecord.pause (Table.get_modify_self ..)⟩

theorem lockLossReported_down (hup : (s.links.get i).state = .up) (hrunning : (s.monitors.get i).linkRunning = false)
    (hpause : (s.upstream.get i).pause = none) : ((lockLossReported i s).monitors.get i).linkRunning = false
    ∧ ((lockLossReported i s).upstream.get i).pause = none := by
  obtain h | h | h := lockLossReported_cases i s <;> rw [h]
  · exact ⟨hrunning, hpause⟩
  · exact ⟨enterFaulted_running hrunning, by rw [(enterFaulted_faults i .linkLost s).upstream]⟩
  · exact enterDrained_down hup

/-- Settles O22: the report of the loss is an entry to FAULTED or to DRAINED, or nothing. -/
theorem lockLossIsReportedByState : Obligations.LockLossIsReportedByState := by
  intro s i hup hlost htimer
  obtain ⟨rx, hlink⟩ := lockLost_link i s
  obtain ⟨hframe, hcount⟩ := lockLost_frame i s
  have hslots := lockLost_slots i s
  have hevent := lockLossReported_eventAt i (lockLost i s)
  have hup' : ((lockLost i s).links.get i).state = .up := by rw [hlink]; exact hup
  refine ⟨_, exec_lockLossExpiry hup hlost htimer, (hevent.counts i .lockLosses (by decide)).trans hcount, ?_, ?_,
    hframe.trans hevent.frame, fun h => ?_, fun h => ?_, fun h => ?_⟩
  · exact (lockLossReported_down hup' (lockLost_monitor i s) (lockLost_pause i s)).1
  · exact (lockLossReported_down hup' (lockLost_monitor i s) (lockLost_pause i s)).2
  · rw [← hslots] at h
    rw [lockLossReported_faults h]
    have hfaults := enterFaulted_faults i .linkLost (lockLost i s)
    exact ⟨hfaults.state, hfaults.lastFault, hfaults.timers, hfaults.link, by rw [hfaults.upstream]⟩
  · rw [← hslots] at h
    rw [lockLossReported_drains h]
    obtain ⟨hs, hparked, -⟩ := enterDrained_of_up (flags := id) TouchesMembers.refl (fun _ => rfl) hup'
    refine ⟨by rw [hs]; exact changeState_state .., hparked, ?_⟩
    rw [flagSet, hs]
    exact (flagSet_changeState_of_ne (by simp) i i .drained _).trans (by rw [flagSet, flagSet, hslots])
  · rw [← hslots] at h
    rw [lockLossReported_stays h, hlink]
    exact ⟨hslots, hup, rfl, rfl, rfl⟩

end Sys2Proof.Machine
end

section
/-! SUPPORT. Entries to PROBING from SEATED and from DRAINED, and the requests that bring a slot back (R8, R9, R27–R29, R123,
R125). -/

namespace Sys2Proof.Machine

variable {s t u : State} {i j : SlotIx} {tag slot code : Byte}

/-- A slot in PROBING whose link carries frames has passed its class check (R4, R9). -/
structure Probes (i : SlotIx) (s t : State) : Prop where
  state : (t.slots.get i).state = .probing
  progress : (t.slots.get i).echoes = 0 ∧ (t.slots.get i).beaconsQualified = false
  timers : (t.slots.get i).probeTimer = some 50 ∧ (t.slots.get i).qualifyTimer = some s.agent.qualifyLimit
  weight : (t.slots.get i).weight = (s.slots.get i).weight
  link : (s.links.get i).carries = true → t.links.get i
    = { s.links.get i with control := (s.links.get i).control ++ (List.finRange 8).map ControlFrame.probe }
  monitor : t.monitors.get i = (s.monitors.get i).clear
  frame : t = { s with slots := t.slots, links := t.links, monitors := t.monitors }

theorem checkClass_probes (hstate : (s.slots.get i).state = .probing)
    (hpasses : classPasses s i = true) : Probes i s (checkClass i s) := by
  have h := beginProbing_begins i (clearProgress i s)
  rw [checkClass_passed hpasses]
  have hslot := h.slot
  rw [clearProgress_slot] at hslot
  exact {
    state := by rw [hslot]; exact hstate
    progress := by rw [hslot]; exact ⟨rfl, rfl⟩
    timers := by rw [hslot]; exact ⟨rfl, rfl⟩
    weight := by rw [hslot]
    link := fun hcarries => h.link hcarries
    monitor := h.monitor
    frame := h.frame }

/-- A slot in PROBING has failed its class check (R4, R9). -/
theorem checkClass_faults (hpasses : classPasses s i = false) :
    Faults i .classMismatch (clearProgress i s) (checkClass i s)
      ∧ ((checkClass i s).slots.get i).echoes = 0 ∧ ((checkClass i s).slots.get i).beaconsQualified = false
      ∧ ((checkClass i s).slots.get i).weight = (s.slots.get i).weight := by
  have h := enterFaulted_faults i .classMismatch (clearProgress i s)
  have hprogress := h.progress
  rw [clearProgress_slot] at hprogress
  rw [checkClass_failed hpasses]
  refine ⟨h, hprogress.1, hprogress.2, ?_⟩
  obtain ⟨-, hweight, -⟩ := h.event.settings
  rw [hweight, clearProgress_slot]

theorem AgentNotices.settings {a a' : AgentRecord} (h : AgentNotices a a') : a'.qualifyLimit = a.qualifyLimit
    ∧ a'.trainingAttempts = a.trainingAttempts ∧ a'.ackTimeout = a.ackTimeout := by
  rw [h.fields]
  exact ⟨rfl, rfl, rfl⟩

/-- No event of a slot changes what its class check looks at. -/
theorem EventAt.passes (h : EventAt i s t) : classPasses t i = classPasses s i := by
  obtain ⟨-, -, hclass, -⟩ := h.settings
  rw [classPasses, classPasses, hclass, h.ports]

/-! An attempt that succeeds (R8, R123). -/

/-- The link has come UP, counted, and its monitor knows (R123). -/
def broughtUp (i : SlotIx) (s : State) : State := monitorLinkUp i (bumpSlot i .linkUps (s.updLink i LinkRecord.enterUp))

theorem exec_attemptSuccess (hstate : (s.links.get i).state = .training) (htimer : (s.links.get i).attemptTimer ≠ none)
    (hlock : (s.links.get i).lock = true) (hgained : (s.links.get i).lockedInAttempt = true)
    (hseated : (s.slots.get i).state = .seated) :
    exec (.attemptSuccess i) s = .next (checkClass i (changeState i .probing (broughtUp i s))) := by
  have hexec : exec (.attemptSuccess i) s = .next (linkUpReported i (broughtUp i s)) :=
    congrArg Host.Outcome.next (if_pos ⟨inAttempt_of hstate htimer, hgained, hlock⟩)
  rw [hexec]
  exact congrArg Host.Outcome.next (if_pos hseated)

theorem broughtUp_frame (i : SlotIx) (s : State) : SlotEventFrame i s (broughtUp i s) :=
  ((EventAt.updLink i _ s).frame.trans ⟨bumpSlotBy_others i i .linkUps 1 _, .refl i _, rfl, rfl⟩).trans
    (EventAt.updMonitor i _ _).frame

theorem broughtUp_counts (i : SlotIx) (s : State) (j : SlotIx) (k : SlotCounter) : (broughtUp i s).slotCount j k
    = if j = i ∧ k = .linkUps then counterAdd (s.slotCount j k) 1 else s.slotCount j k := slotCount_bumpSlotBy ..

/-- What the change to PROBING leaves of the link, the monitor and the counts. -/
theorem changeState_broughtUp (i : SlotIx) (s : State) :
    (changeState i .probing (broughtUp i s)).links.get i = (s.links.get i).enterUp
    ∧ (changeState i .probing (broughtUp i s)).monitors.get i = { s.monitors.get i with linkRunning := true }
    ∧ ∀ j k, (changeState i .probing (broughtUp i s)).slotCount j k = (broughtUp i s).slotCount j k := by
  have hmembers := changeState_members i .probing (broughtUp i s)
  refine ⟨?_, ?_, fun j k => ?_⟩
  · rw [changeState_links]
    exact Table.get_modify_self ..
  · rw [hmembers.monitors_eq]
    exact Table.get_modify_self ..
  · rw [State.slotCount, State.slotCount, hmembers.slotCounters_eq]

theorem broughtUp_probes (hpasses : classPasses s i = true) :
    let v := changeState i .probing (broughtUp i s)
    Probes i v (checkClass i v)
      ∧ SlotCountsStand i [.linkUps] s (checkClass i v)
      ∧ checkClass i v = { s with
          slots := (checkClass i v).slots, links := (checkClass i v).links, monitors := (checkClass i v).monitors
          slotCounters := (checkClass i v).slotCounters, agent := (checkClass i v).agent } := by
  intro v
  have hv : classPasses v i = true := ((changeState_eventAt i .probing (broughtUp i s)).passes).trans hpasses
  have h := checkClass_probes (s := v) (changeState_state ..) hv
  obtain ⟨-, -, hcounts⟩ := changeState_broughtUp i s
  have hsame : (checkClass i v).slotCounters = v.slotCounters := by rw [h.frame]
  refine ⟨h, fun j k hk => ?_, ?_⟩
  · rw [State.slotCount, hsame]
    refine (hcounts j k).trans ((broughtUp_counts i s j k).trans (if_neg fun hjk => ?_))
    obtain hj | hk := hk
    · exact hj hjk.1
    · exact hk (by simp [hjk.2])
  · obtain ⟨_, _, _, hmembers⟩ := changeState_members i .probing (broughtUp i s)
    have hframe := h.frame
    have hv' : v = _ := hmembers
    generalize checkClass i v = w at hframe ⊢
    rw [hv'] at hframe
    rw [hframe]
    rfl

/-- Settles O20: the link comes up, the slot enters PROBING, and its class check begins the probe exchange or faults it. -/
theorem attemptSuccessBeginsProbing : Obligations.AttemptSuccessBeginsProbing := by
  refine ⟨fun s i _ hgained => ?_, fun s i hstate htimer hlock hgained hseated => ?_⟩
  · exact congrArg Host.Outcome.next (if_neg fun h => Bool.false_ne_true (hgained.symm.trans h.2.1))
  · obtain ⟨hlink, hmonitor, hcounts⟩ := changeState_broughtUp i s
    have hevent := checkClass_eventAt i (changeState i .probing (broughtUp i s))
    have hframe : SlotEventFrame i s (checkClass i (changeState i .probing (broughtUp i s))) :=
      ((broughtUp_frame i s).trans (changeState_eventAt i .probing _).frame).trans hevent.frame
    have hagent : (changeState i .probing (broughtUp i s)).agent.qualifyLimit = s.agent.qualifyLimit :=
      (changeState_eventAt i .probing (broughtUp i s)).proceeds.agent.settings.1
    refine ⟨_, exec_attemptSuccess hstate htimer hlock hgained hseated, ?_, fun hpasses => ?_, fun hne hne' => ?_⟩
    · refine (hevent.counts i .linkUps (by decide)).trans ((hcounts i .linkUps).trans ?_)
      exact (broughtUp_counts ..).trans (if_pos ⟨rfl, rfl⟩)
    · obtain ⟨h, hstand, hrest⟩ := broughtUp_probes (classPasses_iff.mpr hpasses)
      have hup := h.link (by rw [hlink]; rfl)
      rw [hlink] at hup
      have hclear := h.monitor
      rw [hmonitor] at hclear
      obtain ⟨hprobe, hqualify⟩ := h.timers
      refine ⟨h.state, h.progress.1, h.progress.2, hprobe, hqualify.trans (congrArg some hagent), by rw [hup]; rfl,
        by rw [hup]; rfl, by rw [hup]; rfl, by rw [hup]; rfl, by rw [hup]; rfl, by rw [hclear]; rfl, by rw [hclear]; rfl,
        by rw [hclear]; rfl, by rw [hclear]; rfl, hframe, hstand, hrest⟩
    · have hfails : classPasses (changeState i .probing (broughtUp i s)) i = false := by
        rw [(changeState_eventAt i .probing (broughtUp i s)).passes]
        exact Bool.eq_false_iff.mpr fun hpasses => (classPasses_iff.mp hpasses).elim hne hne'
      obtain ⟨h, hechoes, hbeacons, -⟩ := checkClass_faults hfails
      exact ⟨h.state, h.lastFault, hechoes, hbeacons, h.timers, h.link, hframe⟩

/-! Requests that bring a slot back (R28, R29). -/

theorem reseat_starts (i : SlotIx) (s : State) : (reseat i s).slots = (changeState i .seated s).slots
    ∧ ((reseat i s).links.get i).state = .training ∧ ((reseat i s).links.get i).attemptTimer = some 50
    ∧ ((reseat i s).links.get i).train = some ⟨if (s.slots.get i).rateMode = .half then .half else .full, 1,
        s.agent.trainingAttempts, (s.slots.get i).rateMode⟩ := by
  have hevent := changeState_eventAt i .seated s
  obtain ⟨-, -, -, -, -, hmode, -⟩ := hevent.settings
  have hagent : (changeState i .seated s).agent.trainingAttempts = s.agent.trainingAttempts :=
    hevent.proceeds.agent.settings.2.1
  obtain ⟨hstate, htimer, htrain⟩ := linkTrain_starts i (changeState i .seated s)
  rw [hmode, hagent] at htrain
  exact ⟨(linkTrain_links i _).slots_eq, hstate, htimer, htrain⟩

theorem changeState_lastFault (i : SlotIx) (new : SlotState) (s : State) :
    ((changeState i new s).slots.get i).lastFault = (s.slots.get i).lastFault := by
  rw [changeState_get_self]
  split <;> rfl

/-- A request whose effect is to seat the slot again. -/
theorem exec_reseats {c : Instr} {owner : State → Answer} (hexec : exec c s = .next (processRequest c owner s)) (h : Heads c s)
    (hkey : requestKey c = some (tag, code)) (hslot : slot.toNat = i.val + 1)
    (howner : owner (dropRequest s) = .accept (reseat i) fun s => slotResult s i) :
    ∃ t, exec c s = .next t ∧ Answers s t [tag, code, 0, slot, 1, 0, BitVec.ofNat 8 (s.slots.get i).weight]
      ∧ (t.slots.get i).state = .seated ∧ (t.slots.get i).lastFault = (s.slots.get i).lastFault
      ∧ (t.links.get i).state = .training ∧ (t.links.get i).attemptTimer = some 50
      ∧ (t.links.get i).train = some ⟨if (s.slots.get i).rateMode = .half then .half else .full, 1, s.agent.trainingAttempts,
          (s.slots.get i).rateMode⟩
      ∧ (∀ j, j ≠ i → t.slots.get j = s.slots.get j) ∧ SlotEventFrame i s t := by
  obtain ⟨t, ht, hnext, hanswers, hframe⟩ := exec_event hexec h hkey howner (reseat_eventAt i _)
  obtain ⟨hslots, hlink, htimer, htrain⟩ := reseat_starts i (accepting s)
  have hstate : ((reseat i (accepting s)).slots.get i).state = .seated := by
    rw [hslots]
    exact changeState_state ..
  have hweight : ((reseat i (accepting s)).slots.get i).weight = (s.slots.get i).weight := by
    obtain ⟨-, hweight, -⟩ := (reseat_eventAt i (accepting s)).settings
    exact hweight
  rw [slotResult_of hslot hstate, hweight] at hanswers
  subst ht
  refine ⟨_, hnext, hanswers, hstate, ?_, hlink, htimer, htrain, fun j hj => ?_, hframe⟩
  · show ((reseat i (accepting s)).slots.get i).lastFault = _
    rw [hslots]
    exact changeState_lastFault ..
  · show (reseat i (accepting s)).slots.get j = _
    rw [hslots]
    exact changeState_get_of_ne hj ..

/-- The link of a DRAINED slot has been resumed (R125). -/
theorem linkResume_of_parked (h : (s.links.get i).state = .parked) : linkResume i s = monitorLinkUp i (s.updLink i fun l =>
    { l with state := .up, lost := false, lockLossTimer := if l.lock then none else some 1000 }) := by
  simp only [linkResume, h]

/-- A DRAINED slot with a PARKED link as it is probed: its link is UP again. -/
theorem enterProbingFromDrained_resumed (hlink : (s.links.get i).state = .parked) :
    ∃ v, enterProbingFromDrained i id s = checkClass i v ∧ (v.slots.get i).state = .probing
      ∧ v.links.get i = { s.links.get i with
          state := .up, lost := false, lockLossTimer := if (s.links.get i).lock then none else some 1000 }
      ∧ EventAt i s v := by
  have hparked : ((id (changeState i .probing s)).links.get i).state = .parked := by rw [id, changeState_links, hlink]
  refine ⟨_, rfl, ?_, ?_, (changeState_eventAt i .probing s).trans (linkResume_eventAt i _)⟩
  · rw [(linkResume_links i _).slots_eq]
    exact changeState_state ..
  · rw [linkResume_of_parked hparked]
    refine (Table.get_modify_self ..).trans ?_
    rw [id, changeState_links]

theorem answerRequalify_drained (hslot : slot.toNat = i.val + 1) (h : (s.slots.get i).state = .drained) :
    answerRequalify slot s = .accept (enterProbingFromDrained i id) fun s => slotResult s i := by
  rw [answerRequalify, withSlot_of hslot]
  simp only [h]

theorem answerRequalify_faulted (hslot : slot.toNat = i.val + 1) (h : (s.slots.get i).state = .faulted) :
    answerRequalify slot s = if (s.ports.get i).power.accepted then .accept (reseat i) (fun s => slotResult s i)
      else .refuse .badState := by
  rw [answerRequalify, withSlot_of hslot]
  simp only [h]

theorem answerRequalify_refused (hslot : slot.toNat = i.val + 1) (hfaulted : (s.slots.get i).state ≠ .faulted)
    (hdrained : (s.slots.get i).state ≠ .drained) : answerRequalify slot s = .refuse .badState := by
  rw [answerRequalify, withSlot_of hslot]
  dsimp only
  split
  · next h => exact absurd h hdrained
  · next h => exact absurd h hfaulted
  all_goals rfl

theorem answerUnfence_of (hslot : slot.toNat = i.val + 1) : answerUnfence slot s
    = if (s.slots.get i).state = .fenced ∧ (s.ports.get i).power.accepted then .accept (reseat i) (fun s => slotResult s i)
      else .refuse .badState :=
  withSlot_of hslot _

/-- A DRAINED slot that is requalified is probed, or faulted for its class. -/
theorem exec_requalify_drained (h : Heads (.requalify tag slot) s) (hslot : slot.toNat = i.val + 1)
    (hstate : (s.slots.get i).state = .drained) (hlink : (s.links.get i).state = .parked) :
    let r := s.slots.get i
    let passes := r.expectedClass = 0 ∨ r.expectedClass = (s.ports.get i).bladeClass.accepted.toNat
    (passes → ∃ t, exec (.requalify tag slot) s = .next t
      ∧ Answers s t [tag, 0x09, 0, slot, 2, 0, BitVec.ofNat 8 r.weight]
      ∧ (t.slots.get i).state = .probing ∧ (t.slots.get i).echoes = 0 ∧ (t.slots.get i).beaconsQualified = false
      ∧ (t.slots.get i).probeTimer = some 50 ∧ (t.slots.get i).qualifyTimer = some s.agent.qualifyLimit
      ∧ (t.links.get i).state = .up ∧ (t.links.get i).lost = false
      ∧ (t.links.get i).train = (s.links.get i).train
      ∧ (t.links.get i).lockLossTimer = (if (s.links.get i).lock then none else some 1000)
      ∧ (t.links.get i).control = (s.links.get i).control ++ (List.finRange 8).map ControlFrame.probe
      ∧ SlotEventFrame i s t)
    ∧ (¬ passes → ∃ t, exec (.requalify tag slot) s = .next t
      ∧ Answers s t [tag, 0x09, 0, slot, 8, 0, BitVec.ofNat 8 r.weight]
      ∧ (t.slots.get i).state = .faulted ∧ (t.slots.get i).lastFault = some .classMismatch
      ∧ (t.slots.get i).echoes = 0 ∧ (t.slots.get i).beaconsQualified = false
      ∧ (t.links.get i).state = .dark ∧ SlotEventFrame i s t) := by
  intro r passes
  obtain ⟨v, hv, hprobing, hresumed, hevent⟩ := enterProbingFromDrained_resumed (s := accepting s) (i := i) hlink
  obtain ⟨t, ht, hnext, hanswers, hframe⟩ := exec_event (i := i) (owner := answerRequalify slot) rfl h rfl
    (answerRequalify_drained hslot hstate) (enterProbingFromDrained_eventAt i _ fun s => .refl i s)
  obtain ⟨-, hweight, -⟩ := hevent.settings
  rw [hv] at ht hanswers
  refine ⟨fun hpasses => ?_, fun hfails => ?_⟩
  · have h := checkClass_probes hprobing (hevent.passes.trans (classPasses_iff.mpr hpasses))
    have hlinks := h.link (by rw [hresumed]; rfl)
    rw [hresumed] at hlinks
    rw [slotResult_of hslot h.state, h.weight, hweight] at hanswers
    subst ht
    refine ⟨_, hnext, hanswers, h.state, h.progress.1, h.progress.2, h.timers.1, ?_, ?_, ?_, ?_, ?_, ?_, hframe⟩
    · exact h.timers.2.trans (congrArg some hevent.proceeds.agent.settings.1)
    · show ((checkClass i v).links.get i).state = _
      rw [hlinks]
    · show ((checkClass i v).links.get i).lost = _
      rw [hlinks]
    · show ((checkClass i v).links.get i).train = _
      rw [hlinks]
      rfl
    · show ((checkClass i v).links.get i).lockLossTimer = _
      rw [hlinks]
      rfl
    · show ((checkClass i v).links.get i).control = _
      rw [hlinks]
      rfl
  · have hno : classPasses v i = false :=
      hevent.passes.trans (Bool.eq_false_iff.mpr fun hpasses => hfails (classPasses_iff.mp hpasses))
    obtain ⟨h, hechoes, hbeacons, hsame⟩ := checkClass_faults hno
    rw [slotResult_of hslot h.state, hsame, hweight] at hanswers
    subst ht
    exact ⟨_, hnext, hanswers, h.state, h.lastFault, hechoes, hbeacons, h.link, hframe⟩

/-- Settles O49: both requests seat the slot again where its power is good, and a DRAINED slot is probed anew. -/
theorem unfenceAndRequalifyBringTheSlotBack : Obligations.UnfenceAndRequalifyBringTheSlotBack := by
  refine ⟨?_, fun s tag slot i hslot => ⟨fun h hstate => ?_, fun h hfaulted hdrained => ?_⟩,
    fun s tag slot i h hslot hstate hlink => exec_requalify_drained h hslot hstate hlink⟩
  · intro s tag slot i code hslot r c h hcode
    obtain ⟨rfl, hstate⟩ | ⟨rfl, hstate⟩ := hcode
    · have hanswer := answerUnfence_of (s := dropRequest s) hslot
      refine ⟨fun hpower => ?_, fun hpower => ?_⟩
      · exact exec_refused (owner := answerUnfence slot) (status := .badState) rfl h rfl
          (hanswer.trans (if_neg fun hgood => Bool.false_ne_true (hpower.symm.trans hgood.2)))
      · exact exec_reseats (owner := answerUnfence slot) rfl h rfl hslot (hanswer.trans (if_pos ⟨hstate, hpower⟩))
    · have hanswer := answerRequalify_faulted (s := dropRequest s) hslot hstate
      refine ⟨fun hpower => ?_, fun hpower => ?_⟩
      · exact exec_refused (owner := answerRequalify slot) (status := .badState) rfl h rfl
          (hanswer.trans (if_neg fun hgood => Bool.false_ne_true (hpower.symm.trans hgood)))
      · exact exec_reseats (owner := answerRequalify slot) rfl h rfl hslot (hanswer.trans (if_pos hpower))
  · exact exec_refused (owner := answerUnfence slot) (status := .badState) rfl h rfl
      ((answerUnfence_of hslot).trans (if_neg fun hgood => hstate hgood.1))
  · exact exec_refused (owner := answerRequalify slot) (status := .badState) rfl h rfl
      (answerRequalify_refused hslot hfaulted hdrained)

end Sys2Proof.Machine
end

section
/-! SUPPORT. Beacons from the blade (R128, R141, R143, R146). -/

namespace Sys2Proof.Machine

variable {s t : State} {i : SlotIx} {bytes : FrameBytes} {info : FrameInfo} {m : MonitorRecord}

theorem controlArrives_beacon (h : info.target = 1) :
    controlArrives i info s = if (s.links.get i).state = .up then beaconArrives i s else s := by
  simp [controlArrives, h]

theorem updMonitor_congr {f g : MonitorRecord → MonitorRecord} (h : f (s.monitors.get i) = g (s.monitors.get i)) :
    s.updMonitor i f = s.updMonitor i g :=
  congrArg (fun table => { s with monitors := table }) (Table.modify_congr s.monitors i h)

theorem updMonitor_id {f : MonitorRecord → MonitorRecord} (h : f (s.monitors.get i) = s.monitors.get i) : s.updMonitor i f = s :=
  congrArg (fun table => { s with monitors := table }) (Table.modify_id s.monitors i h)

/-! What a beacon leaves of a monitor (R141, R143, R146). -/

theorem beacon_idle (h : m.phase = .idle) : m.beacon = { m with phase := .counting, runningCount := 0, tickRemainder := 0 } := by
  simp only [MonitorRecord.beacon, h]

theorem beacon_frozen (h : m.phase = .frozen) : m.beacon = m := by simp only [MonitorRecord.beacon, h]

theorem beacon_counting (h : m.phase = .counting) : m.beacon = { m with
    latchedCount := max 1 m.runningCount, latchedSaturated := decide (m.runningCount = 255)
    run := m.judgedRun (max 1 m.runningCount) (decide (m.runningCount = 255)), runningCount := 0, tickRemainder := 0 } := by
  simp only [MonitorRecord.beacon, h]

theorem judgedRun_within (hcount : m.runningCount ≠ 255) (hlow : m.lowLimit ≤ max 1 m.runningCount)
    (hhigh : max 1 m.runningCount ≤ m.highLimit) :
    m.judgedRun (max 1 m.runningCount) (decide (m.runningCount = 255)) = min 4 (m.run + 1) := by
  refine if_pos ?_
  rw [MonitorRecord.withinLimits, decide_eq_false hcount, decide_eq_true ⟨hlow, hhigh⟩]
  rfl

theorem judgedRun_outside (h : m.runningCount = 255 ∨ max 1 m.runningCount < m.lowLimit ∨ m.highLimit < max 1 m.runningCount) :
    m.judgedRun (max 1 m.runningCount) (decide (m.runningCount = 255)) = 0 := by
  refine if_neg fun hwithin => ?_
  rw [MonitorRecord.withinLimits, Bool.and_eq_true, Bool.not_eq_true', decide_eq_false_iff_not, decide_eq_true_iff] at hwithin
  omega

/-- The beacons qualify with the fourth interval in a row within limits (R146). -/
theorem beaconQualifies_iff : m.beaconQualifies = true ↔ m.phase = .counting ∧ m.run = 3 ∧ m.runningCount ≠ 255
    ∧ m.lowLimit ≤ max 1 m.runningCount ∧ max 1 m.runningCount ≤ m.highLimit := by
  rw [MonitorRecord.beaconQualifies, decide_eq_true_iff]
  refine and_congr_right fun hphase => and_congr_right fun hrun => ?_
  rw [beacon_counting hphase]
  dsimp only
  by_cases h : m.runningCount ≠ 255 ∧ m.lowLimit ≤ max 1 m.runningCount ∧ max 1 m.runningCount ≤ m.highLimit
  · obtain ⟨hcount, hlow, hhigh⟩ := h
    rw [judgedRun_within hcount hlow hhigh, hrun]
    exact iff_of_true rfl ⟨hcount, hlow, hhigh⟩
  · rw [judgedRun_outside (by omega)]
    exact iff_of_false (by decide) h

/-! A beacon on an UP link (R128). -/

/-- The beacon has been counted and the monitor has taken it. -/
def beaconTaken (i : SlotIx) (s : State) : State := (bumpSlot i .beacons (slotReceived s i)).updMonitor i MonitorRecord.beacon

theorem exec_beacon (h : SlotFrame s i bytes info) (hkind : info.kind = .linkCtrl) (htarget : info.target = 1)
    (hup : (s.links.get i).state = .up) : exec (.slotRxEnd i .normal bytes) s
      = .next (if (s.monitors.get i).beaconQualifies then qualificationReported i (beaconTaken i s) else beaconTaken i s) := by
  have hlink : ((slotReceived s i).links.get i).state = .up := by
    rw [slotReceived, State.updLink_links, Table.get_modify_self, hup]
  rw [exec_slotRxEnd_passed h, sortFrame_linkCtrl hkind, controlArrives_beacon htarget, if_pos hlink]
  rfl

theorem qualificationReported_stays (h : (s.slots.get i).state ≠ .probing ∨ (s.slots.get i).beaconsQualified = true) :
    qualificationReported i s = s := by
  refine if_neg fun ⟨hstate, hnot⟩ => ?_
  obtain h | h := h
  · exact h hstate
  · exact Bool.false_ne_true (hnot.symm.trans h)

theorem exec_beacon_measures (h : SlotFrame s i bytes info) (hkind : info.kind = .linkCtrl) (htarget : info.target = 1)
    (hup : (s.links.get i).state = .up) (hnot : (s.slots.get i).state = .probing → (s.slots.get i).beaconsQualified = false →
      ¬ (s.monitors.get i).beaconQualifies = true) : exec (.slotRxEnd i .normal bytes) s = .next (beaconTaken i s) := by
  rw [exec_beacon h hkind htarget hup]
  refine congrArg Host.Outcome.next ?_
  split
  · next hqualifies =>
    refine qualificationReported_stays ?_
    by_cases hstate : (s.slots.get i).state = .probing
    · exact .inr (Bool.eq_true_of_not_eq_false fun hq => hnot hstate hq hqualifies)
    · exact .inl hstate
  · rfl

/-- Settles O15: what a beacon does to a monitor is a case of its phase, and a report that nobody waits for changes nothing. -/
theorem beaconsMeasureIntervals : Obligations.BeaconsMeasureIntervals := by
  refine ⟨fun s i bytes info h hkind htarget hparked => ?_, ?_⟩
  · have hlink : ((slotReceived s i).links.get i).state ≠ .up := by
      rw [slotReceived, State.updLink_links, Table.get_modify_self, hparked]
      nofun
    rw [exec_slotRxEnd_passed h, sortFrame_linkCtrl hkind, controlArrives_beacon htarget, if_neg hlink]
  · intro s i bytes info h hkind htarget hup m fourth hnot t
    have hexec := exec_beacon_measures h hkind htarget hup fun hstate hq hqualifies =>
      hnot hstate hq (beaconQualifies_iff.mp hqualifies)
    have hmonitor : t.monitors = s.monitors := rfl
    refine ⟨fun hphase => hexec.trans (congrArg Host.Outcome.next ?_), fun hphase => hexec.trans (congrArg Host.Outcome.next ?_),
      fun hphase _ => ⟨m.judgedRun (max 1 m.runningCount) (decide (m.runningCount = 255)),
        hexec.trans (congrArg Host.Outcome.next ?_), judgedRun_within, judgedRun_outside⟩⟩
    · exact updMonitor_congr (beacon_idle hphase)
    · exact updMonitor_id (beacon_frozen hphase)
    · refine updMonitor_congr ((beacon_counting hphase).trans ?_)
      have hlatched : max 1 m.runningCount = if m.runningCount = 0 then 1 else m.runningCount := by
        split <;> omega
      exact congrArg (fun n => { m with
        latchedCount := n
        latchedSaturated := decide (m.runningCount = 255)
        run := m.judgedRun (max 1 m.runningCount) (decide (m.runningCount = 255))
        runningCount := 0
        tickRemainder := 0 }) hlatched

end Sys2Proof.Machine
end

section
/-! SUPPORT. The flags that moves and reports leave as they are, and what a retirement leaves (R15, R34). -/

namespace Sys2Proof.Machine

variable {s t u : State} {p q : PoolIx} {i j : SlotIx} {b : BinIx} {e : EngineIx} {m : MoveRecord}

/-- A relation that holds of whatever leaves slots, links and agent alone, of a data transmission that ends, and of the two
reports of changed holdings, holds of all that ends moves or gives bins away (R7, R44, R49, R50, R73). -/
structure MembershipRelation (R : State → State → Prop) : Prop where
  trans : ∀ {s t u}, R s t → R t u → R s u
  still : ∀ {s t}, t.slots = s.slots → t.links = s.links → t.agent = s.agent → R s t
  transmission : ∀ i s, R s (abortData i s)
  admission : ∀ i s, R s (evaluateAdmission i s)
  confirmation : ∀ i s, R s (evaluateConfirmation i s)

theorem giveBins_frame (p : PoolIx) (gifts : List (BinIx × SlotIx)) (s : State) :
    ∃ pools, giveBins p gifts s = { s with pools := pools } := by
  have hgifts : ∃ pools, forEach (fun g s => s.updBin p g.1 fun b => { b with owner := .owned g.2 }) gifts s
      = { s with pools := pools } :=
    forEach_relates (R := fun s t => ∃ pools, t = { s with pools := pools }) (fun s => ⟨s.pools, rfl⟩)
      (fun _ _ _ ⟨_, h⟩ ⟨_, h'⟩ => ⟨_, by rw [h', h]⟩) (fun _ _ => ⟨_, rfl⟩) gifts s
  obtain ⟨_, hgifts⟩ := hgifts
  rw [giveBins, hgifts]
  exact ⟨_, rfl⟩

theorem giveAway_frame (p : PoolIx) (i : SlotIx) (s : State) : ∃ pools, giveAway p i s = { s with pools := pools } := by
  unfold giveAway
  split
  · exact ⟨_, rfl⟩
  · exact giveBins_frame ..

section
variable {R : State → State → Prop} (h : MembershipRelation R)
include h

theorem MembershipRelation.pools {s : State} (htouches : ∃ pools, t = { s with pools := pools }) : R s t := by
  obtain ⟨_, rfl⟩ := htouches
  exact h.still rfl rfl rfl

theorem MembershipRelation.frames (htouches : TouchesFrames s t) : R s t := by
  obtain ⟨_, _, _, _, rfl⟩ := htouches
  exact h.still rfl rfl rfl

theorem MembershipRelation.forEach {ι : Type} {f : ι → State → State} (hf : ∀ i s, R s (f i s)) (is : List ι) (s : State) :
    R s (forEach f is s) :=
  forEach_relates (fun _ => h.still rfl rfl rfl) (fun _ _ _ => h.trans) hf is s

theorem MembershipRelation.reportHoldings (i : SlotIx) (s : State) : R s (reportHoldings i s) :=
  h.trans (h.admission i s) (h.confirmation i _)

theorem MembershipRelation.recompute (p : PoolIx) (s : State) : R s (recompute p s) := by
  have htables : R s (recomputeTables p s) :=
    h.trans (h.pools ⟨_, rfl⟩ : R s (retarget p s)) (h.trans (h.pools (giveBins_frame ..)) (h.pools ⟨_, rfl⟩))
  unfold Machine.recompute
  split
  · exact h.trans htables (h.forEach h.reportHoldings _ _)
  · exact h.still rfl rfl rfl

theorem MembershipRelation.loseEligibility (i : SlotIx) (s : State) : R s (loseEligibility i s) := by
  unfold Machine.loseEligibility
  split
  · split
    · exact h.trans (h.frames (onMoves_frames abortMove_frames s)) (h.recompute _ _)
    · exact h.still rfl rfl rfl
  · exact h.still rfl rfl rfl

theorem MembershipRelation.evacuate (i : SlotIx) (s : State) : R s (evacuate i s) := by
  unfold Machine.evacuate
  split
  · exact h.still rfl rfl rfl
  · next p _ =>
    have hmoves := h.frames ((onMoves_frames (q := fun m => m.pool = p ∧ m.source = i) commitMove_frames s).trans
      (onMoves_frames (q := fun m => m.pool = p ∧ m.destination = i) abortMove_frames _))
    dsimp only
    generalize onMoves (fun m => m.pool = p ∧ m.destination = i) abortMove _ = v at hmoves
    have hgiven : R v (giveAway p i v) := h.pools (giveAway_frame p i v)
    have hplan : R (giveAway p i v) (rebuildPlan p (giveAway p i v)) := h.pools ⟨_, rfl⟩
    exact h.trans hmoves (h.trans hgiven (h.trans hplan (h.forEach h.reportHoldings _ _)))

theorem MembershipRelation.engineCommit (e : EngineIx) (m : MoveRecord) (s : State) : R s (engineCommit e m s) := by
  have hcommit := h.frames (commitMove_frames e m s)
  rw [Machine.engineCommit]
  generalize commitMove e m s = v at hcommit
  refine h.trans hcommit ?_
  unfold afterCommit
  split
  · exact h.recompute m.pool v
  · exact h.trans (h.reportHoldings m.source v) (h.reportHoldings m.destination _)

theorem MembershipRelation.lowerInflight (p : PoolIx) (b : BinIx) (s : State) : R s (lowerInflight p b s) := by
  have hlowered : R s (lowered p b s) := h.pools ⟨_, rfl⟩
  by_cases hdrains : ∃ e m, ((s.pools.get p).bins.get b).engine = some e ∧ s.engines.get e = some m ∧ m.phase = .draining
      ∧ ((s.pools.get p).bins.get b).inflight ≤ 1
  · obtain ⟨e, m, hengine, he, hphase, hlast⟩ := hdrains
    rw [lowerInflight_drains hengine he hphase hlast]
    refine h.trans hlowered ?_
    unfold drainEnd
    split
    · exact h.engineCommit e m _
    · exact h.still rfl rfl rfl
  · rw [lowerInflight_stays fun e m hengine he hphase hlast => hdrains ⟨e, m, hengine, he, hphase, hlast⟩]
    exact hlowered

theorem MembershipRelation.flushOne (i : SlotIx) (entry : EgressEntry) (s : State) : R s (flushOne i entry s) := by
  refine h.trans (h.still rfl rfl rfl : R s (bumpSlot i .flushed (popEgress i s))) ?_
  unfold Machine.flushOne reportLeft
  split
  · exact h.lowerInflight _ _ _
  · exact h.still rfl rfl rfl

theorem MembershipRelation.flushes (i : SlotIx) (s : State) :
    R s (Machine.forEach (Machine.flushOne i) (s.egress.get i) (abortData i s)) :=
  h.trans (h.transmission i s) (h.forEach (h.flushOne i) _ _)

theorem MembershipRelation.flushEgress (i : SlotIx) (s : State) : R s (flushEgress i s) :=
  h.trans (h.flushes i s) (h.confirmation i _)

end

/-! Flags. -/

/-- No flag of a slot but STATE_CHANGED differs. -/
structure FlagsStand (s t : State) : Prop where
  flag : ∀ j f, f ≠ .stateChanged → flagSet t j f = flagSet s j f

theorem FlagsStand.trans (h : FlagsStand s t) (h' : FlagsStand t u) : FlagsStand s u :=
  ⟨fun j f hf => (h'.flag j f hf).trans (h.flag j f hf)⟩

theorem FlagsStand.of_slots (h : t.slots = s.slots) : FlagsStand s t := ⟨fun j f _ => by rw [flagSet, flagSet, h]⟩

theorem FlagsStand.updSlot {f : SlotRecord → SlotRecord} (hf : (f (s.slots.get i)).attention = (s.slots.get i).attention) :
    FlagsStand s (s.updSlot i f) where
  flag j k _ := by
    rw [flagSet, flagSet, State.updSlot_slots, Table.get_modify]
    split
    · next h => rw [h, hf]
    · rfl

theorem changeState_flagsStand (i : SlotIx) (new : SlotState) (s : State) : FlagsStand s (changeState i new s) :=
  ⟨fun j _ hf => flagSet_changeState_of_ne hf i j new s⟩

theorem enterConfirming_flagsStand (i : SlotIx) (s : State) : FlagsStand s (enterConfirming i s) :=
  ((changeState_flagsStand i _ s).trans (.of_slots (askControl_slots i _ _))).trans (.updSlot rfl)

theorem flagsStand_membership : MembershipRelation FlagsStand where
  trans := .trans
  still hslots _ _ := .of_slots hslots
  transmission i s := .of_slots (by rw [abortData_frame]; rfl)
  admission i s := by
    unfold evaluateAdmission
    split
    · exact changeState_flagsStand ..
    · exact .of_slots rfl
  confirmation i s := by
    unfold evaluateConfirmation
    split
    · exact enterConfirming_flagsStand ..
    · exact .of_slots rfl

/-! Owners through the loss of eligibility and a retirement (R15, R49). -/

theorem abortMove_keepsOwner (e : EngineIx) (m : MoveRecord) (s : State) (q : PoolIx) (b : BinIx) :
    (((abortMove e m s).pools.get q).bins.get b).owner = ((s.pools.get q).bins.get b).owner := by
  have hrelease := (releaseHold_stand m.source m.pool m.bin m.hold s).owner q b
  refine Eq.trans ?_ hrelease
  show (((bumpPool m.pool .abortedMoves 1 (freeEngine e m _)).pools.get q).bins.get b).owner = _
  rw [(bumpPool_stand ..).owner, freeEngine_bin]
  split <;> rfl

/-- A slot that loses its eligibility keeps the bins it owns (R49). -/
theorem loseEligibility_keepsOwned (h : ((s.pools.get q).bins.get b).owner ≠ .unowned) (i : SlotIx) :
    (((loseEligibility i s).pools.get q).bins.get b).owner = ((s.pools.get q).bins.get b).owner := by
  unfold loseEligibility
  split
  · next p _ =>
    split
    · have habort := onMoves_keeps (s := s) (sel := fun m => m.pool = p ∧ m.destination = i) (f := abortMove)
        (P := fun t => ((t.pools.get q).bins.get b).owner = ((s.pools.get q).bins.get b).owner)
        (fun e m t ht _ _ => (abortMove_keepsOwner e m t q b).trans ht) rfl
      obtain ho | ⟨-, -, hu, -⟩ := recompute_owner p q (onMoves (fun m => m.pool = p ∧ m.destination = i) abortMove s) b
      · exact ho.trans habort
      · exact absurd (habort.symm.trans hu) h
    · rfl
  · rfl

theorem retiring_follows {old new : SlotState} (h : StateFollows old new) (hold : ∃ phase, old = .retiring phase) :
    ∃ phase, new = .retiring phase := by
  obtain ⟨phase, rfl⟩ := hold
  obtain rfl | ⟨hc, -⟩ | ⟨-, rfl⟩ := h
  · exact ⟨phase, rfl⟩
  · cases hc
  · exact ⟨_, rfl⟩

/-- A slot that begins to retire is RETIRING, keeps its bins, and has the flags that its cause raises (R15). -/
theorem enterRetiring_keeps {flags : State → State} (hpools : ∀ s, (flags s).pools = s.pools)
    (hstate : ∀ s, ((flags s).slots.get i).state = (s.slots.get i).state) :
    (∃ phase, ((enterRetiring i flags id s).slots.get i).state = .retiring phase)
      ∧ (∀ q b, ((s.pools.get q).bins.get b).owner ≠ .unowned →
        (((enterRetiring i flags id s).pools.get q).bins.get b).owner = ((s.pools.get q).bins.get b).owner)
      ∧ FlagsStand (flags (changeState i (.retiring .moving) s)) (enterRetiring i flags id s) := by
  have hchange : ((flags (changeState i (.retiring .moving) s)).slots.get i).state = .retiring .moving :=
    (hstate _).trans (changeState_state ..)
  set v := flags (changeState i (.retiring .moving) s) with hv
  have hmove : v.pools = s.pools := (hpools _).trans (changeState_members i _ s).pools_eq
  set w := v.updSlot i fun r => { r with deadlineTimer := if r.retireDeadline = 0 then none else some (1000 * r.retireDeadline) }
  have hw : (w.slots.get i).state = .retiring .moving := (congrArg SlotRecord.state (Table.get_modify_self ..)).trans hchange
  refine ⟨?_, fun q b ho => ?_, ?_⟩
  · exact retiring_follows ((evaluateConfirmation_follows i _).slots i).state
      (retiring_follows ((loseEligibility_follows i w).slots i).state ⟨_, hw⟩)
  · have hwb : ((w.pools.get q).bins.get b).owner = ((s.pools.get q).bins.get b).owner := by
      show ((v.pools.get q).bins.get b).owner = _
      rw [hmove]
    exact ((evaluateConfirmation_stand i _).owner q b).trans ((loseEligibility_keepsOwned (hwb ▸ ho) i).trans hwb)
  · exact (FlagsStand.updSlot (s := v) rfl).trans ((flagsStand_membership.loseEligibility i w).trans (flagsStand_membership.confirmation i _))

/-- An automatic retirement raises LAST_MEMBER for a last member alone (R17). -/
theorem retireAutomatically_alone {flags : State → State} (hpools : ∀ s, (flags s).pools = s.pools)
    (hstate : ∀ s, ((flags s).slots.get i).state = (s.slots.get i).state)
    (hflags : ∀ s, flagSet (flags s) i .lastMember = flagSet s i .lastMember) :
    RetiresAlone i s (retireAutomatically i flags s) := by
  unfold retireAutomatically
  dsimp only
  obtain ⟨hphase, howner, hstand⟩ := enterRetiring_keeps (i := i) (s := s)
    (flags := fun s => if isLastMember _ i then raiseFlag i .lastMember (flags s) else flags s)
    (fun u => by
      split
      · exact (raiseFlag_members i _ _).pools_eq.trans (hpools u)
      · exact hpools u)
    (fun u => by
      split
      · exact (raiseFlag_state i i _ _).trans (hstate u)
      · exact hstate u)
  refine ⟨hphase, fun p b ho => (howner p b (by rw [ho]; nofun)).trans ho, fun hlast => ?_, fun hlast => ?_⟩
  · rw [hstand.flag i .lastMember (by decide), if_pos hlast]
    exact flagSet_raiseFlag ..
  · rw [hstand.flag i .lastMember (by decide), if_neg (by rw [hlast]; exact Bool.false_ne_true), hflags]
    exact flagSet_changeState_of_ne (by decide) ..

end Sys2Proof.Machine
end

section
/-! SUPPORT. Saturation, the alarm with the slot's alarm policy, and CLEAR_ALARM (R26, R142, R144, R148). -/

namespace Sys2Proof.Machine

variable {s t u : State} {p q : PoolIx} {i j : SlotIx} {m : MonitorRecord}

/-! What a retirement says of the state before the flags were raised. -/

theorem BinsStand.isLastMember (h : BinsStand s t) (i : SlotIx) : isLastMember t i = isLastMember s i := by
  have hmembers (p : PoolIx) : eligibleMembers t p = eligibleMembers s p :=
    List.filter_congr fun j _ => (h.pool p).eligible j
  obtain ⟨hpool, -⟩ := role_iff.mp (h.roles i)
  rw [Bool.eq_iff_iff, isLastMember_iff, isLastMember_iff, hpool]
  refine exists_congr fun p => and_congr_right fun _ => ?_
  obtain ⟨henabled, -⟩ := tables_iff.mp (h.tables p)
  rw [henabled, hmembers]

theorem RetiresAlone.of_stand (h : BinsStand s u) (hflag : flagSet u i .lastMember = flagSet s i .lastMember)
    (halone : RetiresAlone i u t) : RetiresAlone i s t where
  state := halone.state
  bins p b ho := halone.bins p b ((h.owner p b).trans ho)
  last hlast := halone.last ((h.isLastMember i).trans hlast)
  among hlast := (halone.among ((h.isLastMember i).trans hlast)).trans hflag

theorem getLsbD_flagMask_of_ne {f g : SlotFlag} (h : f ≠ g) : (flagMask g).getLsbD (flagBit f) = false := by
  revert h
  cases f <;> cases g <;> decide

theorem flagSet_raiseFlag_of_ne {f g : SlotFlag} (h : f ≠ g) (i j : SlotIx) (s : State) :
    flagSet (raiseFlag i g s) j f = flagSet s j f := by
  obtain ⟨-, hraise⟩ | ⟨-, a, hraise⟩ := raiseFlag_cases i g s
  · rw [hraise]
  · rw [hraise, flagSet, flagSet]
    show (((s.updSlot i _).slots.get j).attention).getLsbD _ = _
    rw [State.updSlot_slots, Table.get_modify]
    split
    · next hj =>
      rw [hj, BitVec.getLsbD_or, getLsbD_flagMask_of_ne h, Bool.or_false]
    · rfl

/-! The monitor record (R142, R144, R148). -/

theorem saturate_at (h : m.runningCount = 255) : m.saturate = { m with latchedCount := 255, latchedSaturated := true, run := 0 } := by
  rw [MonitorRecord.saturate, MonitorRecord.atLimit, if_pos h]

theorem freeze_at (h : m.runningCount = m.alarmLimit) : m.freeze = { m with
    latchedCount := m.alarmLimit, latchedSaturated := decide (m.alarmLimit = 255), phase := .frozen, run := 0 } := by
  rw [MonitorRecord.freeze, MonitorRecord.atLimit, if_pos h]

theorem endAlarm_frozen (h : m.phase = .frozen) : m.endAlarm = { m with
    phase := if m.linkRunning then .counting else .idle, runningCount := 0, tickRemainder := 0 } :=
  if_pos (decide_eq_true h)

theorem endAlarm_unraised (h : m.phase ≠ .frozen) : m.endAlarm = m :=
  if_neg (by rw [MonitorRecord.alarmRaised, decide_eq_false h]; exact Bool.false_ne_true)

theorem linkDown_frozen (h : m.phase = .frozen) : m.linkDown = { m with linkRunning := false } := by
  simp only [MonitorRecord.linkDown, h]

/-- A link that drops what it was doing tells its monitor, if at all, that it runs no longer (R121, R140). -/
theorem dropLink_reports (i : SlotIx) (s : State) : (dropLink i s).monitors.get i = s.monitors.get i
    ∨ (dropLink i s).monitors.get i = (s.monitors.get i).linkDown := by
  unfold dropLink
  split
  · refine .inr (Eq.trans (Table.get_modify_self ..) (congrArg MonitorRecord.linkDown ?_))
    exact congrArg (Table.get · i) (cutReception_monitors i s)
  · exact .inl (congrArg (Table.get · i) (cutReception_monitors ..))
  · exact .inl rfl
  · exact .inl rfl

theorem linkGoDark_monitor (i : SlotIx) (s : State) : (linkGoDark i s).monitors.get i = s.monitors.get i
    ∨ (linkGoDark i s).monitors.get i = (s.monitors.get i).linkDown := by
  unfold linkGoDark
  split
  · exact .inl rfl
  all_goals exact dropLink_reports i s

/-- What an alarm leaves of the monitor, whatever the policy does (R144). -/
structure Alarmed (m m' : MonitorRecord) : Prop where
  phase : m'.phase = .frozen
  count : m'.latchedCount = m.alarmLimit
  saturated : m'.latchedSaturated = decide (m.alarmLimit = 255)
  run : m'.run = 0
  running : m'.runningCount = m.runningCount
  remainder : m'.tickRemainder = m.tickRemainder

theorem Alarmed.freeze (h : m.runningCount = m.alarmLimit) : Alarmed m m.freeze := by
  rw [freeze_at h]
  exact ⟨rfl, rfl, rfl, rfl, rfl, rfl⟩

theorem Alarmed.linkDown {m' : MonitorRecord} (h : Alarmed m m') : Alarmed m m'.linkDown := by
  rw [linkDown_frozen h.phase]
  exact ⟨h.phase, h.count, h.saturated, h.run, h.running, h.remainder⟩

theorem enterFaulted_alarmed (cause : FaultCause) (h : Alarmed m (s.monitors.get i)) :
    Alarmed m ((enterFaulted i cause s).monitors.get i) := by
  have hrecorded : (faultRecorded i cause s).monitors = s.monitors := (faultRecorded_members i cause s).monitors_eq
  rw [enterFaulted_eq, depart_monitors]
  obtain hdark | hdark := linkGoDark_monitor i (faultRecorded i cause s) <;> rw [hdark, hrecorded]
  · exact h
  · exact h.linkDown

theorem alarmReported_alarmed (h : Alarmed m (s.monitors.get i)) : Alarmed m ((alarmReported i s).monitors.get i) := by
  unfold alarmReported
  dsimp only
  split_ifs
  · exact enterFaulted_alarmed _ h
  · rw [(retireAutomatically_traffic (flags := id) TouchesMembers.refl i s).monitors_eq]
    exact h
  · exact h

/-! The alarm reaches lifecycle (R26). -/

/-- The monitor has frozen and the alarm is raised. -/
def alarmRaised (i : SlotIx) (s : State) : State := raiseFlag i .beaconAlarm (s.updMonitor i MonitorRecord.freeze)

theorem exec_beaconAlarm (hphase : (s.monitors.get i).phase = .counting) (hmode : (s.monitors.get i).mode = .alarm) :
    exec (.beaconAlarm i) s = .next (alarmReported i (alarmRaised i s)) :=
  congrArg Host.Outcome.next (if_pos ⟨hphase, hmode⟩)

theorem alarmRaised_record (i : SlotIx) (s : State) : ∃ a, (alarmRaised i s).slots.get i = { s.slots.get i with attention := a } := by
  obtain ⟨slots, agent, hraise, hslots⟩ := raiseFlag_frame i .beaconAlarm (s.updMonitor i MonitorRecord.freeze)
  rw [alarmRaised, hraise]
  exact hslots i

theorem alarmRaised_stand (i : SlotIx) (s : State) : BinsStand s (alarmRaised i s) :=
  BinsStand.trans (t := s.updMonitor i MonitorRecord.freeze) (.of_eq rfl rfl rfl) (raiseFlag_stand i _ _)

theorem alarmRaised_frame (i : SlotIx) (s : State) : alarmRaised i s = { s with
    slots := (alarmRaised i s).slots, monitors := (alarmRaised i s).monitors, agent := (alarmRaised i s).agent } := by
  obtain ⟨slots, agent, hraise, -⟩ := raiseFlag_frame i .beaconAlarm (s.updMonitor i MonitorRecord.freeze)
  rw [alarmRaised, hraise]
  rfl

/-! CLEAR_ALARM (R148). -/

theorem exec_clearAlarm {tag slot : Byte} {f : MonitorRecord → MonitorRecord} (h : Heads (.clearAlarm tag slot) s)
    (hslot : slot.toNat = i.val + 1) (hf : (s.monitors.get i).endAlarm = f (s.monitors.get i)) :
    exec (.clearAlarm tag slot) s = .next ((answered s [tag, 0x0B, 0, slot,
      byteOf (monitorPhaseCode (f (s.monitors.get i)).phase), flagByte (f (s.monitors.get i)).alarmRaised,
      byteOf (f (s.monitors.get i)).latchedCount]).updMonitor i f) := by
  rw [exec_effect rfl h rfl (withSlot_of hslot _) rfl, alarmResult, State.updMonitor_monitors, Table.get_modify_self,
    slotByte_of hslot, ← hf]
  refine congrArg Host.Outcome.next (Eq.trans ?_ (updMonitor_congr (s := answered s [tag, 0x0B, 0, slot,
    byteOf (monitorPhaseCode (s.monitors.get i).endAlarm.phase), flagByte (s.monitors.get i).endAlarm.alarmRaised,
    byteOf (s.monitors.get i).endAlarm.latchedCount]) hf))
  rfl

/-- Settles O39: the two events at their limits, the policy by its branches, and CLEAR_ALARM by the phase. -/
theorem monitorsSaturateAlarmAndClear : Obligations.MonitorsSaturateAlarmAndClear := by
  refine ⟨?_, ?_, ?_⟩
  · intro s i m hphase hmode hcount
    refine congrArg Host.Outcome.next ((if_pos ⟨hphase, hmode⟩).trans ?_)
    exact updMonitor_congr (saturate_at hcount)
  · intro s i m r hphase hmode hcount
    obtain ⟨a, hrecord⟩ := alarmRaised_record i s
    have hflag : flagSet (alarmRaised i s) i .beaconAlarm = true := flagSet_raiseFlag ..
    have hevent : EventAt i s (alarmRaised i s) := (EventAt.updMonitor i _ s).trans (raiseFlag_eventAt i _ _)
    have hreport := alarmReported_eventAt i (alarmRaised i s)
    have hmonitor : (alarmRaised i s).monitors.get i = m.freeze := by
      rw [alarmRaised, (raiseFlag_members i _ _).monitors_eq, State.updMonitor_monitors, Table.get_modify_self]
    obtain ⟨hfrozen, hlatched, hsaturated, hrun, hrunning, hremainder⟩ :=
      alarmReported_alarmed (i := i) (s := alarmRaised i s) (m := m) (hmonitor ▸ .freeze hcount)
    refine ⟨_, exec_beaconAlarm hphase hmode, hreport.proceeds.flags i _ hflag, (hevent.trans hreport).frame,
      hfrozen, hlatched, hsaturated, hrun, hrunning, hremainder, fun hkeeps hstays => ?_, fun hholding hevacuate => ?_,
      fun hkeeps helig hretire => ?_⟩
    · have hnone : alarmReported i (alarmRaised i s) = alarmRaised i s := by
        rw [alarmReported, hrecord]
        refine (if_neg fun h => ?_).trans (if_neg fun h => ?_)
        · exact Bool.false_ne_true (hkeeps.elim (·.symm.trans h.1) (·.symm.trans h.2))
        · exact Bool.false_ne_true (hstays.elim (·.symm.trans h.1) (·.symm.trans h.2))
      rw [hnone, hrecord]
      exact ⟨rfl, alarmRaised_frame i s⟩
    · have hfaults := enterFaulted_faults i .beaconAlarm (alarmRaised i s)
      have heq : alarmReported i (alarmRaised i s) = enterFaulted i .beaconAlarm (alarmRaised i s) := by
        rw [alarmReported, hrecord]
        exact if_pos ⟨hholding, hevacuate⟩
      rw [heq]
      exact ⟨hfaults.state, hfaults.lastFault, hfaults.link⟩
    · have heq : alarmReported i (alarmRaised i s) = retireAutomatically i id (alarmRaised i s) := by
        rw [alarmReported, hrecord]
        exact (if_neg fun h => Bool.false_ne_true (hkeeps.symm.trans h.2)).trans (if_pos ⟨helig, hretire⟩)
      rw [heq]
      exact .of_stand (alarmRaised_stand i s) (flagSet_raiseFlag_of_ne (by decide) ..)
        (retireAutomatically_alone (fun _ => rfl) (fun _ => rfl) fun _ => rfl)
  · intro s tag slot i h hslot m
    have hunraised (hphase : m.phase ≠ .frozen) : exec (.clearAlarm tag slot) s = .next (answered s [tag, 0x0B, 0, slot,
        byteOf (monitorPhaseCode m.phase), flagByte m.alarmRaised, byteOf m.latchedCount]) :=
      (exec_clearAlarm (f := id) h hslot (endAlarm_unraised hphase)).trans (congrArg Host.Outcome.next (updMonitor_id rfl))
    refine ⟨fun hphase => (exec_clearAlarm (f := fun m => { m with
        phase := if m.linkRunning then .counting else .idle, runningCount := 0, tickRemainder := 0 }) h hslot
        (endAlarm_frozen hphase)).trans ?_, fun hphase => ?_, fun hphase => ?_⟩
    · dsimp only
      cases hrunning : m.linkRunning <;> rfl
    · rw [hunraised (by rw [hphase]; nofun), MonitorRecord.alarmRaised, hphase]
      rfl
    · rw [hunraised (by rw [hphase]; nofun), MonitorRecord.alarmRaised, hphase]
      rfl

end Sys2Proof.Machine
end

section
/-! SUPPORT. How a retiring slot comes to CONFIRMING, and where bins go as moves end (R18, R45, R50, R71, R96). -/

namespace Sys2Proof.Machine

variable {s t u : State} {p q : PoolIx} {i j : SlotIx} {b : BinIx} {e : EngineIx} {m : MoveRecord}

/-! Entry to CONFIRMING through the reports that end a retirement's moves (R18). -/

/-- Slot `i` has entered CONFIRMING. -/
structure Confirmed (i : SlotIx) (s t : State) : Prop where
  state : (t.slots.get i).state = .retiring .confirming
  ack : (t.slots.get i).ackTimer = some s.agent.ackTimeout
  deadline : (t.slots.get i).deadlineTimer = none
  notice : (s.links.get i).carries = true → .retireNotice ∈ (t.links.get i).control

/-- A retiring slot stands but that it may have entered CONFIRMING, and a notice that waits goes on waiting. -/
structure ConfirmsAt (i : SlotIx) (s t : State) : Prop where
  timeout : t.agent.ackTimeout = s.agent.ackTimeout
  carries : (t.links.get i).carries = (s.links.get i).carries
  notice : .retireNotice ∈ (s.links.get i).control → .retireNotice ∈ (t.links.get i).control
  confirmed : (s.slots.get i).state = .retiring .confirming → t.slots.get i = s.slots.get i
  moving : (s.slots.get i).state = .retiring .moving → t.slots.get i = s.slots.get i ∨ Confirmed i s t

theorem ConfirmsAt.trans (h : ConfirmsAt i s t) (h' : ConfirmsAt i t u) : ConfirmsAt i s u where
  timeout := h'.timeout.trans h.timeout
  carries := h'.carries.trans h.carries
  notice hn := h'.notice (h.notice hn)
  confirmed hc := (h'.confirmed (by rw [h.confirmed hc, hc])).trans (h.confirmed hc)
  moving hm := by
    obtain hsame | hconfirmed := h.moving hm
    · obtain hsame' | hconfirmed := h'.moving (by rw [hsame, hm])
      · exact .inl (hsame'.trans hsame)
      · exact .inr ⟨hconfirmed.state, h.timeout ▸ hconfirmed.ack, hconfirmed.deadline,
          fun hc => hconfirmed.notice (h.carries.trans hc)⟩
    · have hslot := h'.confirmed hconfirmed.state
      exact .inr ⟨hslot ▸ hconfirmed.state, hslot ▸ hconfirmed.ack, hslot ▸ hconfirmed.deadline,
        fun hc => h'.notice (hconfirmed.notice hc)⟩

theorem ConfirmsAt.of_eq (hslot : t.slots.get i = s.slots.get i) (hagent : t.agent.ackTimeout = s.agent.ackTimeout)
    (hcarries : (t.links.get i).carries = (s.links.get i).carries) (hcontrol : (t.links.get i).control = (s.links.get i).control) :
    ConfirmsAt i s t :=
  ⟨hagent, hcarries, fun h => hcontrol ▸ h, fun _ => hslot, fun _ => .inl hslot⟩

theorem enterConfirming_links (i : SlotIx) (s : State) :
    (enterConfirming i s).links = (askControl i .retireNotice s).links := by
  have hlinks : (changeState i (.retiring .confirming) s).links = s.links := changeState_links ..
  show (askControl i .retireNotice (changeState i (.retiring .confirming) s)).links = _
  unfold askControl
  rw [hlinks]
  split
  · rw [State.updLink_links, State.updLink_links, hlinks]
  · exact hlinks

theorem askControl_carries (i j : SlotIx) (f : ControlFrame) (s : State) :
    ((askControl j f s).links.get i).carries = (s.links.get i).carries := by
  unfold askControl
  split
  · rw [State.updLink_links, Table.get_modify]
    split
    · next h => rw [h]; rfl
    · rfl
  · rfl

theorem askControl_keepsNotice (i j : SlotIx) (s : State) (h : .retireNotice ∈ (s.links.get i).control) :
    .retireNotice ∈ ((askControl j .retireNotice s).links.get i).control := by
  unfold askControl
  split
  · rw [State.updLink_links, Table.get_modify]
    split
    · exact notice_mem_joinControl (.inl rfl) _
    · exact h
  · exact h

theorem enterConfirming_confirmsAt (hstate : (s.slots.get j).state = .retiring .moving) (i : SlotIx) :
    ConfirmsAt i s (enterConfirming j s) := by
  obtain ⟨-, -, htimeout⟩ := (enterConfirming_follows hstate).proceeds.agent.settings
  have hlinks := enterConfirming_links j s
  refine ⟨htimeout, by rw [hlinks, askControl_carries], fun h => ?_, fun hc => ?_, fun hm => ?_⟩
  · rw [hlinks]
    exact askControl_keepsNotice i j s h
  · exact enterConfirming_get_of_ne (fun hi => by rw [hi, hstate] at hc; cases hc) s
  · obtain rfl | hne := eq_or_ne i j
    · refine .inr ⟨enterConfirming_state i s, by rw [enterConfirming_get_self], by rw [enterConfirming_get_self], fun hc => ?_⟩
      rw [hlinks]
      exact askControl_notice (.inl rfl) hc
    · exact .inl (enterConfirming_get_of_ne hne s)

theorem confirmsAt_membership (i : SlotIx) : MembershipRelation (ConfirmsAt i) where
  trans := .trans
  still hslots hlinks hagent := .of_eq (by rw [hslots]) (by rw [hagent]) (by rw [hlinks]) (by rw [hlinks])
  transmission j s := by
    rw [abortData_frame]
    refine .of_eq rfl rfl ?_ ?_ <;> rw [State.updLink_links, Table.get_modify] <;> split <;> rename_i h <;> simp [h, LinkRecord.carries]
  admission j s := by
    unfold evaluateAdmission
    split
    · next h =>
      have hlinks : (changeState j .inService s).links = s.links := changeState_links ..
      obtain ⟨-, -, htimeout⟩ := (changeState_eventAt j .inService s).proceeds.agent.settings
      have hstands (hi : (s.slots.get i).state ≠ .admitting) : (changeState j .inService s).slots.get i = s.slots.get i :=
        changeState_get_of_ne (fun hij => hi (by rw [hij]; exact h.1)) ..
      exact ⟨htimeout, by rw [hlinks], fun hn => by rw [hlinks]; exact hn, fun hc => hstands (by rw [hc]; nofun),
        fun hm => .inl (hstands (by rw [hm]; nofun))⟩
    · exact .of_eq rfl rfl rfl rfl
  confirmation j s := by
    unfold evaluateConfirmation
    split
    · next h => exact enterConfirming_confirmsAt h.1 i
    · exact .of_eq rfl rfl rfl rfl

/-! Bins that change hands as moves end (R45, R71). -/

/-- Slot `i` is in no move and cannot receive a bin. -/
structure Quiet (i : SlotIx) (s : State) : Prop where
  ineligible : (s.slots.get i).state.eligible = false
  still : inActiveMove s i = false

/-- A bin stands with its owner or is given to a slot, and not to slot `i` while that is quiet. -/
structure Gives (i : SlotIx) (s t : State) : Prop where
  quiet : Quiet i s → Quiet i t
  owner : ∀ q b, ((t.pools.get q).bins.get b).owner = ((s.pools.get q).bins.get b).owner
    ∨ ∃ j, ((t.pools.get q).bins.get b).owner = .owned j ∧ (Quiet i s → j ≠ i)

theorem Gives.trans (h : Gives i s t) (h' : Gives i t u) : Gives i s u where
  quiet hq := h'.quiet (h.quiet hq)
  owner q b := by
    obtain hsame | ⟨j, hj, hne⟩ := h'.owner q b
    · rw [hsame]
      exact h.owner q b
    · exact .inr ⟨j, hj, fun hq => hne (h.quiet hq)⟩

theorem inActiveMove_false_iff : inActiveMove s i = false ↔
    ∀ e m, s.engines.get e = some m → m.source ≠ i ∧ m.destination ≠ i := by
  rw [inActiveMove, List.any_eq_false]
  refine ⟨fun h e m hm => ?_, fun h e _ => ?_⟩
  · have he := h e (List.mem_finRange e)
    simpa [hm] using he
  · cases hm : s.engines.get e with
    | none => simp
    | some m => simpa using h e m hm

theorem BinsStand.gives (h : BinsStand s t) (i : SlotIx) : Gives i s t where
  quiet hq := by
    obtain ⟨-, -, helig, -⟩ := role_iff.mp (h.roles i)
    refine ⟨helig.trans hq.ineligible, inActiveMove_false_iff.mpr fun e m hm => ?_⟩
    obtain ⟨m', hm', -, -, hsource, hdest⟩ := course_exists h.courses hm
    obtain ⟨hs, hd⟩ := inActiveMove_false_iff.mp hq.still e m' hm'
    exact ⟨hsource ▸ hs, hdest ▸ hd⟩
  owner q b := .inl (h.owner q b)

theorem Quiet.of_eq (h : Quiet i s) (heligible : (t.slots.get i).state.eligible = (s.slots.get i).state.eligible)
    (hengines : ∀ e m, t.engines.get e = some m → ∃ m', s.engines.get e = some m' ∧ m.source = m'.source ∧ m.destination = m'.destination) :
    Quiet i t := by
  refine ⟨heligible.trans h.ineligible, inActiveMove_false_iff.mpr fun e m hm => ?_⟩
  obtain ⟨m', hm', hsource, hdest⟩ := hengines e m hm
  rw [hsource, hdest]
  exact inActiveMove_false_iff.mp h.still e m' hm'

theorem recompute_gives (p : PoolIx) (i : SlotIx) (s : State) : Gives i s (recompute p s) where
  quiet hq := by
    obtain ⟨-, -, helig, -⟩ := role_iff.mp ((recompute_follows p s).slots i).role
    exact hq.of_eq helig fun e m hm => ⟨m, by rwa [recompute_engines] at hm, rfl, rfl⟩
  owner q b := by
    obtain hsame | ⟨-, -, -, j, hj, ho⟩ := recompute_owner p q s b
    · exact .inl hsame
    · refine .inr ⟨j, ho, fun hq hi => ?_⟩
      rw [hi, isEligible_false hq.ineligible] at hj
      exact Bool.false_ne_true hj

theorem commitMove_gives (he : s.engines.get e = some m) (i : SlotIx) : Gives i s (commitMove e m s) where
  quiet hq := by
    obtain ⟨_, _, _, _, hframe⟩ := commitMove_frames e m s
    refine hq.of_eq (by rw [hframe]) fun e' m' hm' => ?_
    rw [commitMove_engines] at hm'
    split_ifs at hm'
    exact ⟨m', hm', rfl, rfl⟩
  owner q b := by
    rw [commitMove_owner]
    split
    · exact .inr ⟨_, rfl, fun hq => (inActiveMove_false_iff.mp hq.still e m he).2⟩
    · exact .inl rfl

theorem engineCommit_gives (he : s.engines.get e = some m) (i : SlotIx) : Gives i s (engineCommit e m s) := by
  refine (commitMove_gives he i).trans ?_
  show Gives i _ (afterCommit m (commitMove e m s))
  unfold afterCommit
  split
  · exact recompute_gives ..
  · exact ((reportHoldings_stand ..).trans (reportHoldings_stand ..)).gives i

theorem drainEnd_gives (he : s.engines.get e = some m) (i : SlotIx) : Gives i s (drainEnd e m s) := by
  unfold drainEnd
  split
  · exact engineCommit_gives he i
  · refine (BinsStand.setEngine e ?_).gives i
    rw [he]
    rfl

theorem lowerInflight_gives (p : PoolIx) (b : BinIx) (i : SlotIx) (s : State) : Gives i s (lowerInflight p b s) := by
  have hlower : Gives i s (lowered p b s) := (BinsStand.updBin (f := fun r => { r with inflight := r.inflight - 1 }) p b fun _ => rfl).gives i
  by_cases hdrains : ∃ e m, ((s.pools.get p).bins.get b).engine = some e ∧ s.engines.get e = some m ∧ m.phase = .draining
      ∧ ((s.pools.get p).bins.get b).inflight ≤ 1
  · obtain ⟨e, m, hengine, he, hphase, hlast⟩ := hdrains
    rw [lowerInflight_drains hengine he hphase hlast]
    exact hlower.trans (drainEnd_gives (s := lowered p b s) he i)
  · rw [lowerInflight_stays fun e m hengine he hphase hlast => hdrains ⟨e, m, hengine, he, hphase, hlast⟩]
    exact hlower

theorem flushes_gives (i : SlotIx) (s : State) : Gives i s (forEach (flushOne i) (s.egress.get i) (abortData i s)) := by
  refine ((abortData_stand i s).gives i).trans
    (forEach_relates (fun v => (BinsStand.refl v).gives i) (fun _ _ _ => .trans) (fun entry v => ?_) _ _)
  refine ((BinsStand.of_eq rfl rfl rfl : BinsStand v (bumpSlot i .flushed (popEgress i v))).gives i).trans ?_
  unfold flushOne reportLeft
  split
  · exact lowerInflight_gives _ _ i _
  · exact (BinsStand.refl _).gives i

theorem flushEgress_gives (i : SlotIx) (s : State) : Gives i s (flushEgress i s) :=
  (flushes_gives i s).trans ((evaluateConfirmation_stand i _).gives i)

theorem slotHeld_eq_zero_iff : slotHeld s i = 0 ↔ ∀ p, (s.slots.get i).pool = some p →
    ∀ b, ((s.pools.get p).bins.get b).owner ≠ .owned i := by
  unfold slotHeld
  split
  · next p hp => simp [hp, binsHeld_eq_zero_iff]
  · next hp => simp [hp]

/-- A quiet slot that holds nothing goes on holding nothing. -/
theorem Gives.slotHeld (h : Gives i s t) (hfollows : (t.slots.get i).pool = (s.slots.get i).pool) (hq : Quiet i s)
    (hheld : slotHeld s i = 0) : slotHeld t i = 0 := by
  rw [slotHeld_eq_zero_iff] at hheld ⊢
  intro p hp b ho
  obtain hsame | ⟨j, hj, hne⟩ := h.owner p b
  · exact hheld p (hfollows ▸ hp) b (hsame ▸ ho)
  · exact hne hq (Owner.owned.inj (hj.symm.trans ho))

/-! The evacuation (R50). -/

/-- An evacuation leaves the egress queue of its slot, to which nothing moves. -/
theorem evacuate_spares (hn : NoneTo i s) : Spares i s (evacuate i s) := by
  unfold evacuate
  split
  · exact .refl i s
  · next p _ =>
    obtain ⟨hspares, hnone⟩ : Spares i s (onMoves (fun m => m.pool = p ∧ m.source = i) commitMove s)
        ∧ NoneTo i (onMoves (fun m => m.pool = p ∧ m.source = i) commitMove s) := by
      refine onMoves_keeps (P := fun t => Spares i s t ∧ NoneTo i t) (fun e m t ht he _ => ?_) ⟨.refl i s, hn⟩
      obtain ⟨hspares, hnone⟩ := ht
      have hcommit : NoneTo i (commitMove e m t) := fun e' m' hm' => by
        rw [commitMove_engines] at hm'
        split_ifs at hm'
        exact hnone e' m' hm'
      refine ⟨hspares.trans ⟨fun _ => hcommit, fun _ => ?_, fun j => ?_⟩, hcommit⟩
      · rw [commitMove_egress, if_neg fun hi => hnone e m he hi.symm]
      · rw [commitMove_counts, if_neg (by simp)]
    have haborts : onMoves (fun m => m.pool = p ∧ m.destination = i) abortMove
        (onMoves (fun m => m.pool = p ∧ m.source = i) commitMove s)
        = onMoves (fun m => m.pool = p ∧ m.source = i) commitMove s := onMoves_none fun e m hm => by simp [hnone e m hm]
    dsimp only
    rw [haborts]
    refine hspares.trans (.of_pools ?_)
    exact ((giveAway_pools p i _).trans (updPool_pools p _ _)).trans (forEach_reportHoldings_members _ _).pools

/-- A quiet slot that holds nothing gives nothing away. -/
theorem giveAway_stand (h : ∀ b, ((s.pools.get p).bins.get b).owner ≠ .owned i) : BinsStand s (giveAway p i s) := by
  unfold giveAway
  split
  · refine ⟨fun _ => rfl, fun _ => .inl, fun q => ?_, fun q b => ?_, fun _ => rfl⟩ <;> obtain rfl | hne := eq_or_ne q p
    · exact disownBins_tables q i s
    · rw [disownBins, State.updPool_pools, Table.get_modify_of_ne _ hne]
    · rw [disownBins_pool, if_neg (h b)]
    · rw [disownBins, State.updPool_pools, Table.get_modify_of_ne _ hne]
  · have hnone : ownedBins s p i = [] := by
      rw [ownedBins, binsWhere, List.filter_eq_nil_iff]
      simpa using h
    rw [hnone]
    exact bumpPool_stand ..

theorem evacuate_gives (hq : Quiet i s) (hheld : slotHeld s i = 0) : Gives i s (evacuate i s) := by
  have hmoves := inActiveMove_false_iff.mp hq.still
  unfold evacuate
  split
  · exact (BinsStand.refl s).gives i
  · next p hp =>
    have hnone := slotHeld_eq_zero_iff.mp hheld p hp
    have hfrom : onMoves (fun m => m.pool = p ∧ m.source = i) commitMove s = s :=
      onMoves_none fun e m hm => by simp [(hmoves e m hm).1]
    have hto : onMoves (fun m => m.pool = p ∧ m.destination = i) abortMove s = s :=
      onMoves_none fun e m hm => by simp [(hmoves e m hm).2]
    dsimp only
    rw [hfrom, hto]
    have hplan : Gives i (giveAway p i s) (rebuildPlan p (giveAway p i s)) :=
      ⟨fun h => h.of_eq rfl fun e m hm => ⟨m, hm, rfl, rfl⟩, fun q b => .inl (rebuildPlan_owner ..)⟩
    exact (((giveAway_stand hnone).gives i).trans hplan).trans ((forEach_stand reportHoldings_stand _ _).gives i)

end Sys2Proof.Machine
end

section
/-! SUPPORT. The deadline of a retirement and the acknowledgment timer (R18–R20, R50, R96). -/

namespace Sys2Proof.Machine

variable {s t u v : State} {p q : PoolIx} {i j : SlotIx} {b : BinIx} {e : EngineIx} {m : MoveRecord}

/-- The slot stands without its deadline timer. -/
def deadlineStopped (i : SlotIx) (s : State) : State := s.updSlot i fun r => { r with deadlineTimer := none }

theorem exec_deadlineExpiry (hstate : (s.slots.get i).state = .retiring .moving) (htimer : (s.slots.get i).deadlineTimer ≠ none) :
    exec (.deadlineExpiry i) s = .next (deadlinePasses i s) :=
  congrArg Host.Outcome.next (if_pos ⟨hstate, Option.isSome_iff_ne_none.mpr htimer⟩)

theorem deadlinePasses_forced (h : (s.slots.get i).forceOnDeadline = true) :
    deadlinePasses i s = flushEgress i (evacuate i (deadlineStopped i s)) := if_pos h

theorem deadlinePasses_unforced (h : (s.slots.get i).forceOnDeadline = false) :
    deadlinePasses i s = raiseFlag i .deadlinePassed (deadlineStopped i s) :=
  if_neg (by rw [h]; exact Bool.false_ne_true)

theorem deadlineStopped_get (i : SlotIx) (s : State) :
    (deadlineStopped i s).slots.get i = { s.slots.get i with deadlineTimer := none } := Table.get_modify_self ..

/-- A slot in phase MOVING that holds nothing and is in no move enters CONFIRMING as its egress queue is emptied (R18, R96). -/
theorem flushEgress_confirms (hstate : (s.slots.get i).state = .retiring .moving)
    (hq : Quiet i v) (hheld : slotHeld v i = 0) (hconfirms : ConfirmsAt i s v) :
    Confirmed i s (flushEgress i v) := by
  have hnone : NoneTo i v := noneTo_of_inActiveMove hq.still
  set w := forEach (flushOne i) (v.egress.get i) (abortData i v) with hw
  have hflush : EgressFlushed i v w := flushes_empty hnone
  have hgives : Gives i v w := flushes_gives i v
  have hpool : (w.slots.get i).pool = (v.slots.get i).pool := by
    have habort : (abortData i v).slots = v.slots := by rw [abortData_frame]; rfl
    rw [hw, ← habort]
    exact ((forEach_follows (flushOne_follows i) _ (abortData i v)).slots i).settings.1
  have hquiet := hgives.quiet hq
  have hw' : ConfirmsAt i s w := hconfirms.trans ((confirmsAt_membership i).flushes i v)
  obtain hsame | hconfirmed := hw'.moving hstate
  · have hmoving : (w.slots.get i).state = .retiring .moving := by rw [hsame, hstate]
    have heq : flushEgress i v = enterConfirming i w :=
      evaluateConfirmation_enters hmoving (hgives.slotHeld hpool hq hheld) hquiet.still hflush.egress
    have hget := enterConfirming_get_self i w
    refine heq ▸ ⟨enterConfirming_state i w, by rw [hget, hw'.timeout], by rw [hget], fun hc => ?_⟩
    rw [enterConfirming_links]
    exact askControl_notice (.inl rfl) (hw'.carries.trans hc)
  · have heq : flushEgress i v = w := evaluateConfirmation_stays (.inl (by rw [hconfirmed.state]; nofun))
    rwa [heq]

/-- What a forced deadline leaves of its slot, once nothing holds it (R18, R20, R96). -/
structure DeadlineForced (i : SlotIx) (s t : State) : Prop where
  confirmed : Confirmed i s t
  egress : t.egress.get i = []
  upstream : (t.upstream.get i).queue = (s.upstream.get i).queue
  flushed : t.slotCount i .flushed = counterAdd (s.slotCount i .flushed) (s.egress.get i).length
  flag : flagSet t i .deadlinePassed = flagSet s i .deadlinePassed
  frame : SlotEventFrame i s t

theorem TouchesTraffic.upstream_eq : TouchesTraffic s t → t.upstream = s.upstream := by
  rintro ⟨_, _, _, _, _, _, _, rfl⟩
  rfl

theorem flushEgress_upstream (i : SlotIx) (s : State) : (flushEgress i s).upstream = s.upstream := by
  have habort : (abortData i s).upstream = s.upstream := by rw [abortData_frame]; rfl
  have hflush := (forEach_follows (flushOne_follows i) (s.egress.get i) (abortData i s)).touches.upstream_eq
  exact (evaluateConfirmation_members i _).upstream_eq.trans (hflush.trans habort)

theorem deadlinePasses_forces (hstate : (s.slots.get i).state = .retiring .moving) (hforce : (s.slots.get i).forceOnDeadline = true)
    (hnone : NoneTo i s) (hq : Quiet i (evacuate i (deadlineStopped i s)))
    (hheld : slotHeld (evacuate i (deadlineStopped i s)) i = 0) : DeadlineForced i s (deadlinePasses i s) := by
  have hget := deadlineStopped_get i s
  have hspares := evacuate_spares (i := i) (s := deadlineStopped i s) hnone
  have hempties := flushEgress_empties (i := i) (hspares.noneTo hnone)
  have hflags : FlagsStand s (deadlinePasses i s) := by
    rw [deadlinePasses_forced hforce]
    exact (FlagsStand.updSlot rfl).trans ((flagsStand_membership.evacuate i _).trans (flagsStand_membership.flushEgress i _))
  refine ⟨?_, ?_, ?_, ?_, hflags.flag i _ (by decide), (deadlinePasses_eventAt i s).frame⟩ <;> rw [deadlinePasses_forced hforce]
  · have h := flushEgress_confirms (s := deadlineStopped i s) (by rw [hget, hstate]) hq hheld
      ((confirmsAt_membership i).evacuate i _)
    exact ⟨h.state, h.ack, h.deadline, h.notice⟩
  · exact hempties.egress
  · rw [flushEgress_upstream, (evacuate_follows i _).touches.upstream_eq]
    rfl
  · rw [hempties.flushed, hspares.flushed, hspares.egress hnone]
    rfl

theorem deadlineStopped_stand (i : SlotIx) (s : State) : BinsStand s (deadlineStopped i s) :=
  .updSlot i rfl .inl

theorem deadline_quiet (hs : BinLaws s) (h : (s.slots.get i).state = .retiring .moving) :
    Quiet i (evacuate i (deadlineStopped i s)) := by
  have hevac := deadline_evacuated hs h
  have hout : ((evacuate i (deadlineStopped i s)).slots.get i).state.eligible = false := by
    obtain ⟨-, -, helig, -⟩ := role_iff.mp ((evacuate_follows i (deadlineStopped i s)).slots i).role
    rw [helig, deadlineStopped_get, h]
    rfl
  exact ⟨hout, hevac.laws.no_move hout hevac.none⟩

/-- Where the bins of slot `i` have gone: each to an eligible slot, or UNOWNED where there is none; nothing holds the slot. -/
structure BinsGiven (i : SlotIx) (s t : State) : Prop where
  still : inActiveMove t i = false
  none : ∀ q b, ((t.pools.get q).bins.get b).owner ≠ .owned i
  given : ∀ q b, ((s.pools.get q).bins.get b).owner = .owned i →
    (∃ j, isEligible s q j = true ∧ ((t.pools.get q).bins.get b).owner = .owned j)
      ∨ (∀ j, isEligible s q j = false) ∧ ((t.pools.get q).bins.get b).owner = .unowned

/-- What follows an evacuation gives bins at most to eligible slots. -/
theorem Evacuated.binsGiven (h : Evacuated i s v) (hq : Quiet i v) (hroles : ∀ j, (v.slots.get j).role = (s.slots.get j).role)
    (hkeeps : KeepsBins v t) (hgives : Gives i v t) : BinsGiven i s t := by
  refine ⟨(hgives.quiet hq).still, hkeeps.ownsNone h.laws hq.ineligible h.none, fun q b ho => ?_⟩
  have hgained (j : SlotIx) (hj : ((t.pools.get q).bins.get b).owner = .owned j) (hold : ((v.pools.get q).bins.get b).owner ≠ .owned j) :
      isEligible s q j = true := by
    rw [← isEligible_congr hroles]
    exact (hkeeps.gains h.laws q b j hj).resolve_left hold
  obtain ⟨k, hk, hv⟩ | ⟨hnone, hv⟩ := h.given q b ho
  · refine .inl ?_
    obtain hsame | ⟨j, hj, -⟩ := hgives.owner q b
    · exact ⟨k, hk, hsame.trans hv⟩
    · obtain rfl | hne := eq_or_ne j k
      · exact ⟨j, hk, hj⟩
      · exact ⟨j, hgained j hj (by rw [hv]; exact fun h' => hne (Owner.owned.inj h').symm), hj⟩
  · refine .inr ⟨hnone, ?_⟩
    obtain hsame | ⟨j, hj, -⟩ := hgives.owner q b
    · exact hsame.trans hv
    · exact absurd ((hnone j).symm.trans (hgained j hj (by rw [hv]; nofun))) Bool.false_ne_true

theorem deadlinePasses_gives (hs : BinLaws s) (h : (s.slots.get i).state = .retiring .moving)
    (hforce : (s.slots.get i).forceOnDeadline = true) : BinsGiven i s (deadlinePasses i s) := by
  rw [deadlinePasses_forced hforce]
  refine (deadline_evacuated hs h).binsGiven (deadline_quiet hs h) (fun j => ?_) (flushEgress_keeps i _) (flushEgress_gives i _)
  exact ((evacuate_follows i (deadlineStopped i s)).slots j).role.trans ((deadlineStopped_stand i s).roles j)

theorem isDark_iff (henabled : (s.pools.get p).enabled = true) : isDark s p = true ↔ ∀ j, isEligible s p j = false := by
  rw [isDark, henabled, Bool.true_and, eligibleMembers_isEmpty]

theorem raiseFlag_get_of_ne (h : j ≠ i) (f : SlotFlag) (s : State) : (raiseFlag i f s).slots.get j = s.slots.get j := by
  obtain ⟨-, hraise⟩ | ⟨-, a, hraise⟩ := raiseFlag_cases i f s <;> rw [hraise]
  exact Table.get_modify_of_ne _ h _

/-- Settles O31: the unforced deadline raises its flag; a forced one evacuates and flushes, where BinLaws say what the evacuation
gives; and the acknowledgment timer is an entry to DRAINED. -/
theorem retirementTimersExpire : Obligations.RetirementTimersExpire := by
  refine ⟨fun s i hstate htimer => ⟨fun hforce => ?_, fun hmove hforce hheld hstill => ?_, fun p hlaws hforce hp => ?_⟩,
    fun s i hstate htimer hup => ?_⟩
  · obtain ⟨slots, agent, hraise, hslots⟩ := raiseFlag_frame i .deadlinePassed (deadlineStopped i s)
    obtain ⟨a, hslot⟩ := hslots i
    have hexec := exec_deadlineExpiry hstate htimer
    have hframe := (deadlinePasses_eventAt i s).frame
    rw [deadlinePasses_unforced hforce] at hexec hframe
    refine ⟨_, hexec, flagSet_raiseFlag .., ?_, ?_, hframe, ?_⟩ <;> rw [hraise]
    · refine (congrArg SlotRecord.state hslot).trans ?_
      rw [deadlineStopped_get, hstate]
    · refine (congrArg SlotRecord.deadlineTimer hslot).trans ?_
      rw [deadlineStopped_get]
    · rfl
  · have hq : Quiet i (deadlineStopped i s) := ⟨by rw [deadlineStopped_get, hstate]; rfl, hstill⟩
    have hheld' : slotHeld (deadlineStopped i s) i = 0 := ((deadlineStopped_stand i s).slotHeld i).trans hheld
    have hgives := evacuate_gives hq hheld'
    obtain ⟨hconfirmed, hegress, hupstream, hflushed, hflag, hframe⟩ := deadlinePasses_forces hstate hforce (noneTo_of_inActiveMove hstill) (hgives.quiet hq)
      (hgives.slotHeld ((evacuate_follows i _).slots i).settings.1 hq hheld')
    exact ⟨_, exec_deadlineExpiry hstate htimer, hconfirmed.state, hconfirmed.ack, hconfirmed.deadline,
      fun hup hlost => hconfirmed.notice (carries_of_up hup hlost), hegress, hupstream, hflushed, hflag, hframe⟩
  · have hgiven := deadlinePasses_gives hlaws hstate hforce
    obtain ⟨hconfirmed, hegress, hupstream, hflushed, hflag, hframe⟩ := deadlinePasses_forces hstate hforce
      (hlaws.noneTo (by rw [hstate]; rfl)) (deadline_quiet hlaws hstate) (deadline_evacuated hlaws hstate).none.slotHeld
    refine ⟨_, exec_deadlineExpiry hstate htimer, hconfirmed.state, hconfirmed.ack, hconfirmed.deadline,
      fun hup hlost => hconfirmed.notice (carries_of_up hup hlost), hegress, hupstream, hflushed, hflag, hframe,
      hgiven.still, hgiven.none, fun b ho => ⟨fun hdark => ?_, fun hdark => ?_⟩⟩
    all_goals
      have hdark' := isDark_iff (hlaws.owned p b i ho).1
      obtain ⟨j, hj, ho'⟩ | ⟨hnone, ho'⟩ := hgiven.given p b ho
    · exact absurd ((hdark'.mp hdark j).symm.trans hj) Bool.false_ne_true
    · exact ho'
    · exact ⟨j, hj, ho'⟩
    · exact absurd (hdark.symm.trans (hdark'.mpr hnone)) Bool.false_ne_true
  · have hevent := enterDrained_eventAt i s (raiseFlag_eventAt i .ackMissing)
    obtain ⟨hs, hparked, hqueue, ht⟩ := enterDrained_of_up (s := s) (i := i) (flags := raiseFlag i .ackMissing)
      (raiseFlag_members i _) (raiseFlag_links i _) hup
    have hexec : exec (.acknowledgmentExpiry i) s = .next (enterDrained i (raiseFlag i .ackMissing) s) :=
      congrArg Host.Outcome.next (if_pos ⟨hstate, Option.isSome_iff_ne_none.mpr htimer⟩)
    obtain ⟨slots, agent, hraise, hslots⟩ := raiseFlag_frame i .ackMissing (changeState i .drained s)
    obtain ⟨a, hslot⟩ := hslots i
    refine ⟨_, hexec, ?_, ?_, ?_, hparked, hqueue, fun j hj => ?_, hevent.frame, ht⟩
    · rw [hs, raiseFlag_state]
      exact changeState_state ..
    · rw [flagSet, hs]
      exact flagSet_raiseFlag ..
    · rw [hs, hraise]
      show SlotRecord.timersStopped (slots.get i)
      rw [hslot]
      exact changeState_timersStopped (by rw [hstate]; nofun)
    · rw [hs, raiseFlag_get_of_ne hj, changeState_get_of_ne hj]

end Sys2Proof.Machine
end

section
/-! SUPPORT. POOL_ENABLE and POOL_DISABLE: a pool in which no slot holds bins (R44, R52, R53). -/

namespace Sys2Proof.Machine

variable {s t : State} {p q : PoolIx} {i j : SlotIx} {b : BinIx}

theorem updPool_id {f : PoolRecord → PoolRecord} (h : f (s.pools.get p) = s.pools.get p) : s.updPool p f = s :=
  congrArg (fun table => { s with pools := table }) (Table.modify_id s.pools p h)

theorem updPool_updPool (f g : PoolRecord → PoolRecord) : (s.updPool p f).updPool p g = s.updPool p (g ∘ f) :=
  congrArg (fun table => { s with pools := table }) (Table.modify_modify s.pools p f g)

/-! A recomputation of a pool in which no slot holds bins (R42, R44–R46). -/

/-- No slot is a holding member of the pool. -/
def Deserted (s : State) (p : PoolIx) : Prop := ∀ i, isHolding s p i = false

theorem Deserted.ineligible (h : Deserted s p) (i : SlotIx) : isEligible s p i = false := by
  rw [Bool.eq_false_iff]
  intro helig
  obtain ⟨hmember, helig⟩ := isEligible_iff.mp helig
  exact Bool.false_ne_true ((h i).symm.trans (isHolding_iff.mpr ⟨hmember, SlotState.holding_of_eligible helig⟩))

theorem Deserted.of_slots (h : Deserted s p) (hslots : t.slots = s.slots) : Deserted t p := fun i => by
  rw [isHolding, isMember, hslots]
  exact h i

theorem Deserted.targets (h : Deserted s p) (i : SlotIx) : targetOf (eligibleWeight s p) i = 0 :=
  targetOf_of_weight_zero (if_neg (by rw [h.ineligible]; exact Bool.false_ne_true))

theorem Deserted.receivers (h : Deserted s p) : receivers s p = [] := by
  have hnone : eligibleMembers s p = [] := List.isEmpty_iff.mp (eligibleMembers_isEmpty.mpr h.ineligible)
  rw [Machine.receivers, hnone]
  rfl

theorem giveBins_nil (p : PoolIx) (s : State) : giveBins p [] s = s := by
  have hcounters : (s.pools.get p).counters.modify PoolCounter.immediateAssigns.ix (counterAdd · 0) = (s.pools.get p).counters :=
    Table.modify_id _ _ (counterAdd_zero _)
  exact updPool_id (congrArg (fun counters => { s.pools.get p with counters := counters }) hcounters)

theorem Deserted.assign (h : Deserted s p) : assignUnowned p s = s := by
  rw [assignUnowned, h.receivers, List.zip_nil_right]
  exact giveBins_nil p s

theorem Deserted.plan (h : Deserted s p) : plannedMoves s p = [] := by
  rw [plannedMoves, h.receivers, List.zip_nil_right]
  rfl

/-- A slot that holds no bins has no condition to meet (R14, R18). -/
theorem reportHoldings_idle (h : (s.slots.get i).state.holding = false) : reportHoldings i s = s := by
  have hadmission : evaluateAdmission i s = s := if_neg fun hc => by rw [hc.1] at h; cases h
  rw [reportHoldings, hadmission]
  exact evaluateConfirmation_stays (.inl fun hc => by rw [hc] at h; cases h)

theorem Deserted.recompute (h : Deserted s p) (henabled : (s.pools.get p).enabled = true) :
    recompute p s = s.updPool p fun r => { r with targets := Table.tab fun _ => 0, plan := [] } := by
  have htargets : targetOf (eligibleWeight s p) = fun _ => 0 := funext h.targets
  have hretarget : retarget p s = s.updPool p fun r => { r with targets := Table.tab fun _ => 0, plan := [] } := by
    rw [retarget, htargets]
  have hdeserted : Deserted (retarget p s) p := h.of_slots rfl
  have hplan : rebuildPlan p (retarget p s) = retarget p s := by
    refine updPool_id ?_
    rw [hdeserted.plan, ite_self, hretarget, State.updPool_pools, Table.get_modify_self]
  have htables : recomputeTables p s = retarget p s := by rw [recomputeTables, hdeserted.assign, hplan]
  have hreports (is : List SlotIx) (his : ∀ i ∈ is, isMember (retarget p s) p i = true) :
      forEach reportHoldings is (retarget p s) = retarget p s := by
    induction is with
    | nil => rfl
    | cons i is ih =>
      have hmember : isMember s p i = true := his i (List.mem_cons_self ..)
      have hidle : reportHoldings i (retarget p s) = retarget p s :=
        reportHoldings_idle (Bool.eq_false_iff.mpr fun hh => Bool.false_ne_true ((h i).symm.trans (isHolding_iff.mpr ⟨hmember, hh⟩)))
      rw [forEach, List.foldl_cons, hidle]
      exact ih fun i hi => his i (List.mem_cons_of_mem _ hi)
  rw [Machine.recompute, if_pos henabled]
  dsimp only
  rw [htables, hreports _ fun i hi => (List.mem_filter.mp hi).2, hretarget]

/-! POOL_ENABLE (R52). -/

theorem stale_iff : (binsWhere s p BinRecord.isStale).isEmpty = false ↔ ∃ b i, ((s.pools.get p).bins.get b).owner = .stale i := by
  have hbin (b : BinIx) : ((s.pools.get p).bins.get b).isStale = true ↔ ∃ i, ((s.pools.get p).bins.get b).owner = .stale i := by
    unfold BinRecord.isStale
    split
    · next i h => simp [h]
    · next h => simp [h]
    · next h => simp [h]
  simp only [← hbin, binsWhere, List.isEmpty_eq_false_iff, ne_eq, List.filter_eq_nil_iff, List.mem_finRange, true_implies, not_forall,
    Decidable.not_not]

theorem enablePool_enabled (h : (s.pools.get p).enabled = true) : enablePool p s = s := if_pos h

/-- A pool that is enabled with a window to open (R52). -/
theorem enablePool_opens (hdisabled : (s.pools.get p).enabled = false) (hdeserted : Deserted s p)
    (hstale : ∃ b i, ((s.pools.get p).bins.get b).owner = .stale i) (hwindow : (s.pools.get p).adoptionWindow ≠ 0) :
    enablePool p s = s.updPool p fun r => { r with
      enabled := true, adoptionTimer := some (1000 * r.adoptionWindow), targets := Table.tab fun _ => 0, plan := [] } := by
  have hself : (s.updPool p fun r => { r with enabled := true }).pools.get p = { s.pools.get p with enabled := true } :=
    Table.get_modify_self ..
  have hopen : openWindow p (s.updPool p fun r => { r with enabled := true })
      = s.updPool p fun r => { r with enabled := true, adoptionTimer := some (1000 * r.adoptionWindow) } := by
    refine (if_pos ⟨?_, ?_⟩).trans (updPool_updPool _ _)
    · rw [hself]
      exact hwindow
    · rw [stale_iff.mpr (by rw [hself]; exact hstale)]
      rfl
  have hall : Deserted (s.updPool p fun r => { r with enabled := true, adoptionTimer := some (1000 * r.adoptionWindow) }) p :=
    hdeserted.of_slots rfl
  rw [enablePool, if_neg (by rw [hdisabled]; exact Bool.false_ne_true), hopen,
    hall.recompute (by rw [State.updPool_pools, Table.get_modify_self])]
  exact updPool_updPool _ _

/-- A pool that is enabled with no window to open (R52). -/
theorem enablePool_drops (hdisabled : (s.pools.get p).enabled = false) (hdeserted : Deserted s p)
    (hnone : ¬ (∃ b i, ((s.pools.get p).bins.get b).owner = .stale i) ∨ (s.pools.get p).adoptionWindow = 0) :
    enablePool p s = (dropStale p s).updPool p fun r => { r with enabled := true, targets := Table.tab fun _ => 0, plan := [] } := by
  have hself : (s.updPool p fun r => { r with enabled := true }).pools.get p = { s.pools.get p with enabled := true } :=
    Table.get_modify_self ..
  have hopen : openWindow p (s.updPool p fun r => { r with enabled := true })
      = (dropStale p s).updPool p fun r => { r with enabled := true } := by
    refine (if_neg fun h => ?_).trans ?_
    · rw [hself] at h
      obtain ⟨hw, hs⟩ := h
      refine hnone.elim (fun hno => hno ?_) hw
      have hnotempty : (binsWhere (s.updPool p fun r => { r with enabled := true }) p BinRecord.isStale).isEmpty = false := by
        simpa using hs
      obtain ⟨b, i, hb⟩ := stale_iff.mp hnotempty
      rw [hself] at hb
      exact ⟨b, i, hb⟩
    · rw [dropStale, dropStale, updPool_updPool, updPool_updPool]
      rfl
  have hall : Deserted ((dropStale p s).updPool p fun r => { r with enabled := true }) p := hdeserted.of_slots rfl
  rw [enablePool, if_neg (by rw [hdisabled]; exact Bool.false_ne_true), hopen,
    hall.recompute (by rw [State.updPool_pools, Table.get_modify_self])]
  exact updPool_updPool _ _

/-- A disabled pool has no holding member (R36). -/
theorem BinLaws.deserted (hs : BinLaws s) (hdisabled : (s.pools.get p).enabled = false) : Deserted s p := fun i => by
  rw [Bool.eq_false_iff]
  intro hi
  obtain ⟨hmember, hholding⟩ := isHolding_iff.mp hi
  obtain ⟨q, hq, henabled⟩ := hs.holding i hholding
  obtain rfl : p = q := Option.some.inj ((isMember_iff.mp hmember).symm.trans hq)
  exact Bool.false_ne_true (hdisabled.symm.trans henabled)

theorem Deserted.isDark (h : Deserted s p) (henabled : (s.pools.get p).enabled = true) : isDark s p = true :=
  (isDark_iff henabled).mpr h.ineligible

theorem poolByte_of {pool : Byte} (h : pool.toNat = p.val) : byteOf p.val = pool := by
  rw [byteOf, ← h, BitVec.ofNat_toNat, BitVec.setWidth_eq]

/-! POOL_DISABLE (R53). -/

theorem answerPoolDisable_of {pool : Byte} (hpool : pool.toNat = p.val) : answerPoolDisable pool s
    = if (List.finRange 12).any (isHolding s p) then .refuse .badState else .accept (disablePool p) fun s => poolResult s p :=
  withPool_of hpool _

theorem deserted_iff : (List.finRange 12).any (isHolding s p) = false ↔ Deserted s p := by
  simp [Deserted, List.any_eq_false]

theorem poolResult_of {pool : Byte} {enabled dark : Bool} {timer : Timer} (hpool : pool.toNat = p.val)
    (henabled : (s.pools.get p).enabled = enabled) (hdark : isDark s p = dark) (htimer : (s.pools.get p).adoptionTimer = timer) :
    poolResult s p = [pool, flagByte enabled, flagByte dark] ++ timerBytes timer := by
  rw [poolResult, poolByte_of hpool, henabled, hdark, htimer]

theorem isDark_disabled (h : (s.pools.get p).enabled = false) : isDark s p = false := by rw [isDark, h, Bool.false_and]

/-- Settles O50: a pool that no slot holds bins in is recomputed to no targets and no plan. -/
theorem poolsAreEnabledAndDisabled : Obligations.PoolsAreEnabledAndDisabled := by
  refine ⟨?_, ?_⟩
  · intro s tag pool p h hpool r stale
    have hanswer : withPool pool (fun p => Answer.accept (enablePool p) fun s => poolResult s p)
      = .accept (enablePool p) fun s => poolResult s p := withPool_of hpool _
    refine ⟨fun henabled => ?_, fun hs hdisabled hstale hw => ?_, fun hs hdisabled htimer hnone => ?_⟩
    · have heffect : enablePool p (accepting s) = accepting s := enablePool_enabled henabled
      rw [exec_effect rfl h rfl hanswer (by rw [heffect]), heffect,
        poolResult_of (s := accepting s) (enabled := true) hpool henabled rfl rfl]
      rfl
    · have heffect := enablePool_opens (s := accepting s) hdisabled ((hs.deserted hdisabled).of_slots rfl) hstale hw
      have hself := congrArg (fun t : State => t.pools.get p) heffect
      have hdeserted : Deserted (enablePool p (accepting s)) p := (hs.deserted hdisabled).of_slots (by rw [heffect]; rfl)
      rw [State.updPool_pools, Table.get_modify_self] at hself
      have hdark := hdeserted.isDark (by rw [hself])
      have hbins : ((enablePool p (accepting s)).pools.get p).bins = r.bins := by
        rw [hself]
        rfl
      refine ⟨_, exec_effect rfl h rfl hanswer (by rw [heffect]; rfl), ?_⟩
      rw [poolResult_of (s := enablePool p (accepting s)) (enabled := true) (timer := some (1000 * r.adoptionWindow)) hpool (by rw [hself])
        hdark (by rw [hself]; rfl)]
      refine ⟨congrArg PoolRecord.enabled hself, congrArg PoolRecord.adoptionTimer hself, congrArg PoolRecord.plan hself,
        hbins, hdark, fun j => ?_, ?_, fun q hq => ?_, ?_⟩
      · exact (congrArg (fun r : PoolRecord => r.targets.get j) hself).trans (Table.get_tab ..)
      · show (enablePool p (accepting s)).pools.get p = { r with
          enabled := true, adoptionTimer := ((enablePool p (accepting s)).pools.get p).adoptionTimer
          targets := ((enablePool p (accepting s)).pools.get p).targets, plan := [] }
        rw [hself]
        rfl
      · exact (congrArg (fun t : State => t.pools.get q) heffect).trans (Table.get_modify_of_ne _ hq _)
      · rw [heffect]
        rfl
    · have heffect := enablePool_drops (s := accepting s) hdisabled ((hs.deserted hdisabled).of_slots rfl) hnone
      have hself := congrArg (fun t : State => t.pools.get p) heffect
      have hdeserted : Deserted (enablePool p (accepting s)) p := (hs.deserted hdisabled).of_slots (by rw [heffect]; rfl)
      rw [State.updPool_pools, Table.get_modify_self] at hself
      have hdark := hdeserted.isDark (by rw [hself])
      have hdrop : (dropStale p (accepting s)).pools.get p = { r with bins := ((dropStale p (accepting s)).pools.get p).bins } := by
        rw [dropStale, State.updPool_pools, Table.get_modify_self]
        rfl
      have htimer' : ((enablePool p (accepting s)).pools.get p).adoptionTimer = none := by
        rw [hself, hdrop]
        exact htimer
      refine ⟨_, exec_effect rfl h rfl hanswer (by rw [heffect]; rfl), ?_⟩
      rw [poolResult_of (s := enablePool p (accepting s)) (enabled := true) (timer := none) hpool (by rw [hself]) hdark htimer']
      refine ⟨congrArg PoolRecord.enabled hself, htimer', congrArg PoolRecord.plan hself, hdark, fun b => ?_, fun j => ?_, ?_,
        fun q hq => ?_, ?_⟩
      · refine (congrArg (fun r : PoolRecord => r.bins.get b) hself).trans ((dropStale_bin p (accepting s) b).trans ?_)
        have hdropped : ((s.pools.get p).bins.get b).owner.dropped = .unowned := by
          cases ho : ((s.pools.get p).bins.get b).owner with
          | owned i => exact absurd ho (hs.ownerless hdisabled b i)
          | unowned => rfl
          | stale i => rfl
        rw [← hdropped]
        rfl
      · exact (congrArg (fun r : PoolRecord => r.targets.get j) hself).trans (Table.get_tab ..)
      · show (enablePool p (accepting s)).pools.get p = { r with
          enabled := true, adoptionTimer := none, targets := ((enablePool p (accepting s)).pools.get p).targets, plan := []
          bins := ((enablePool p (accepting s)).pools.get p).bins }
        rw [hself, hdrop]
        dsimp only
        rw [htimer]
      · exact (congrArg (fun t : State => t.pools.get q) heffect).trans
          ((Table.get_modify_of_ne _ hq _).trans (dropStale_others hq _))
      · rw [heffect]
        rfl
  · intro s tag pool p h hpool
    refine ⟨fun hholds => ?_, fun hnone henabled => ?_, fun hnone hdisabled => ?_⟩
    · have hany : (List.finRange 12).any (isHolding (dropRequest s) p) = true := by
        obtain ⟨i, hi⟩ := hholds
        exact List.any_eq_true.mpr ⟨i, List.mem_finRange i, hi⟩
      exact exec_refused (status := .badState) rfl h rfl ((answerPoolDisable_of hpool).trans (if_pos hany))
    · have hany : (List.finRange 12).any (isHolding (dropRequest s) p) = false := deserted_iff.mpr hnone
      have hanswer := (answerPoolDisable_of (s := dropRequest s) hpool).trans (if_neg (by rw [hany]; exact Bool.false_ne_true))
      have heffect : disablePool p (accepting s) = (accepting s).updPool p fun r =>
          { r with enabled := false, adoptionTimer := none, rampTimer := none, plan := [] } := if_pos henabled
      have hself : ((disablePool p (accepting s)).pools.get p) = _ := (congrArg (fun t : State => t.pools.get p) heffect).trans
        (Table.get_modify_self ..)
      rw [exec_effect rfl h rfl hanswer (by rw [heffect]; rfl), poolResult_of (enabled := false) (timer := none) hpool (by rw [hself])
        (isDark_disabled (by rw [hself])) (by rw [hself]), heffect]
      rfl
    · have hany : (List.finRange 12).any (isHolding (dropRequest s) p) = false := deserted_iff.mpr hnone
      have hanswer := (answerPoolDisable_of (s := dropRequest s) hpool).trans (if_neg (by rw [hany]; exact Bool.false_ne_true))
      have heffect : disablePool p (accepting s) = accepting s := if_neg (by rw [show (accepting s).pools = s.pools from rfl, hdisabled]; exact Bool.false_ne_true)
      rw [exec_effect rfl h rfl hanswer (by rw [heffect]), heffect,
        poolResult_of (s := accepting s) hpool hdisabled (isDark_disabled hdisabled) rfl]
      rfl

end Sys2Proof.Machine
end

section
/-! SUPPORT. What the abort of the moves toward a slot leaves of the engines, the bins, the queues and the counts (R49, R72, R74). -/

namespace Sys2Proof.Machine

variable {s t u : State} {p q : PoolIx} {i j : SlotIx} {b c : BinIx} {e e' : EngineIx} {m : MoveRecord}
  {sel : MoveRecord → Bool} {f : EngineIx → MoveRecord → State → State}

/-! A step on each selected move, read off one value of the state. -/

theorem moveStep_selected (he : s.engines.get e = some m) (hsel : sel m = true) : moveStep sel f e s = f e m s := by
  rw [moveStep, he, Option.filter_some, if_pos hsel]
  rfl

theorem moveStep_unselected (h : ∀ m, s.engines.get e = some m → sel m = false) : moveStep sel f e s = s := by
  cases he : s.engines.get e with
  | none => rw [moveStep, he]; rfl
  | some m => rw [moveStep, he, Option.filter_some, if_neg (by rw [h m he]; exact Bool.false_ne_true)]; rfl

/-- A value that each step changes by what its engine's move says is changed by all of them in turn. -/
theorem onMoves_fold {α β : Type} {val : State → α} {op : α → β → α} {x : Option MoveRecord → β}
    (hf : ∀ e m s e', (f e m s).engines.get e' = if e' = e then none else s.engines.get e')
    (h : ∀ e s, val (moveStep sel f e s) = op (val s) (x (s.engines.get e))) (s : State) :
    val (onMoves sel f s) = ((List.finRange 4).map fun e => x (s.engines.get e)).foldl op (val s) := by
  have hsteps (es : List EngineIx) (hes : es.Nodup) (s : State) :
      val (forEach (moveStep sel f) es s) = (es.map fun e => x (s.engines.get e)).foldl op (val s) := by
    induction es generalizing s with
    | nil => rfl
    | cons e es ih =>
      obtain ⟨he, hes⟩ := List.nodup_cons.mp hes
      have hengines (e' : EngineIx) (he' : e' ∈ es) : (moveStep sel f e s).engines.get e' = s.engines.get e' := by
        rw [moveStep_engines hf, if_neg (fun h' : e' = e => he (h' ▸ he'))]
      rw [forEach_cons, ih hes, h, List.map_cons, List.foldl_cons]
      exact congrArg (List.foldl op _) (List.map_congr_left fun e' he' => congrArg x (hengines e' he'))
  rw [onMoves_eq]
  exact hsteps _ (List.nodup_finRange 4) s

theorem foldl_counterAdd (ns : List Nat) (c : Counter) : ns.foldl counterAdd c = counterAdd c ns.sum := by
  induction ns generalizing c with
  | nil => exact (counterAdd_zero c).symm
  | cons n ns ih => rw [List.foldl_cons, ih, counterAdd_counterAdd, List.sum_cons]

/-! Frames that join a queue of 256 (R93). -/

/-- A queue and its count of dropped frames as further frames are offered. -/
def joinQueue (a : List EgressEntry × Counter) (entries : List EgressEntry) : List EgressEntry × Counter :=
  (a.1 ++ entries.take (256 - a.1.length), counterAdd a.2 (entries.length - (256 - a.1.length)))

theorem joinQueue_nil (a : List EgressEntry × Counter) : joinQueue a [] = a := by
  rw [joinQueue, List.take_nil, List.append_nil, List.length_nil, Nat.zero_sub, counterAdd_zero]

theorem joinQueue_joinQueue (a : List EgressEntry × Counter) (xs ys : List EgressEntry) :
    joinQueue (joinQueue a xs) ys = joinQueue a (xs ++ ys) := by
  have hroom : 256 - (joinQueue a xs).1.length = 256 - a.1.length - xs.length := by
    rw [joinQueue, List.length_append, List.length_take]
    omega
  refine Prod.ext ?_ ?_
  · show (a.1 ++ xs.take _) ++ ys.take _ = a.1 ++ (xs ++ ys).take _
    rw [hroom, List.append_assoc, List.take_append]
  · show counterAdd (counterAdd a.2 _) _ = counterAdd a.2 _
    rw [hroom, counterAdd_counterAdd, List.length_append]
    congr 1
    omega

theorem foldl_joinQueue (xss : List (List EgressEntry)) (a : List EgressEntry × Counter) :
    xss.foldl joinQueue a = joinQueue a xss.flatten := by
  induction xss generalizing a with
  | nil => exact (joinQueue_nil a).symm
  | cons xs xss ih => rw [List.foldl_cons, ih, joinQueue_joinQueue, List.flatten_cons]

/-! An abort (R74). -/

theorem abortMove_egress (e : EngineIx) (m : MoveRecord) (s : State) (j : SlotIx) : (abortMove e m s).egress.get j
    = if j = m.source then s.egress.get m.source ++ (heldEntries m.pool m.bin m.hold).take (egressRoom s m.source)
      else s.egress.get j :=
  releaseHold_egress ..

theorem abortMove_counts (e : EngineIx) (m : MoveRecord) (s : State) (j : SlotIx) (k : SlotCounter) :
    (abortMove e m s).slotCount j k = if j = m.source ∧ k = .egressFull
      then counterAdd (s.slotCount j k) (m.hold.length - egressRoom s m.source) else s.slotCount j k :=
  releaseHold_counts ..

theorem abortMove_bin (e : EngineIx) (m : MoveRecord) (s : State) (q : PoolIx) (c : BinIx) :
    ((abortMove e m s).pools.get q).bins.get c = if q = m.pool ∧ c = m.bin then
        { (s.pools.get q).bins.get c with
          inflight := ((s.pools.get q).bins.get c).inflight + min m.hold.length (egressRoom s m.source), engine := none }
      else (s.pools.get q).bins.get c := by
  show ((bumpPool m.pool .abortedMoves 1 (freeEngine e m (releaseHold m.source m.pool m.bin m.hold s))).pools.get q).bins.get c = _
  rw [bumpPool_bins, freeEngine_bin, releaseHold_bin]
  split <;> rfl

theorem freeEngine_poolCount (e : EngineIx) (m : MoveRecord) (s : State) (q : PoolIx) (k : PoolCounter) :
    (freeEngine e m s).poolCount q k = s.poolCount q k := by
  rw [State.poolCount, freeEngine, State.setEngine_pools, updBin_pool]
  rfl

theorem abortMove_poolCount (e : EngineIx) (m : MoveRecord) (s : State) (q : PoolIx) (k : PoolCounter) :
    (abortMove e m s).poolCount q k = if q = m.pool ∧ k = .abortedMoves then counterAdd (s.poolCount q k) 1 else s.poolCount q k := by
  have hbefore : (freeEngine e m (releaseHold m.source m.pool m.bin m.hold s)).poolCount q k = s.poolCount q k := by
    rw [freeEngine_poolCount, State.poolCount, releaseHold_pool]
    rfl
  show (bumpPool m.pool .abortedMoves 1 (freeEngine e m (releaseHold m.source m.pool m.bin m.hold s))).poolCount q k = _
  rw [poolCount_bumpPool, hbefore]

/-! The aborts of the selected moves. -/

/-- The frames that an engine's move gives to the queue of slot `j` if it aborts. -/
def heldBy (sel : MoveRecord → Bool) (j : SlotIx) : Option MoveRecord → List EgressEntry
  | some m => if sel m = true ∧ m.source = j then heldEntries m.pool m.bin m.hold else []
  | none => []

/-- 1 for a selected move of pool `q`, and 0 for any other and for an IDLE engine. -/
def endedIn (sel : MoveRecord → Bool) (q : PoolIx) : Option MoveRecord → Nat
  | some m => if sel m = true ∧ m.pool = q then 1 else 0
  | none => 0

theorem moveStep_abort_queue (e : EngineIx) (s : State) (j : SlotIx) :
    ((moveStep sel abortMove e s).egress.get j, (moveStep sel abortMove e s).slotCount j .egressFull)
      = joinQueue (s.egress.get j, s.slotCount j .egressFull) (heldBy sel j (s.engines.get e)) := by
  by_cases h : ∃ m, s.engines.get e = some m ∧ sel m = true
  · obtain ⟨m, he, hsel⟩ := h
    rw [moveStep_selected he hsel, he, abortMove_egress, abortMove_counts, heldBy]
    by_cases hj : j = m.source
    · subst hj
      rw [if_pos rfl, if_pos ⟨rfl, rfl⟩, if_pos ⟨hsel, rfl⟩, joinQueue, List.length_map]
      rfl
    · rw [if_neg hj, if_neg fun h => hj h.1, if_neg fun h => hj h.2.symm, joinQueue_nil]
  · have hnone (m : MoveRecord) (he : s.engines.get e = some m) : sel m = false :=
      Bool.eq_false_iff.mpr fun hsel => h ⟨m, he, hsel⟩
    have hheld : heldBy sel j (s.engines.get e) = [] := by
      cases he : s.engines.get e with
      | none => rfl
      | some m => exact if_neg fun h => Bool.false_ne_true ((hnone m he).symm.trans h.1)
    rw [moveStep_unselected hnone, hheld, joinQueue_nil]

/-- The held frames join their sources' queues, engine by engine (R72, R74). -/
theorem onMoves_abort_queue (s : State) (j : SlotIx) :
    ((onMoves sel abortMove s).egress.get j, (onMoves sel abortMove s).slotCount j .egressFull)
      = joinQueue (s.egress.get j, s.slotCount j .egressFull)
          ((List.finRange 4).map fun e => heldBy sel j (s.engines.get e)).flatten :=
  (onMoves_fold (val := fun s : State => (s.egress.get j, s.slotCount j .egressFull)) abortMove_engines
    (fun e s => moveStep_abort_queue e s j) s).trans (foldl_joinQueue _ _)

/-- Each abort is counted in its pool (R74). -/
theorem onMoves_aborted {f : EngineIx → MoveRecord → State → State}
    (hf : ∀ e m s e', (f e m s).engines.get e' = if e' = e then none else s.engines.get e')
    (hcount : ∀ e m s q, (f e m s).poolCount q .abortedMoves
      = if q = m.pool then counterAdd (s.poolCount q .abortedMoves) 1 else s.poolCount q .abortedMoves) (s : State) (q : PoolIx) :
    (onMoves sel f s).poolCount q .abortedMoves
      = counterAdd (s.poolCount q .abortedMoves) ((List.finRange 4).map fun e => endedIn sel q (s.engines.get e)).sum := by
  refine (onMoves_fold (val := fun s : State => s.poolCount q .abortedMoves) (op := counterAdd) (x := endedIn sel q) hf
    (fun e s => ?_) s).trans (foldl_counterAdd _ _)
  by_cases h : ∃ m, s.engines.get e = some m ∧ sel m = true
  · obtain ⟨m, he, hsel⟩ := h
    rw [moveStep_selected he hsel, he, hcount, endedIn]
    by_cases hq : q = m.pool
    · rw [if_pos hq, if_pos ⟨hsel, hq.symm⟩]
    · rw [if_neg hq, if_neg fun h => hq h.2.symm, counterAdd_zero]
  · have hnone (m : MoveRecord) (he : s.engines.get e = some m) : sel m = false :=
      Bool.eq_false_iff.mpr fun hsel => h ⟨m, he, hsel⟩
    have hzero : endedIn sel q (s.engines.get e) = 0 := by
      cases he : s.engines.get e with
      | none => rfl
      | some m => exact if_neg fun h => Bool.false_ne_true ((hnone m he).symm.trans h.1)
    rw [moveStep_unselected hnone, hzero, counterAdd_zero]

theorem sum_map_ite (es : List EngineIx) (g : EngineIx → Bool) : (es.map fun e => if g e then 1 else 0).sum = (es.filter g).length := by
  induction es with
  | nil => rfl
  | cons e es ih =>
    rw [List.map_cons, List.sum_cons, ih, List.filter_cons]
    split
    · rw [List.length_cons, Nat.add_comm]
    · rw [Nat.zero_add]

/-! The bins of the moves that abort. -/

/-- Each engine's move names the bin that names it. -/
def MovesNamed (s : State) : Prop := ∀ e m, s.engines.get e = some m → ((s.pools.get m.pool).bins.get m.bin).engine = some e

theorem moveStep_abort_bin (hs : MovesNamed s) (h : ((s.pools.get q).bins.get c).engine ≠ some e) :
    ((moveStep sel abortMove e s).pools.get q).bins.get c = (s.pools.get q).bins.get c := by
  by_cases h' : ∃ m, s.engines.get e = some m ∧ sel m = true
  · obtain ⟨m, he, hsel⟩ := h'
    rw [moveStep_selected he hsel, abortMove_bin, if_neg]
    rintro ⟨rfl, rfl⟩
    exact h (hs e m he)
  · rw [moveStep_unselected fun m he => Bool.eq_false_iff.mpr fun hsel => h' ⟨m, he, hsel⟩]

theorem MovesNamed.moveStep (hs : MovesNamed s) : MovesNamed (moveStep sel abortMove e s) := fun e' m' hm' => by
  rw [moveStep_engines abortMove_engines] at hm'
  split at hm'
  · next he =>
    obtain ⟨hm, hsel⟩ := Option.filter_eq_some_iff.mp hm'
    rw [moveStep_unselected fun m he' => ?_, hs e' m' hm]
    rw [← he, hm] at he'
    cases he'
    simpa using hsel
  · next he =>
    rw [moveStep_abort_bin hs, hs e' m' hm']
    rw [hs e' m' hm']
    exact fun h => he (Option.some.inj h)

/-- A bin of none of the engines stands as they abort. -/
theorem forEach_abort_bin (es : List EngineIx) (hs : MovesNamed s) (h : ∀ e ∈ es, ((s.pools.get q).bins.get c).engine ≠ some e) :
    ((forEach (moveStep sel abortMove) es s).pools.get q).bins.get c = (s.pools.get q).bins.get c := by
  induction es generalizing s with
  | nil => rfl
  | cons e es ih =>
    have hstep := moveStep_abort_bin (sel := sel) hs (h e (List.mem_cons_self ..))
    rw [forEach_cons, ih hs.moveStep fun e' he' => by rw [hstep]; exact h e' (List.mem_cons_of_mem _ he'), hstep]

/-- The bin of a move that aborts is at rest, and with room for all the frames its count has grown by those that were held. -/
theorem forEach_abort_freed (es : List EngineIx) (hes : es.Nodup) (hs : MovesNamed s) (he : s.engines.get e = some m)
    (hsel : sel m = true) (hmem : e ∈ es) : ∃ n,
    ((forEach (moveStep sel abortMove) es s).pools.get m.pool).bins.get m.bin
        = { (s.pools.get m.pool).bins.get m.bin with engine := none, inflight := n }
      ∧ ((s.egress.get m.source).length + (es.map fun e => heldBy sel m.source (s.engines.get e)).flatten.length ≤ 256 →
        n = ((s.pools.get m.pool).bins.get m.bin).inflight + m.hold.length) := by
  induction es generalizing s with
  | nil => exact absurd hmem List.not_mem_nil
  | cons e0 es ih =>
    obtain ⟨he0, hes⟩ := List.nodup_cons.mp hes
    rw [forEach_cons]
    obtain rfl | hne := eq_or_ne e e0
    · have hbin : ((moveStep sel abortMove e s).pools.get m.pool).bins.get m.bin = { (s.pools.get m.pool).bins.get m.bin with
          inflight := ((s.pools.get m.pool).bins.get m.bin).inflight + min m.hold.length (egressRoom s m.source), engine := none } := by
        rw [moveStep_selected he hsel, abortMove_bin, if_pos ⟨rfl, rfl⟩]
      refine ⟨_, (forEach_abort_bin es hs.moveStep fun e' _ => by rw [hbin]; nofun).trans hbin, fun hroom => ?_⟩
      rw [List.map_cons, List.flatten_cons, List.length_append, he, heldBy, if_pos ⟨hsel, rfl⟩, List.length_map] at hroom
      rw [egressRoom, Nat.min_eq_left (by omega)]
    · have hmem' := (List.mem_cons.mp hmem).resolve_left hne
      have hengines (e' : EngineIx) (he' : e' ∈ es) : (moveStep sel abortMove e0 s).engines.get e' = s.engines.get e' := by
        rw [moveStep_engines abortMove_engines, if_neg (fun h' : e' = e0 => he0 (h' ▸ he'))]
      have hbin := moveStep_abort_bin (sel := sel) (e := e0) hs (q := m.pool) (c := m.bin)
        (by rw [hs e m he]; exact fun h => hne (Option.some.inj h))
      obtain ⟨n, hn, hinflight⟩ := ih hes (s := moveStep sel abortMove e0 s) hs.moveStep ((hengines e hmem').trans he) hmem'
      refine ⟨n, hn.trans (by rw [hbin]), fun hroom => (hinflight ?_).trans (by rw [hbin])⟩
      have hqueue := congrArg (fun a : List EgressEntry × Counter => a.1.length)
        (moveStep_abort_queue (sel := sel) e0 s m.source)
      simp only [joinQueue, List.length_append, List.length_take] at hqueue
      rw [List.map_cons, List.flatten_cons, List.length_append] at hroom
      have hmap : (es.map fun e => heldBy sel m.source ((moveStep sel abortMove e0 s).engines.get e))
          = es.map fun e => heldBy sel m.source (s.engines.get e) :=
        List.map_congr_left fun e' he' => congrArg (heldBy sel m.source) (hengines e' he')
      rw [hmap, hqueue]
      omega

theorem onMoves_abort_freed (hs : MovesNamed s) (he : s.engines.get e = some m) (hsel : sel m = true) : ∃ n,
    ((onMoves sel abortMove s).pools.get m.pool).bins.get m.bin
        = { (s.pools.get m.pool).bins.get m.bin with engine := none, inflight := n }
      ∧ ((s.egress.get m.source).length + ((List.finRange 4).map fun e => heldBy sel m.source (s.engines.get e)).flatten.length ≤ 256 →
        n = ((s.pools.get m.pool).bins.get m.bin).inflight + m.hold.length) := by
  rw [onMoves_eq]
  exact forEach_abort_freed _ (List.nodup_finRange 4) hs he hsel (List.mem_finRange e)

/-- A bin of no move that aborts stands. -/
theorem onMoves_abort_other (hs : MovesNamed s) (h : ∀ e m, s.engines.get e = some m → sel m = true → ¬ (m.pool = q ∧ m.bin = c)) :
    ((onMoves sel abortMove s).pools.get q).bins.get c = (s.pools.get q).bins.get c := by
  have hsteps (es : List EngineIx) (s : State) (hs : MovesNamed s)
      (h : ∀ e m, s.engines.get e = some m → sel m = true → ¬ (m.pool = q ∧ m.bin = c)) :
      ((forEach (moveStep sel abortMove) es s).pools.get q).bins.get c = (s.pools.get q).bins.get c := by
    induction es generalizing s with
    | nil => rfl
    | cons e es ih =>
      have hstep : ((moveStep sel abortMove e s).pools.get q).bins.get c = (s.pools.get q).bins.get c := by
        by_cases h' : ∃ m, s.engines.get e = some m ∧ sel m = true
        · obtain ⟨m, he, hsel⟩ := h'
          rw [moveStep_selected he hsel, abortMove_bin, if_neg]
          rintro ⟨rfl, rfl⟩
          exact h e m he hsel ⟨rfl, rfl⟩
        · rw [moveStep_unselected fun m he => Bool.eq_false_iff.mpr fun hsel => h' ⟨m, he, hsel⟩]
      rw [forEach_cons, ih _ hs.moveStep fun e' m' hm' => ?_, hstep]
      rw [moveStep_engines abortMove_engines] at hm'
      split at hm'
      · exact h e' m' (Option.filter_eq_some_iff.mp hm').1
      · exact h e' m' hm'
  rw [onMoves_eq]
  exact hsteps _ s hs h

/-! The loss of eligibility (R49). -/

theorem BinCore.named {gone : SlotIx → Prop} (hs : BinCore gone s) : MovesNamed s := fun e m hm => (hs.move e m hm).1

/-- The moves toward a member are those of its pool. -/
theorem BinCore.toMember {gone : SlotIx → Prop} (hs : BinCore gone s) (hp : (s.slots.get i).pool = some p)
    (he : s.engines.get e = some m) : decide (m.pool = p ∧ m.destination = i) = true ↔ m.destination = i := by
  refine decide_eq_true_iff.trans (and_iff_right_of_imp fun hd => ?_)
  exact Option.some.inj ((isMember_iff.mp (hs.move e m he).2.2.1).symm.trans (hd ▸ hp))

theorem heldFor_eq {gone : SlotIx → Prop} (hs : BinCore gone s) (hp : (s.slots.get i).pool = some p) (j : SlotIx) :
    ((List.finRange 4).map fun e => heldBy (fun m => m.pool = p ∧ m.destination = i) j (s.engines.get e)).flatten
      = heldFor s i j := by
  refine congrArg List.flatten (List.map_congr_left fun e _ => ?_)
  cases he : s.engines.get e with
  | none => rfl
  | some m =>
    exact if_congr (and_congr_left' (hs.toMember hp he)) rfl rfl

theorem sum_endedIn {gone : SlotIx → Prop} (hs : BinCore gone s) (hp : (s.slots.get i).pool = some p) (q : PoolIx) :
    ((List.finRange 4).map fun e => endedIn (fun m => m.pool = p ∧ m.destination = i) q (s.engines.get e)).sum = movesTo s q i := by
  rw [movesTo, ← sum_map_ite]
  refine congrArg List.sum (List.map_congr_left fun e _ => ?_)
  unfold engineMovesTo
  cases he : s.engines.get e with
  | none => rfl
  | some m =>
    dsimp only
    refine if_congr ((and_congr_left' (hs.toMember hp he)).trans ?_) rfl rfl
    rw [decide_eq_true_iff, and_comm]

/-- A loss of eligibility aborts the moves toward its slot, and changes no other (R49). -/
theorem loseEligibility_aborts {gone : SlotIx → Prop} (hs : BinCore gone s) (hp : (s.slots.get i).pool = some p)
    (henabled : (s.pools.get p).enabled = true) : MovesAborted i p s (loseEligibility i s) := by
  have hcomputed := recompute_recomputed p (onMoves (fun m => m.pool = p ∧ m.destination = i) abortMove s)
  rw [loseEligibility_eq hp henabled]
  have hqueue (j : SlotIx) := onMoves_abort_queue (sel := fun m => m.pool = p ∧ m.destination = i) s j
  simp only [heldFor_eq hs hp] at hqueue
  have hbinPool (e : EngineIx) (m : MoveRecord) (he : s.engines.get e = some m) (hd : m.destination = i) : m.pool = p :=
    Option.some.inj ((isMember_iff.mp (hs.move e m he).2.2.1).symm.trans (hd ▸ hp))
  refine ⟨fun e => ?_, fun e m he hd => ?_, fun b hb => ?_, fun j => ?_, fun j => ?_, ?_⟩
  · rw [hcomputed.touches.engines_eq, onMoves_engines abortMove_engines]
    cases he : s.engines.get e with
    | none => rfl
    | some m =>
      have hiff := hs.toMember hp he
      dsimp only
      by_cases hd : m.destination = i
      · rw [if_pos hd, Option.filter_some, hiff.mpr hd]
        rfl
      · rw [if_neg hd, Option.filter_some, Bool.eq_false_iff.mpr (mt hiff.mp hd)]
        rfl
  · obtain ⟨n, hfreed, hinflight⟩ := onMoves_abort_freed
      (sel := fun m => m.pool = p ∧ m.destination = i) hs.named he ((hs.toMember hp he).mpr hd)
    rw [heldFor_eq hs hp] at hinflight
    have howner := (hs.move e m he).2.1
    rw [hbinPool e m he hd] at hfreed howner hinflight
    have hfields := hcomputed.fields m.bin
    rw [hfreed] at hfields
    refine ⟨by rw [hfields], fun _ => ?_, fun hroom => by rw [hfields]; exact hinflight hroom⟩
    rw [hcomputed.owned m.bin (by rw [hfreed, howner]; nofun), hfreed, howner]
  · have hother := onMoves_abort_other (sel := fun m => m.pool = p ∧ m.destination = i) (q := p) (c := b) hs.named
      fun e m he hsel h => hb e m he ((hs.toMember hp he).mp hsel) h.2
    rw [hcomputed.fields b, hother]
    exact ⟨rfl, rfl⟩
  · rw [hcomputed.touches.egress_eq]
    exact congrArg Prod.fst (hqueue j)
  · rw [State.slotCount, hcomputed.touches.slotCounters_eq]
    exact congrArg Prod.snd (hqueue j)
  · rw [hcomputed.counts _ (by decide), onMoves_aborted abortMove_engines (fun e m s q => ?_), sum_endedIn hs hp]
    rw [abortMove_poolCount]
    exact if_congr (and_iff_left rfl) rfl rfl

end Sys2Proof.Machine
end

section
/-! SUPPORT. Bins at rest stay with their owners through a departure, and no further move aborts (R7, R49, R50, R96). -/

namespace Sys2Proof.Machine

variable {s t u v : State} {gone : SlotIx → Prop} {p q : PoolIx} {i j : SlotIx} {b c : BinIx} {e : EngineIx} {m : MoveRecord}

/-- Every abort of a loss of eligibility is counted in the pool of its move (R74). -/
theorem loseEligibility_aborted (hs : BinCore gone s) (hp : (s.slots.get i).pool = some p)
    (henabled : (s.pools.get p).enabled = true) (q : PoolIx) : (loseEligibility i s).poolCount q .abortedMoves
      = counterAdd (s.poolCount q .abortedMoves) (movesTo s q i) := by
  have hcomputed := recompute_recomputed p (onMoves (fun m => m.pool = p ∧ m.destination = i) abortMove s)
  have hcounts : (recompute p (onMoves (fun m => m.pool = p ∧ m.destination = i) abortMove s)).poolCount q .abortedMoves
      = (onMoves (fun m => m.pool = p ∧ m.destination = i) abortMove s).poolCount q .abortedMoves := by
    obtain rfl | hq := eq_or_ne q p
    · exact hcomputed.counts _ (by decide)
    · rw [State.poolCount, hcomputed.others q hq]
      rfl
  rw [loseEligibility_eq hp henabled, hcounts, onMoves_aborted abortMove_engines (fun e m s q => ?_), sum_endedIn hs hp]
  rw [abortMove_poolCount]
  exact if_congr (and_iff_left rfl) rfl rfl

/-- The bins at rest that slots other than `i` own stay with them at rest, and no move aborts. -/
structure RestsKept (i : SlotIx) (s t : State) : Prop where
  rest : ∀ q b j, j ≠ i → ((s.pools.get q).bins.get b).owner = .owned j → ((s.pools.get q).bins.get b).engine = none →
    ((t.pools.get q).bins.get b).owner = .owned j ∧ ((t.pools.get q).bins.get b).engine = none
  aborted : ∀ q, t.poolCount q .abortedMoves = s.poolCount q .abortedMoves

theorem RestsKept.trans (h : RestsKept i s t) (h' : RestsKept i t u) : RestsKept i s u where
  rest q b j hj ho he := by
    obtain ⟨ho', he'⟩ := h.rest q b j hj ho he
    exact h'.rest q b j hj ho' he'
  aborted q := (h'.aborted q).trans (h.aborted q)

theorem RestsKept.of_pools (h : t.pools = s.pools) : RestsKept i s t where
  rest q b j _ ho he := by rw [h]; exact ⟨ho, he⟩
  aborted q := by rw [State.poolCount, State.poolCount, h]

theorem RestsKept.refl (i : SlotIx) (s : State) : RestsKept i s s := .of_pools rfl

theorem RestsKept.recomputed (h : Recomputed p s t) : RestsKept i s t where
  rest q b j _ ho he := by
    obtain rfl | hq := eq_or_ne q p
    · refine ⟨(h.owned b (by rw [ho]; nofun)).trans ho, ?_⟩
      rw [h.fields]
      exact he
    · rw [h.others q hq]
      exact ⟨ho, he⟩
  aborted q := by
    obtain rfl | hq := eq_or_ne q p
    · exact h.counts _ (by decide)
    · rw [State.poolCount, h.others q hq]
      rfl

theorem RestsKept.commitMove (hs : MovesNamed s) (he : s.engines.get e = some m) : RestsKept i s (commitMove e m s) where
  rest q b j _ ho hrest := by
    rw [commitMove_bin, if_neg]
    · exact ⟨ho, hrest⟩
    · rintro ⟨rfl, rfl⟩
      rw [hs e m he] at hrest
      cases hrest
  aborted q := by rw [commitMove_poolCount, if_neg fun h => by cases h.2]

theorem RestsKept.engineCommit (hs : MovesNamed s) (he : s.engines.get e = some m) : RestsKept i s (engineCommit e m s) :=
  (RestsKept.commitMove hs he).trans (.recomputed (afterCommit_recomputed m _))

theorem RestsKept.updBin (p : PoolIx) (b : BinIx) {f : BinRecord → BinRecord}
    (hf : ∀ r, (f r).owner = r.owner ∧ (f r).engine = r.engine) (s : State) : RestsKept i s (s.updBin p b f) where
  rest q c j _ ho he := by
    rw [get_bin_updBin]
    split
    · exact ⟨(hf _).1.trans ho, (hf _).2.trans he⟩
    · exact ⟨ho, he⟩
  aborted q := by rw [State.poolCount, updBin_pool]; rfl

/-! The flushes (R96, R114). -/

/-- The laws that hold are kept, and with them the bins at rest. -/
structure Settles (i : SlotIx) (s t : State) : Prop where
  keeps : KeepsBins s t
  rests : BinLaws s → RestsKept i s t

theorem Settles.trans (h : Settles i s t) (h' : Settles i t u) : Settles i s u :=
  ⟨h.keeps.trans h'.keeps, fun hs => (h.rests hs).trans (h'.rests (h.keeps.laws hs))⟩

theorem lowerInflight_settles (p : PoolIx) (b : BinIx) (i : SlotIx) (s : State) : Settles i s (lowerInflight p b s) := by
  refine ⟨lowerInflight_keeps p b s, fun hs => ?_⟩
  have hlowered : RestsKept i s (lowered p b s) := .updBin (f := fun r => { r with inflight := r.inflight - 1 }) p b (fun _ => ⟨rfl, rfl⟩) s
  have hstand : BinsStand s (lowered p b s) := .updBin (f := fun r => { r with inflight := r.inflight - 1 }) p b fun _ => rfl
  by_cases hdrains : ∃ e m, ((s.pools.get p).bins.get b).engine = some e ∧ s.engines.get e = some m ∧ m.phase = .draining
      ∧ ((s.pools.get p).bins.get b).inflight ≤ 1
  · obtain ⟨e, m, hengine, he, hphase, hlast⟩ := hdrains
    rw [lowerInflight_drains hengine he hphase hlast]
    refine hlowered.trans ?_
    unfold drainEnd
    split
    · exact .engineCommit (hstand.laws hs).core.named he
    · exact .of_pools rfl
  · rw [lowerInflight_stays fun e m hengine he hphase hlast => hdrains ⟨e, m, hengine, he, hphase, hlast⟩]
    exact hlowered

theorem flushOne_settles (i j : SlotIx) (entry : EgressEntry) (s : State) : Settles i s (flushOne j entry s) := by
  have hstand : BinsStand s (bumpSlot j .flushed (popEgress j s)) := .of_eq rfl rfl rfl
  have hpop : Settles i s (bumpSlot j .flushed (popEgress j s)) := ⟨hstand.keeps, fun _ => .of_pools rfl⟩
  refine hpop.trans ?_
  unfold flushOne reportLeft
  split
  · exact lowerInflight_settles ..
  · exact ⟨.refl _, fun _ => .refl i _⟩

theorem flushEgress_settles (i : SlotIx) (s : State) : Settles i s (flushEgress i s) := by
  have habort : Settles i s (abortData i s) := ⟨(abortData_stand i s).keeps, fun _ => .of_pools (by rw [abortData_frame]; rfl)⟩
  have hflush : Settles i (abortData i s) (forEach (flushOne i) (s.egress.get i) (abortData i s)) :=
    forEach_relates (fun v => ⟨.refl v, fun _ => .refl i v⟩) (fun _ _ _ => .trans) (flushOne_settles i i) _ _
  refine (habort.trans hflush).trans ?_
  exact ⟨(evaluateConfirmation_stand i _).keeps, fun _ => .of_pools (evaluateConfirmation_members i _).pools_eq⟩

theorem flushQueues_settles (i : SlotIx) (s : State) : Settles i s (flushQueues i s) :=
  (flushEgress_settles i s).trans ⟨(flushUpstream_stand i _).keeps, fun _ => .of_pools (flushUpstream_frame i _).2.2.2.2⟩

/-! The evacuation (R50). -/

theorem giveBins_poolCount (p : PoolIx) (gifts : List (BinIx × SlotIx)) (s : State) (q : PoolIx) {k : PoolCounter}
    (hk : k ≠ .immediateAssigns) : (giveBins p gifts s).poolCount q k = s.poolCount q k := by
  rw [giveBins, poolCount_bumpPool, if_neg fun h => hk h.2]
  refine forEach_eq (g := fun s => s.poolCount q k) (fun g s => ?_) gifts s
  rw [State.poolCount, updBin_pool]
  rfl

theorem RestsKept.giveAway (p : PoolIx) (i : SlotIx) (s : State) : RestsKept i s (giveAway p i s) := by
  unfold Machine.giveAway
  split
  · refine ⟨fun q b j hj ho he => ?_, fun q => ?_⟩ <;> obtain rfl | hq := eq_or_ne q p
    · rw [disownBins_pool, if_neg fun h => hj (Owner.owned.inj (ho.symm.trans h))]
      exact ⟨ho, he⟩
    · rw [disownBins, State.updPool_pools, Table.get_modify_of_ne _ hq]
      exact ⟨ho, he⟩
    · rw [State.poolCount, disownBins, State.updPool_pools, Table.get_modify_self]
      rfl
    · rw [State.poolCount, disownBins, State.updPool_pools, Table.get_modify_of_ne _ hq]
      rfl
  · refine ⟨fun q b j hj ho he => ?_, fun q => giveBins_poolCount _ _ _ q (by decide)⟩
    obtain rfl | hq := eq_or_ne q p
    · obtain ⟨k, hk, -⟩ | ⟨-, hsame⟩ := giveBins_owner q ((ownedBins s q i).zip (receivers s q)) s b
      · have hi := mem_ownedBins.mp (List.of_mem_zip hk).1
        exact absurd (Owner.owned.inj (ho.symm.trans hi)) hj
      · refine ⟨hsame.trans ho, ?_⟩
        rw [giveBins_fields]
        exact he
    · rw [giveBins_others p _ s hq]
      exact ⟨ho, he⟩

theorem RestsKept.rebuildPlan (p : PoolIx) (i : SlotIx) (s : State) : RestsKept i s (rebuildPlan p s) :=
  .recomputed (p := p) (.updPool fun _ => rfl)

theorem MayEvacuate.rests (h : MayEvacuate gone i s) : RestsKept i s (evacuate i s) := by
  unfold evacuate
  split
  · exact .refl i s
  · next p hp =>
    obtain ⟨hmay, hrests⟩ : MayEvacuate gone i (onMoves (fun m => m.pool = p ∧ m.source = i) Machine.commitMove s)
        ∧ RestsKept i s (onMoves (fun m => m.pool = p ∧ m.source = i) Machine.commitMove s) := by
      refine onMoves_keeps (P := fun t => MayEvacuate gone i t ∧ RestsKept i s t) (fun e m t ht he _ => ?_) ⟨h, .refl i s⟩
      exact ⟨ht.1.commit he, ht.2.trans (.commitMove ht.1.core.named he)⟩
    have haborts : onMoves (fun m => m.pool = p ∧ m.destination = i) abortMove
        (onMoves (fun m => m.pool = p ∧ m.source = i) Machine.commitMove s)
        = onMoves (fun m => m.pool = p ∧ m.source = i) Machine.commitMove s :=
      onMoves_none fun e m hm => by simp [hmay.noneTo e m hm]
    dsimp only
    rw [haborts]
    refine hrests.trans ((RestsKept.giveAway p i _).trans ?_)
    exact (RestsKept.rebuildPlan p i _).trans (forEach_relates (.refl i) (fun _ _ _ => .trans)
      (fun j w => .of_pools (reportHoldings_members j w).pools_eq) _ _)

/-! The departure (R7). -/

/-- What a departure leaves of its slot, the state changed and the link told. -/
structure DepartedWhole (i : SlotIx) (s t : State) : Prop where
  egress : t.egress.get i = []
  upstream : t.upstream.get i = ⟨[], none⟩
  still : inActiveMove t i = false
  noBin : ∀ p b, ((t.pools.get p).bins.get b).owner ≠ .owned i
  aborted : ∀ e m, s.engines.get e = some m → m.destination = i → m.source ≠ i →
    ((t.pools.get m.pool).bins.get m.bin).owner = .owned m.source ∧ ((t.pools.get m.pool).bins.get m.bin).engine = none
  counted : ∀ p, t.poolCount p .abortedMoves = counterAdd (s.poolCount p .abortedMoves) (movesTo s p i)

/-- The laws hold up to the flushes (R7, steps 1 and 2). -/
theorem leaves_departed (h : Leaves i s t) (hs : BinLaws s) : BinLaws (departed i (s.slots.get i).state t) := by
  by_cases hholding : (s.slots.get i).state.holding = true
  · have hevac := (h.evacuates hs hholding rfl).1
    unfold departed
    simpa only [hholding, true_and] using hevac
  · have hold := Bool.eq_false_iff.mpr hholding
    rw [departed_idle hold]
    exact hs.shift_out h.roles (h.weight ▸ hs.weight i) (fun _ => h.pool) h.out (SlotState.not_eligible hold) (hs.ownsNone hold)

theorem movesTo_eq_zero (h : NoneTo i s) (p : PoolIx) : movesTo s p i = 0 := by
  rw [movesTo, List.length_eq_zero_iff, List.filter_eq_nil_iff]
  intro e _
  unfold engineMovesTo
  split
  · next m hm => simp [h e m hm]
  · exact Bool.false_ne_true

/-- The aborts of a departure, up to its flushes. -/
theorem leaves_aborts (h : Leaves i s t) (hs : BinLaws s) :
    (∀ e m, s.engines.get e = some m → m.destination = i → m.source ≠ i →
      (((departed i (s.slots.get i).state t).pools.get m.pool).bins.get m.bin).owner = .owned m.source
        ∧ (((departed i (s.slots.get i).state t).pools.get m.pool).bins.get m.bin).engine = none)
      ∧ ∀ p, (departed i (s.slots.get i).state t).poolCount p .abortedMoves
        = counterAdd (s.poolCount p .abortedMoves) (movesTo s p i) := by
  by_cases helig : (s.slots.get i).state.eligible = true
  · have hholding := SlotState.holding_of_eligible helig
    obtain ⟨p, hp, henabled⟩ := hs.holding i hholding
    have hp' := h.pool.trans hp
    have hcore := h.core hs
    have henabled' : (t.pools.get p).enabled = true := h.roles.pools ▸ henabled
    have haborts := loseEligibility_aborts hcore hp' henabled'
    have hcounts := loseEligibility_aborted hcore hp' henabled'
    have hrests : RestsKept i (loseEligibility i t) (departed i (s.slots.get i).state t) := by
      have hmay := h.mayEvacuate hs hholding
      unfold departed
      rw [if_pos helig] at hmay ⊢
      dsimp only
      split
      · exact hmay.rests
      · exact .refl i _
    refine ⟨fun e m he hd hsource => ?_, fun q => ?_⟩
    · have hmp : m.pool = p := by
        have hmember := (hs.core.move e m he).2.2.1
        rw [hd] at hmember
        exact Option.some.inj ((isMember_iff.mp hmember).symm.trans hp)
      obtain ⟨hengine, howner, -⟩ := haborts.bins e m (h.roles.engines ▸ he) hd
      rw [hmp]
      exact hrests.rest p m.bin m.source hsource (howner hsource) hengine
    · rw [hrests.aborted, hcounts, State.poolCount, State.poolCount, h.roles.pools, movesTo_congr (fun e => congrArg (fun table => (table.get e).map MoveRecord.course) h.roles.engines)]
  · have hold := Bool.eq_false_iff.mpr helig
    have hnone := hs.noneTo hold
    have hrests : RestsKept i t (departed i (s.slots.get i).state t) := by
      by_cases hholding : (s.slots.get i).state.holding = true
      · have hmay := h.mayEvacuate hs hholding
        unfold departed
        rw [if_neg helig] at hmay ⊢
        dsimp only
        split
        · exact hmay.rests
        · exact .refl i _
      · rw [departed_idle (Bool.eq_false_iff.mpr hholding)]
        exact .refl i t
    refine ⟨fun e m he hd => absurd hd (hnone e m he), fun q => ?_⟩
    rw [hrests.aborted, movesTo_eq_zero hnone, counterAdd_zero, State.poolCount, State.poolCount, h.roles.pools]

theorem leaves_whole (h : Leaves i s t) (hs : BinLaws s) :
    DepartedWhole i s (depart i (s.slots.get i).state t) := by
  have hdeparted := leaves_departed h hs
  obtain ⟨hlaws, hnone⟩ := h.depart hs
  have hrole (v : State) (hv : Follows t v) : (v.slots.get i).state.eligible = false := by
    obtain ⟨-, -, helig, -⟩ := role_iff.mp (hv.slots i).role
    exact helig.trans h.ineligible
  have hdepart : (((depart i (s.slots.get i).state t)).slots.get i).state.eligible = false := by
    obtain ⟨-, -, helig, -⟩ := role_iff.mp (depart_record i i (s.slots.get i).state t).role
    exact helig.trans h.ineligible
  have hflush := (flushQueues_settles i (departed i (s.slots.get i).state t)).rests hdeparted
  obtain ⟨haborts, hcounts⟩ := leaves_aborts h hs
  obtain ⟨hegress, -⟩ := depart_egress (i := i) (old := (s.slots.get i).state) (s := t)
    (hdeparted.noneTo (hrole _ (departed_follows ..)))
  refine ⟨hegress, depart_upstream .., hlaws.no_move hdepart hnone, hnone, fun e m he hd hsource => ?_, fun p => ?_⟩
  · obtain ⟨ho, hrest⟩ := haborts e m he hd hsource
    exact hflush.rest m.pool m.bin m.source hsource ho hrest
  · exact (hflush.aborted p).trans (hcounts p)

end Sys2Proof.Machine
end

section
/-! SUPPORT. FENCE and SLOT_RESET (R28, R30). -/

namespace Sys2Proof.Machine

variable {s t u : State} {i j : SlotIx} {tag slot force : Byte}

/-! The links of slots that are fenced or reset (R121). -/

theorem linkPark_state (i : SlotIx) (s : State) :
    ((s.links.get i).state = .up ∨ (s.links.get i).state = .parked → ((linkPark i s).links.get i).state = .parked)
    ∧ ((s.links.get i).state = .training ∨ (s.links.get i).state = .dark → ((linkPark i s).links.get i).state = .dark) := by
  refine ⟨fun h => ?_, fun h => ?_⟩ <;> obtain h | h := h
  · rw [linkPark_of_up h]
    simp [reportLeftUp, monitorLinkDown, clearLocalPause, LinkRecord.leaveUp]
  · rw [linkPark_of_down (.inr h), h]
  · have hdark : linkPark i s = linkGoDark i s := by simp only [linkPark, h]
    rw [hdark]
    exact linkGoDark_state i s
  · rw [linkPark_of_down (.inl h), h]

theorem dropLink_upstream (h : s.upstream.get i = ⟨[], none⟩) : (dropLink i s).upstream.get i = ⟨[], none⟩ := by
  have hcut : (cutReception i s).upstream = s.upstream := by
    unfold cutReception
    split <;> rfl
  unfold dropLink
  split
  · refine (Table.get_modify_self ..).trans ?_
    show { (cutReception i s).upstream.get i with pause := none } = _
    rw [hcut, h]
  · rw [hcut, h]
  · exact h
  · exact h

theorem linkTrain_upstream (h : s.upstream.get i = ⟨[], none⟩) : (linkTrain i s).upstream.get i = ⟨[], none⟩ :=
  dropLink_upstream h

/-- A cleared monitor stays cleared as its link is told to train (R30, R140, R147). -/
theorem linkTrain_cleared (i : SlotIx) (s : State) :
    ((linkTrain i (monitorClear i s)).monitors.get i).phase = .idle
      ∧ ((linkTrain i (monitorClear i s)).monitors.get i).run = 0
      ∧ ((linkTrain i (monitorClear i s)).monitors.get i).latchedCount = 0 := by
  have hclear : (monitorClear i s).monitors.get i = (s.monitors.get i).clear := Table.get_modify_self ..
  show ((dropLink i (monitorClear i s)).monitors.get i).phase = .idle ∧ ((dropLink i (monitorClear i s)).monitors.get i).run = 0
    ∧ ((dropLink i (monitorClear i s)).monitors.get i).latchedCount = 0
  obtain h | h := dropLink_reports i (monitorClear i s) <;> rw [h, hclear]
  · exact ⟨rfl, rfl, rfl⟩
  · exact ⟨rfl, rfl, rfl⟩

/-! FENCE (R28). -/

theorem accepting_stand (s : State) : BinsStand s (accepting s) := .of_eq rfl rfl rfl

theorem answerFence_of (hslot : slot.toNat = i.val + 1) : answerFence slot s
    = if (s.slots.get i).state = .empty ∨ (s.slots.get i).state = .fenced then .refuse .badState
      else .accept (fenceSlot i) fun s => slotResult s i :=
  withSlot_of hslot _

/-- The slot's record as a FENCE leaves it. -/
theorem fenceSlot_slot (i : SlotIx) (s : State) : (fenceSlot i s).slots.get i = (changeState i .fenced s).slots.get i := by
  have hlinks : (linkPark i (changeState i .fenced s)).slots = (changeState i .fenced s).slots := (linkPark_links i _).slots_eq
  have hstate := changeState_state i .fenced s
  have hstands := (depart_record i i (s.slots.get i).state (linkPark i (changeState i .fenced s))).stands
    (by rw [hlinks, hstate]; nofun) (by rw [hlinks, hstate]; nofun)
  rw [hlinks] at hstands
  exact hstands

theorem fenceSlot_link (i : SlotIx) (s : State) :
    ((fenceSlot i s).links.get i).state = ((linkPark i (changeState i .fenced s)).links.get i).state := by
  obtain ⟨control, tx, hlink⟩ := depart_link i (s.slots.get i).state (linkPark i (changeState i .fenced s))
  rw [fenceSlot, hlink]

theorem fenceSlot_whole (i : SlotIx) (hs : BinLaws s) : DepartedWhole i s (fenceSlot i s) :=
  leaves_whole ((changeState_leaves rfl s).links (linkPark_links i _)) hs

/-! SLOT_RESET (R30). -/

theorem answerSlotReset_of (hslot : slot.toNat = i.val + 1) : answerSlotReset slot force s
    = if (s.slots.get i).state = .empty ∨ (s.ports.get i).power.accepted = false then .refuse .badState
      else if slotHolds s i ∧ forceOf force = false then .refuse .holdsBins
      else .accept (resetSlot i) fun s => slotResult s i :=
  withSlot_of hslot _

/-- The slot is SEATED and its progress cleared, before it departs. -/
def unseated (i : SlotIx) (s : State) : State :=
  (changeState i .seated s).updSlot i fun r => { r.stopTimers with echoes := 0, beaconsQualified := false }

theorem resetSlot_eq (i : SlotIx) (s : State) :
    resetSlot i s = linkTrain i (monitorClear i (depart i (s.slots.get i).state (unseated i s))) := rfl

theorem unseated_get (i : SlotIx) (s : State) : (unseated i s).slots.get i
    = { ((changeState i .seated s).slots.get i).stopTimers with echoes := 0, beaconsQualified := false } := Table.get_modify_self ..

theorem resetSlot_slot (i : SlotIx) (s : State) : (resetSlot i s).slots.get i = (unseated i s).slots.get i := by
  have hstate : ((unseated i s).slots.get i).state = .seated := by
    rw [unseated_get]
    exact changeState_state ..
  have hstands := (depart_record i i (s.slots.get i).state (unseated i s)).stands (by rw [hstate]; nofun) (by rw [hstate]; nofun)
  have hclear (v : State) : (monitorClear i v).slots = v.slots := rfl
  rw [resetSlot_eq, (linkTrain_links i _).slots_eq, hclear, hstands]

/-- What a departure leaves stands as the link is told to train. -/
theorem DepartedWhole.trained (h : DepartedWhole i s t) : DepartedWhole i s (linkTrain i (monitorClear i t)) := by
  have hupstream := linkTrain_upstream (i := i) (s := monitorClear i t) h.upstream
  obtain ⟨_, _, _, _, htrain⟩ := linkTrain_links i (monitorClear i t)
  rw [htrain] at hupstream ⊢
  exact ⟨h.egress, hupstream, h.still, h.noBin, h.aborted, h.counted⟩

theorem resetSlot_whole (i : SlotIx) (hs : BinLaws s) : DepartedWhole i s (resetSlot i s) := by
  have hleaves : Leaves i s (unseated i s) := (changeState_leaves rfl s).updSlot fun _ => rfl
  exact (leaves_whole hleaves hs).trained

theorem unseated_timersStopped (i : SlotIx) (s : State) : ((unseated i s).slots.get i).timersStopped := by
  rw [unseated_get]
  exact ⟨rfl, rfl, rfl, rfl⟩

/-- The link of a slot that is reset trains anew (R30, R123). -/
theorem resetSlot_link (i : SlotIx) (s : State) : ((resetSlot i s).links.get i).state = .training
    ∧ ((resetSlot i s).links.get i).attemptTimer = some 50
    ∧ ((resetSlot i s).links.get i).train = some ⟨if (s.slots.get i).rateMode = .half then .half else .full, 1,
        s.agent.trainingAttempts, (s.slots.get i).rateMode⟩ := by
  obtain ⟨hstate, htimer, htrain⟩ := linkTrain_starts i (monitorClear i (depart i (s.slots.get i).state (unseated i s)))
  have hevent : EventAt i s (depart i (s.slots.get i).state (unseated i s)) := by
    refine EventAt.trans ?_ (depart_eventAt i _ _)
    refine (changeState_eventAt i .seated s).trans ?_
    exact .updSlot (fun _ => by simp [SlotRecord.stopTimers]) fun _ _ hk => hk
  obtain ⟨-, -, -, -, -, hmode, -⟩ := hevent.settings
  have hagent := hevent.proceeds.agent.settings.2.1
  refine ⟨hstate, htimer, htrain.trans ?_⟩
  have hclear (v : State) : (monitorClear i v).slots = v.slots ∧ (monitorClear i v).agent = v.agent := ⟨rfl, rfl⟩
  rw [(hclear _).1, (hclear _).2, hmode, hagent]

/-- Settles O48: both are a departure, under the laws whole, and what each does to the link and the record. -/
theorem fenceAndResetEmptyTheSlot : Obligations.FenceAndResetEmptyTheSlot := by
  refine ⟨?_, ?_⟩
  · intro s tag slot i h hslot r
    refine ⟨fun hout => ?_, fun hs hempty hfenced => ?_⟩
    · exact exec_refused (status := .badState) rfl h rfl ((answerFence_of hslot).trans (if_pos hout))
    · have hanswer := (answerFence_of (s := dropRequest s) hslot).trans (if_neg fun h => h.elim hempty hfenced)
      obtain ⟨t, ht, hnext, hanswers, hframe⟩ := exec_event (i := i) (owner := answerFence slot) rfl h rfl hanswer
        (fenceSlot_eventAt i _)
      have hslots := fenceSlot_slot i (accepting s)
      have hstate : ((fenceSlot i (accepting s)).slots.get i).state = .fenced := by
        rw [hslots]
        exact changeState_state ..
      have hweight : ((fenceSlot i (accepting s)).slots.get i).weight = r.weight := by
        obtain ⟨-, hweight, -⟩ := (fenceSlot_eventAt i (accepting s)).settings
        exact hweight
      rw [slotResult_of hslot hstate, hweight] at hanswers
      have hwhole := fenceSlot_whole i ((accepting_stand s).laws hs)
      have hlinks := linkPark_state i (changeState i .fenced (accepting s))
      rw [changeState_links] at hlinks
      have htimers : SlotRecord.timersStopped ((fenceSlot i (accepting s)).slots.get i) := by
        rw [hslots]
        exact changeState_timersStopped hfenced
      have hlink := fenceSlot_link i (accepting s)
      generalize fenceSlot i (accepting s) = v at *
      subst ht
      exact ⟨_, hnext, hanswers, hstate, htimers, hframe, fun hl => hlink.trans (hlinks.1 hl), fun hl => hlink.trans (hlinks.2 hl),
        hwhole.egress, congrArg UpstreamRecord.queue hwhole.upstream, hwhole.still, hwhole.noBin, hwhole.aborted, hwhole.counted⟩
  · intro s tag slot force i h hslot r powered holds
    have hanswer := answerSlotReset_of (s := dropRequest s) (force := force) hslot
    have hholds : slotHolds (dropRequest s) i = true ↔ holds := by
      rw [slotHolds, Bool.or_eq_true, decide_eq_true_iff]
      rfl
    refine ⟨fun hout => ?_, fun hempty hpower hheld hforce => ?_, fun hs hempty hpower hmay => ?_⟩
    · exact exec_refused (status := .badState) rfl h rfl (hanswer.trans (if_pos hout))
    · have hin : ¬ (r.state = .empty ∨ powered = false) := fun h => h.elim hempty fun h => Bool.false_ne_true (h.symm.trans hpower)
      exact exec_refused (status := .holdsBins) rfl h rfl
        (hanswer.trans ((if_neg hin).trans (if_pos ⟨hholds.mpr hheld, by rw [hforce]; rfl⟩)))
    · have hin : ¬ (r.state = .empty ∨ powered = false) := fun h => h.elim hempty fun h => Bool.false_ne_true (h.symm.trans hpower)
      have hfree : ¬ (slotHolds (dropRequest s) i = true ∧ forceOf force = false) := fun hc =>
        hmay.elim (fun hno => hno (hholds.mp hc.1)) fun hforce => of_decide_eq_false hc.2 hforce
      obtain ⟨t, ht, hnext, hanswers, hframe⟩ := exec_event (i := i) (owner := answerSlotReset slot force) rfl h rfl
        (hanswer.trans ((if_neg hin).trans (if_neg hfree))) (resetSlot_eventAt i _)
      have hget := (resetSlot_slot i (accepting s)).trans (unseated_get i _)
      have htimers : SlotRecord.timersStopped ((resetSlot i (accepting s)).slots.get i) := by
        rw [resetSlot_slot]
        exact unseated_timersStopped ..
      have hstate : ((resetSlot i (accepting s)).slots.get i).state = .seated := by
        rw [hget]
        exact changeState_state ..
      have hweight : ((resetSlot i (accepting s)).slots.get i).weight = r.weight := by
        obtain ⟨-, hweight, -⟩ := (resetSlot_eventAt i (accepting s)).settings
        exact hweight
      rw [slotResult_of hslot hstate, hweight] at hanswers
      have hechoes := congrArg SlotRecord.echoes hget
      have hbeacons := congrArg SlotRecord.beaconsQualified hget
      obtain ⟨hegress, hupstream, hstill, hnone, haborted, hcounted⟩ := resetSlot_whole i ((accepting_stand s).laws hs)
      obtain ⟨hlink, htimer, htrain⟩ := resetSlot_link i (accepting s)
      obtain ⟨hphase, hrun, hlatched⟩ := linkTrain_cleared i (depart i ((accepting s).slots.get i).state (unseated i (accepting s)))
      rw [← resetSlot_eq] at hphase hrun hlatched
      generalize resetSlot i (accepting s) = v at *
      subst ht
      exact ⟨_, hnext, hanswers, hstate, htimers, hframe, hechoes, hbeacons, hlink, htimer, htrain, hphase, hrun, hlatched,
        hegress, congrArg UpstreamRecord.queue hupstream, hstill, hnone, haborted, hcounted⟩

end Sys2Proof.Machine
end

section
/-! SUPPORT. A rebuilt plan pairs the donors' highest bins with the lowest members that have room (R44, R46). -/

namespace Sys2Proof.Machine

variable {s t : State} {gone : SlotIx → Prop} {p : PoolIx} {i j : SlotIx} {b : BinIx}

/-! Sorted lists. -/

/-- In a sorted list, what is not after an entry of a prefix is in that prefix too. -/
theorem mem_take_of_pairwise {α : Type} {r : α → α → Prop} {l : List α} {n : Nat} {x y : α} (h : l.Pairwise r)
    (hx : x ∈ l.take n) (hy : y ∈ l) (hnot : ¬ r x y) : y ∈ l.take n := by
  rw [← List.take_append_drop n l] at h hy
  obtain ⟨-, -, hsorted⟩ := List.pairwise_append.mp h
  exact (List.mem_append.mp hy).resolve_right fun hdrop => hnot (hsorted x hx y hdrop)

/-- In a sorted list, an entry before one of a prefix has all its occurrences in that prefix. -/
theorem count_take_of_lt {l : List SlotIx} {n : Nat} (h : l.Pairwise (· ≤ ·)) (hi : i ∈ l.take n) (hj : j < i) :
    (l.take n).count j = l.count j := by
  rw [← List.take_append_drop n l] at h
  obtain ⟨-, -, hsorted⟩ := List.pairwise_append.mp h
  have hdrop : (l.drop n).count j = 0 :=
    List.count_eq_zero.mpr fun hmem => absurd (hsorted i hi j hmem) (Fin.not_le.mpr hj)
  have hcount := List.count_append (a := j) (l₁ := l.take n) (l₂ := l.drop n)
  rw [List.take_append_drop] at hcount
  omega

theorem finRange_pairwise {n : Nat} (f : Fin n → Bool) : ((List.finRange n).filter f).Pairwise (· < ·) :=
  (List.pairwise_lt_finRange n).filter _

/-! The deficit members (R45, R46). -/

theorem receivers_sorted (s : State) (p : PoolIx) : (receivers s p).Pairwise (· ≤ ·) := by
  rw [receivers, List.pairwise_flatMap]
  refine ⟨fun j _ => List.pairwise_replicate.mpr (.inr le_rfl), (finRange_pairwise _).imp fun {j k} hjk x hx y hy => ?_⟩
  rw [List.eq_of_mem_replicate hx, List.eq_of_mem_replicate hy]
  exact le_of_lt hjk

/-- The room below the target of an eligible member; another slot has none. -/
theorem count_receivers (s : State) (p : PoolIx) (j : SlotIx) : (receivers s p).count j
    = if isEligible s p j then (s.pools.get p).targets.get j - countsFor s p j else 0 := by
  rw [receivers, List.count_flatMap, eligibleMembers]
  simp only [Function.comp_def, List.count_replicate]
  rw [sum_filter_finRange, Finset.sum_filter, ← holdings_eq]
  refine (Finset.sum_congr rfl fun k _ => ?_).trans (Finset.sum_ite_eq' Finset.univ j fun k =>
    if isEligible s p k = true then (s.pools.get p).targets.get k - holdings s p k else 0) |>.trans (if_pos (Finset.mem_univ j))
  by_cases hk : k = j
  · simp [hk]
  · simp [hk]

/-! The released bins (R46). -/

theorem atRest_eq (s : State) (p : PoolIx) (i : SlotIx) :
    (binsWhere s p fun b => b.owner = .owned i ∧ b.engine = none) = atRest s p i := rfl

theorem mem_atRest : b ∈ atRest s p i ↔ ((s.pools.get p).bins.get b).owner = .owned i
    ∧ ((s.pools.get p).bins.get b).engine = none := by
  simp [atRest]

theorem atRest_descends (s : State) (p : PoolIx) (i : SlotIx) : (atRest s p i).reverse.Pairwise (fun b c => c < b) :=
  List.pairwise_reverse.mpr (finRange_pairwise _)

theorem mem_releasedBy_iff {g : BinIx × SlotIx} : g ∈ releasedBy s p i ↔ g.2 = i
    ∧ g.1 ∈ (atRest s p i).reverse.take (countsFor s p i - (s.pools.get p).targets.get i) := by
  obtain ⟨b, k⟩ := g
  rw [releasedBy, holdings_eq, atRest_eq, List.mem_map]
  constructor
  · rintro ⟨c, hc, hg⟩
    obtain ⟨rfl, rfl⟩ := Prod.mk.inj hg
    exact ⟨rfl, hc⟩
  · rintro ⟨rfl, hb⟩
    exact ⟨b, hb, rfl⟩

theorem releasedBy_length (s : State) (p : PoolIx) (i : SlotIx) : (releasedBy s p i).length
    = min (countsFor s p i - (s.pools.get p).targets.get i) (atRest s p i).length := by
  rw [releasedBy, holdings_eq, atRest_eq, List.length_map, List.length_take, List.length_reverse]

theorem mem_released {g : BinIx × SlotIx} : g ∈ released s p ↔ isHolding s p g.2 = true
    ∧ g.1 ∈ (atRest s p g.2).reverse.take (countsFor s p g.2 - (s.pools.get p).targets.get g.2) := by
  rw [released, List.mem_flatMap]
  constructor
  · rintro ⟨i, hi, hg⟩
    obtain ⟨rfl, hg⟩ := mem_releasedBy_iff.mp hg
    exact ⟨(List.mem_filter.mp hi).2, hg⟩
  · rintro ⟨hi, hg⟩
    exact ⟨g.2, List.mem_filter.mpr ⟨List.mem_finRange _, hi⟩, mem_releasedBy_iff.mpr ⟨rfl, hg⟩⟩

/-- Donors ascending, and the bins of each descending. -/
theorem released_sorted (s : State) (p : PoolIx) :
    (released s p).Pairwise fun g g' => g.2 < g'.2 ∨ g.2 = g'.2 ∧ g'.1 < g.1 := by
  rw [released, List.pairwise_flatMap]
  refine ⟨fun i _ => ?_, (finRange_pairwise _).imp fun {i k} hik x hx y hy => .inl ?_⟩
  · rw [releasedBy, atRest_eq, List.pairwise_map]
    exact ((atRest_descends s p i).sublist (List.take_sublist _ _)).imp fun h => .inr ⟨rfl, h⟩
  · rw [(mem_releasedBy_iff.mp hx).1, (mem_releasedBy_iff.mp hy).1]
    exact hik

theorem released_from (h : isHolding s p i = true) :
    ((released s p).filter fun g => g.2 = i).length = (releasedBy s p i).length := by
  rw [released, List.filter_flatMap, List.length_flatMap, sum_filter_finRange, Finset.sum_filter]
  refine (Finset.sum_congr rfl fun k _ => ?_).trans (Finset.sum_ite_eq' Finset.univ i fun k => (releasedBy s p k).length)
    |>.trans (if_pos (Finset.mem_univ i))
  by_cases hk : k = i
  · subst hk
    rw [if_pos h, if_pos rfl, List.filter_eq_self.mpr fun g hg => by simp [(mem_releasedBy_iff.mp hg).1]]
  · rw [if_neg hk, List.filter_eq_nil_iff.mpr fun g hg => by simp [(mem_releasedBy_iff.mp hg).1, hk]]
    exact ite_self _

theorem released_length (s : State) (p : PoolIx) : (released s p).length
    = ∑ j with isHolding s p j = true, min (countsFor s p j - (s.pools.get p).targets.get j) (atRest s p j).length := by
  rw [released, List.length_flatMap, sum_filter_finRange]
  exact Finset.sum_congr rfl fun j _ => releasedBy_length s p j

theorem isHolding_of_eligible (h : isEligible s p j = true) : isHolding s p j = true := by
  obtain ⟨hmember, helig⟩ := isEligible_iff.mp h
  exact isHolding_iff.mpr ⟨hmember, SlotState.holding_of_eligible helig⟩

/-- The bins at rest of members that are not eligible leave room for the holdings of those that are. -/
theorem sum_atRest_le (hs : BinCore gone s) (p : PoolIx) : (∑ j with isEligible s p j = true, countsFor s p j)
    + ∑ j with isHolding s p j = true ∧ ¬ isEligible s p j = true, (atRest s p j).length ≤ 64 := by
  have hcard : ((Finset.univ.filter fun j => isHolding s p j = true ∧ ¬ isEligible s p j = true).biUnion fun j =>
      (atRest s p j).toFinset).card
      = ∑ j with isHolding s p j = true ∧ ¬ isEligible s p j = true, (atRest s p j).length := by
    rw [Finset.card_biUnion fun j _ k _ hne => Finset.disjoint_left.mpr fun b hb hb' => hne ?_]
    · exact Finset.sum_congr rfl fun j _ => List.toFinset_card_of_nodup ((List.nodup_finRange 64).filter _)
    · have hj := (mem_atRest.mp (List.mem_toFinset.mp hb)).1
      have hk := (mem_atRest.mp (List.mem_toFinset.mp hb')).1
      exact Owner.owned.inj (hj.symm.trans hk)
  rw [← hcard]
  simp only [← holdings_eq]
  refine sum_holdings_le hs fun b hb k hk => ?_
  obtain ⟨j, hj, hb⟩ := Finset.mem_biUnion.mp hb
  obtain ⟨-, -, hnot⟩ := Finset.mem_filter.mp hj
  obtain ⟨howner, hrest⟩ := mem_atRest.mp (List.mem_toFinset.mp hb)
  rw [countedFor, hrest, Option.elim_none, howner, Owner.slot?_eq_some] at hk
  rw [← Owner.owned.inj hk]
  exact Bool.eq_false_iff.mpr hnot

/-- Where a member is eligible, there is room for every bin released (R42, R46). -/
theorem released_fit (hs : BinCore gone s) (h : isEligible s p i = true)
    (htargets : ∀ j, (s.pools.get p).targets.get j = targetOf (eligibleWeight s p) j) :
    (released s p).length ≤ (receivers s p).length := by
  have hrest := sum_atRest_le hs p
  have htotal : ∑ j with isEligible s p j = true, (s.pools.get p).targets.get j = 64 := by
    rw [← sum_targetOf_eligible hs h]
    exact Finset.sum_congr rfl fun j _ => htargets j
  have hroom : (receivers s p).length + ∑ j with isEligible s p j = true, countsFor s p j
      = (∑ j with isEligible s p j = true, (s.pools.get p).targets.get j)
        + ∑ j with isEligible s p j = true, (countsFor s p j - (s.pools.get p).targets.get j) := by
    rw [receivers_length, ← Finset.sum_add_distrib, ← Finset.sum_add_distrib]
    exact Finset.sum_congr rfl fun j _ => by rw [holdings_eq]; omega
  have hsplit : (released s p).length
      ≤ (∑ j with isEligible s p j = true, (countsFor s p j - (s.pools.get p).targets.get j))
        + ∑ j with isHolding s p j = true ∧ ¬ isEligible s p j = true, (atRest s p j).length := by
    rw [released_length, ← Finset.sum_filter_add_sum_filter_not (Finset.univ.filter fun j => isHolding s p j = true)
      (fun j => isEligible s p j = true), Finset.filter_filter, Finset.filter_filter]
    refine Nat.add_le_add ?_ (Finset.sum_le_sum fun j _ => min_le_right _ _)
    refine (Finset.sum_le_sum fun j _ => min_le_left _ _).trans (le_of_eq (Finset.sum_congr ?_ fun _ _ => rfl))
    ext j
    simp only [Finset.mem_filter, Finset.mem_univ, true_and]
    exact and_iff_right_of_imp isHolding_of_eligible
  omega

/-! The plan. -/

theorem plannedMoves_bins (s : State) (p : PoolIx) : ((plannedMoves s p).map fun e => (e.bin, e.source))
    = (released s p).take (receivers s p).length := by
  rw [plannedMoves_eq, List.map_map, ← map_fst_zip_eq_take]
  rfl

theorem plannedMoves_destinations (s : State) (p : PoolIx) : (plannedMoves s p).map PlanEntry.destination
    = (receivers s p).take (released s p).length := by
  rw [plannedMoves_eq, List.map_map, ← map_snd_zip_eq_take]
  rfl

theorem planned_to (s : State) (p : PoolIx) (j : SlotIx) : ((plannedMoves s p).filter fun e => e.destination = j).length
    = ((receivers s p).take (released s p).length).count j := by
  rw [← plannedMoves_destinations, List.count, List.countP_map, List.countP_eq_length_filter]
  exact congrArg List.length (List.filter_congr fun e _ => (beq_eq_decide _ _).symm)

theorem planned_from (s : State) (p : PoolIx) (i : SlotIx) : ((plannedMoves s p).filter fun e => e.source = i).length
    = (((released s p).take (receivers s p).length).filter fun g => g.2 = i).length := by
  rw [← plannedMoves_bins, List.filter_map, List.length_map]
  rfl

theorem rebuildPlan_rest (p : PoolIx) (s : State) (i : SlotIx) : atRest (rebuildPlan p s) p i = atRest s p i := by
  simp only [atRest, rebuildPlan_pool]

theorem rebuildPlan_countsFor (p : PoolIx) (s : State) (i : SlotIx) : countsFor (rebuildPlan p s) p i = countsFor s p i := by
  rw [countsFor, countsFor, rebuildPlan_rest]
  rfl

theorem rebuildPlan_window (p : PoolIx) (s : State) : windowOpen (rebuildPlan p s) p = windowOpen s p := by
  rw [windowOpen, windowOpen, rebuildPlan_pool]

theorem rebuildPlan_plan (p : PoolIx) (s : State) : ((rebuildPlan p s).pools.get p).plan
    = if windowOpen s p = true then [] else plannedMoves s p := by
  rw [rebuildPlan_pool]

/-- What an entry of a plan that was built comes from. -/
theorem mem_plannedMoves {e : PlanEntry} (h : e ∈ plannedMoves s p) :
    (e.bin, e.source) ∈ (released s p).take (receivers s p).length ∧ e.destination ∈ (receivers s p).take (released s p).length := by
  rw [← plannedMoves_bins, ← plannedMoves_destinations]
  exact ⟨List.mem_map_of_mem (f := fun e : PlanEntry => (e.bin, e.source)) h, List.mem_map_of_mem h⟩

theorem mem_rebuilt {e : PlanEntry} (h : e ∈ ((rebuildPlan p s).pools.get p).plan) : e ∈ plannedMoves s p := by
  rw [rebuildPlan_plan] at h
  split_ifs at h
  · exact absurd h List.not_mem_nil
  · exact h

theorem rebuilt_of_mem {e : PlanEntry} (h : e ∈ ((rebuildPlan p s).pools.get p).plan) :
    ((rebuildPlan p s).pools.get p).plan = plannedMoves s p := by
  rw [rebuildPlan_plan] at h ⊢
  split_ifs at h ⊢
  · exact absurd h List.not_mem_nil
  · rfl

/-- A released bin and the higher ones at rest of its donor (R46). -/
theorem released_highest {n : Nat} (h : (b, i) ∈ (released s p).take n) {c : BinIx} (hc : c ∈ atRest s p i) (hbc : b < c) :
    (c, i) ∈ (released s p).take n := by
  obtain ⟨hholding, hb⟩ := mem_released.mp (List.mem_of_mem_take h)
  refine mem_take_of_pairwise (released_sorted s p) h (mem_released.mpr ⟨hholding, ?_⟩) fun hr => ?_
  · exact mem_take_of_pairwise (atRest_descends s p i) hb (List.mem_reverse.mpr hc) (not_lt_of_gt hbc)
  · obtain hlt | ⟨-, hlt⟩ := hr
    · exact lt_irrefl _ hlt
    · exact not_lt_of_gt hbc hlt

/-- A rebuilt plan, where the targets are those of the eligible members (R44, R46). -/
theorem rebuildPlan_built (hs : BinCore gone s)
    (htargets : ∀ j, (s.pools.get p).targets.get j = targetOf (eligibleWeight s p) j) : PlanBuilt (rebuildPlan p s) p := by
  have htarget (j : SlotIx) : ((rebuildPlan p s).pools.get p).targets.get j = (s.pools.get p).targets.get j := by
    rw [rebuildPlan_pool]
  have helig (j : SlotIx) : isEligible (rebuildPlan p s) p j = isEligible s p j := rfl
  have hhold (j : SlotIx) : isHolding (rebuildPlan p s) p j = isHolding s p j := rfl
  constructor
  case window => exact fun h => by rw [rebuildPlan_window] at h; rw [rebuildPlan_plan, if_pos h]
  case donor =>
    intro e he
    rw [rebuildPlan_rest, rebuildPlan_countsFor, htarget, hhold]
    obtain ⟨hholding, hb⟩ := mem_released.mp (List.mem_of_mem_take (mem_plannedMoves (mem_rebuilt he)).1)
    refine ⟨hholding, List.mem_reverse.mp (List.mem_of_mem_take hb), ?_⟩
    have hpos := List.length_pos_of_mem hb
    rw [List.length_take] at hpos
    dsimp only at hpos
    omega
  case order =>
    rw [rebuildPlan_plan]
    split
    · exact .nil
    · have h := (released_sorted s p).sublist (List.take_sublist (receivers s p).length _)
      rw [← plannedMoves_bins, List.pairwise_map] at h
      exact h
  case highest =>
    intro e b he hb hlt
    rw [rebuildPlan_rest] at hb
    have hmem := released_highest (mem_plannedMoves (mem_rebuilt he)).1 hb hlt
    rw [← plannedMoves_bins, List.mem_map] at hmem
    obtain ⟨e', he', heq⟩ := hmem
    rw [rebuilt_of_mem he]
    exact List.mem_map.mpr ⟨e', he', congrArg Prod.fst heq⟩
  case excess =>
    rintro hwindow ⟨j, hj⟩ i hi
    rw [rebuildPlan_window] at hwindow
    rw [helig] at hj
    rw [hhold] at hi
    rw [rebuildPlan_rest, rebuildPlan_countsFor, htarget, rebuildPlan_plan, if_neg (by rw [hwindow]; exact Bool.false_ne_true), planned_from,
      List.take_of_length_le (released_fit hs hj htargets), released_from hi, releasedBy_length]
  case receiver => exact fun e he => mem_receivers (s := s) (List.mem_of_mem_take (mem_plannedMoves (mem_rebuilt he)).2)
  case room =>
    intro j
    rw [rebuildPlan_countsFor, htarget, rebuildPlan_plan]
    split
    · exact Nat.zero_le _
    · have hcount := (List.take_sublist (released s p).length (receivers s p)).count_le j
      rw [planned_to]
      rw [count_receivers] at hcount
      split_ifs at hcount
      · exact hcount
      · omega
  case lowest =>
    intro e j he hj hlt
    rw [helig] at hj
    rw [rebuildPlan_countsFor, htarget, rebuilt_of_mem he, planned_to,
      count_take_of_lt (receivers_sorted s p) (mem_plannedMoves (mem_rebuilt he)).2 hlt, count_receivers, if_pos hj]
  case pairing =>
    rw [rebuildPlan_plan]
    split
    · exact .nil
    · have h := (receivers_sorted s p).sublist (List.take_sublist (released s p).length _)
      rw [← plannedMoves_destinations, List.pairwise_map] at h
      exact h

end Sys2Proof.Machine
end

section
/-! SUPPORT. Immediate assignment fills the deficit members, lowest first, and a recomputation leaves it and its plan in force
(R44–R46). -/

namespace Sys2Proof.Machine

variable {s t u v : State} {gone : SlotIx → Prop} {p : PoolIx} {i j : SlotIx} {b c : BinIx}

/-! What the bins at rest and the moves say, where they stand. -/

theorem BinsStand.isEligible (h : BinsStand s t) (p : PoolIx) (j : SlotIx) : isEligible t p j = Machine.isEligible s p j :=
  isEligible_congr h.roles p j

theorem BinsStand.isHolding (h : BinsStand s t) (p : PoolIx) (j : SlotIx) : isHolding t p j = Machine.isHolding s p j :=
  isHolding_congr h.roles p j

theorem BinsStand.atRest (h : BinsStand s t) (p : PoolIx) (j : SlotIx) : atRest t p j = Machine.atRest s p j := by
  simp only [Machine.atRest, h.owner, h.engine]

theorem BinsStand.countsFor (h : BinsStand s t) (p : PoolIx) (j : SlotIx) : countsFor t p j = Machine.countsFor s p j := by
  rw [Machine.countsFor, Machine.countsFor, h.atRest, movesTo_congr h.courses]

theorem BinsStand.planBuilt (h : BinsStand s t) (hplan : PlanBuilt s p) : PlanBuilt t p := by
  obtain ⟨-, -, htargets, hsame, hwindow⟩ := tables_iff.mp (h.tables p)
  constructor
  case window => rw [hsame, windowOpen, hwindow]; exact hplan.window
  case donor =>
    intro e he
    rw [h.isHolding, h.atRest, h.countsFor, htargets]
    exact hplan.donor e (hsame ▸ he)
  case order => rw [hsame]; exact hplan.order
  case highest =>
    intro e b he hb
    rw [hsame]
    exact hplan.highest e b (hsame ▸ he) (h.atRest p e.source ▸ hb)
  case excess =>
    rintro hw ⟨j, hj⟩ i hi
    rw [h.countsFor, h.atRest, htargets, hsame]
    rw [windowOpen, hwindow] at hw
    exact hplan.excess hw ⟨j, h.isEligible p j ▸ hj⟩ i (h.isHolding p i ▸ hi)
  case receiver => exact fun e he => (h.isEligible p _).trans (hplan.receiver e (hsame ▸ he))
  case room => intro j; rw [h.countsFor, htargets, hsame]; exact hplan.room j
  case lowest =>
    intro e j he hj hlt
    rw [h.countsFor, htargets, hsame]
    exact hplan.lowest e j (hsame ▸ he) (h.isEligible p j ▸ hj) hlt
  case pairing => rw [hsame]; exact hplan.pairing

/-- An empty plan is the one that a pool without an eligible member calls for. -/
theorem PlanBuilt.of_none (hplan : (t.pools.get p).plan = []) (hdark : ∀ j, isEligible t p j = false) : PlanBuilt t p := by
  have hno {e : PlanEntry} (he : e ∈ (t.pools.get p).plan) : False := List.not_mem_nil (hplan ▸ he)
  constructor
  case window => exact fun _ => hplan
  case donor => exact fun _ he => (hno he).elim
  case order => rw [hplan]; exact .nil
  case highest => exact fun _ _ he => (hno he).elim
  case excess => exact fun _ ⟨j, hj⟩ => absurd ((hdark j).symm.trans hj) Bool.false_ne_true
  case receiver => exact fun _ he => (hno he).elim
  case room => intro j; rw [hplan]; exact Nat.zero_le _
  case lowest => exact fun _ _ he => (hno he).elim
  case pairing => rw [hplan]; exact .nil

/-- A recomputation leaves the plan that its pool calls for (R44, R46). -/
theorem recompute_built (hs : BinCore gone s) (henabled : (s.pools.get p).enabled = true) : PlanBuilt (recompute p s) p := by
  have hretarget := (retarget_regiven p s).core hs (by
    rw [windowOpen, retarget_pool]
    exact hs.stale p)
  have henabled' : ((retarget p s).pools.get p).enabled = true := by rw [retarget_pool]; exact henabled
  have hregiven := assignUnowned_regiven hretarget henabled'
  obtain ⟨-, -, htargets, -, hwindow⟩ := tables_iff.mp (giveBins_tables p
    ((binsWhere (retarget p s) p fun b => b.owner = .unowned).zip (receivers (retarget p s) p)) (retarget p s))
  have hcore : BinCore gone (assignUnowned p (retarget p s)) := hregiven.core hretarget fun b i ho _ => by
    rw [assignUnowned, windowOpen, hwindow]
    obtain hsame | ⟨-, j, -, hj⟩ := assignUnowned_owner p (retarget p s) b
    · exact hretarget.stale p b i (hsame ▸ ho) henabled'
    · cases hj.symm.trans ho
  refine (recompute_stand henabled).planBuilt (rebuildPlan_built hcore fun j => ?_)
  rw [eligibleWeight_of_slots hregiven.slots, assignUnowned, htargets, retarget_pool, Table.get_tab]
  rfl

/-! Immediate assignment (R45). -/

/-- The bins given away, each with its receiver, both ascending. -/
def gifts (s : State) (p : PoolIx) : List (BinIx × SlotIx) :=
  (binsWhere s p fun b => b.owner = .unowned).zip (receivers s p)

theorem assignUnowned_eq (p : PoolIx) (s : State) : assignUnowned p s = giveBins p (gifts s p) s := rfl

theorem gifts_bins (s : State) (p : PoolIx) : (gifts s p).map Prod.fst
    = (binsWhere s p fun b => b.owner = .unowned).take (receivers s p).length := map_fst_zip_eq_take _ _

theorem gifts_receivers (s : State) (p : PoolIx) : (gifts s p).map Prod.snd
    = (receivers s p).take (binsWhere s p fun b => b.owner = .unowned).length := map_snd_zip_eq_take _ _

theorem gifts_nodup (s : State) (p : PoolIx) : ((gifts s p).map Prod.fst).Nodup := by
  rw [gifts_bins]
  exact (binsWhere_nodup s p _).sublist (List.take_sublist _ _)

theorem unowned_of_gift {g : BinIx × SlotIx} (h : g ∈ gifts s p) : ((s.pools.get p).bins.get g.1).owner = .unowned :=
  mem_unownedBins.mp (List.of_mem_zip h).1

theorem receiver_of_gift {g : BinIx × SlotIx} (h : g ∈ gifts s p) : g.2 ∈ (receivers s p).take
    (binsWhere s p fun b => b.owner = .unowned).length := by
  rw [← gifts_receivers]
  exact List.mem_map_of_mem h

/-- The receivers of two bins are in the order of the bins. -/
theorem gifts_ordered {g g' : BinIx × SlotIx} (h : g ∈ gifts s p) (h' : g' ∈ gifts s p) (hlt : g.1 < g'.1) : g.2 ≤ g'.2 := by
  have hbins : ((gifts s p).map Prod.fst).Pairwise (· < ·) := by
    rw [gifts_bins]
    exact (finRange_pairwise _).sublist (List.take_sublist _ _)
  have hslots : ((gifts s p).map Prod.snd).Pairwise (· ≤ ·) := by
    rw [gifts_receivers]
    exact (receivers_sorted s p).sublist (List.take_sublist _ _)
  rw [List.pairwise_map] at hbins hslots
  have hup : (gifts s p).Pairwise fun g g' => g.1 < g'.1 → g.2 ≤ g'.2 :=
    List.Pairwise.imp (fun {g g' : BinIx × SlotIx} (h : g.2 ≤ g'.2) (_ : g.1 < g'.1) => h) hslots
  have hdown : (gifts s p).Pairwise (flip fun g g' => g.1 < g'.1 → g.2 ≤ g'.2) :=
    hbins.imp fun h h' => absurd h' (lt_asymm h)
  exact hup.forall_of_forall_of_flip (fun _ _ _ => le_rfl) hdown h h' hlt

/-- A bin that was given has its receiver as its owner. -/
theorem gift_iff (h : ((s.pools.get p).bins.get b).owner = .unowned) :
    (((assignUnowned p s).pools.get p).bins.get b).owner = .owned j ↔ (b, j) ∈ gifts s p := by
  rw [assignUnowned_eq]
  obtain ⟨k, hk, ho⟩ | ⟨hnot, ho⟩ := giveBins_owner p (gifts s p) s b
  · rw [ho]
    refine ⟨fun hj => Owner.owned.inj hj ▸ hk, fun hj => congrArg _ ?_⟩
    exact congrArg Prod.snd (List.inj_on_of_nodup_map (gifts_nodup s p) hk hj rfl)
  · rw [ho, h]
    exact ⟨nofun, fun hj => absurd (List.mem_map_of_mem (f := Prod.fst) hj) hnot⟩

theorem assignUnowned_kept (h : ((s.pools.get p).bins.get b).owner ≠ .unowned) :
    (((assignUnowned p s).pools.get p).bins.get b).owner = ((s.pools.get p).bins.get b).owner :=
  (assignUnowned_owner p s b).resolve_right fun hc => h hc.1

theorem assignUnowned_targets (p : PoolIx) (s : State) :
    ((assignUnowned p s).pools.get p).targets = (s.pools.get p).targets := by
  obtain ⟨-, -, htargets, -⟩ := tables_iff.mp (giveBins_tables p (gifts s p) s)
  exact htargets

/-- The bins given to slot `j`. -/
theorem card_gifts (s : State) (p : PoolIx) (j : SlotIx) :
    (Finset.univ.filter fun b => (b, j) ∈ gifts s p).card = ((gifts s p).map Prod.snd).count j := by
  have hnodup : (((gifts s p).filter fun g => g.2 = j).map Prod.fst).Nodup :=
    (gifts_nodup s p).sublist (List.filter_sublist.map Prod.fst)
  rw [List.count, List.countP_map, List.countP_eq_length_filter,
    ← List.length_map (f := Prod.fst) (as := (gifts s p).filter _)]
  refine Eq.trans ?_ (List.toFinset_card_of_nodup hnodup)
  congr 1
  ext b
  simp

/-- Immediate assignment adds to a slot's holdings the bins it gives (R45). -/
theorem assignUnowned_countsFor (hs : BinCore gone s) (j : SlotIx) : countsFor (assignUnowned p s) p j
    = countsFor s p j + ((receivers s p).take (binsWhere s p fun b => b.owner = .unowned).length).count j := by
  have hengine (b : BinIx) : (((assignUnowned p s).pools.get p).bins.get b).engine = ((s.pools.get p).bins.get b).engine := by
    rw [assignUnowned, giveBins_fields]
  have hmoves : movesTo (assignUnowned p s) p j = movesTo s p j :=
    movesTo_congr (fun e => by rw [assignUnowned, giveBins_engines]) p j
  have hunion : (Finset.univ.filter fun b => (((assignUnowned p s).pools.get p).bins.get b).owner = .owned j
        ∧ (((assignUnowned p s).pools.get p).bins.get b).engine = none)
      = (Finset.univ.filter fun b => ((s.pools.get p).bins.get b).owner = .owned j ∧ ((s.pools.get p).bins.get b).engine = none)
        ∪ Finset.univ.filter fun b => (b, j) ∈ gifts s p := by
    ext b
    simp only [Finset.mem_filter, Finset.mem_union, Finset.mem_univ, true_and, hengine]
    by_cases hb : ((s.pools.get p).bins.get b).owner = .unowned
    · have hrest := hs.engine_none (p := p) (b := b) fun k => by rw [hb]; nofun
      simp [gift_iff hb, hrest, hb]
    · rw [assignUnowned_kept hb]
      exact ⟨.inl, fun h => h.resolve_right fun hg => hb (unowned_of_gift hg)⟩
  have hdisjoint : Disjoint (Finset.univ.filter fun b => ((s.pools.get p).bins.get b).owner = .owned j
      ∧ ((s.pools.get p).bins.get b).engine = none) (Finset.univ.filter fun b => (b, j) ∈ gifts s p) :=
    Finset.disjoint_left.mpr fun b hb hg => by
      have hu := unowned_of_gift (Finset.mem_filter.mp hg).2
      rw [(Finset.mem_filter.mp hb).2.1] at hu
      cases hu
  have hrest (w : State) : (atRest w p j).length = (Finset.univ.filter fun b => ((w.pools.get p).bins.get b).owner = .owned j
      ∧ ((w.pools.get p).bins.get b).engine = none).card := by
    rw [atRest, ← card_filter_finRange]
    congr 1
    ext b
    simp
  rw [countsFor, countsFor, hmoves, hrest, hunion, Finset.card_union_of_disjoint hdisjoint, card_gifts, gifts_receivers,
    ← hrest]
  omega

/-- What immediate assignment leaves (R45). -/
theorem assignUnowned_assigned (hs : BinCore gone s) :
    Assigned p (fun b => ((s.pools.get p).bins.get b).owner) s (assignUnowned p s) := by
  have helig (j : SlotIx) : isEligible (assignUnowned p s) p j = isEligible s p j := isEligible_of_slots (giveBins_slots ..) p j
  have htargets := assignUnowned_targets p s
  have hgift {b : BinIx} (hb : ((s.pools.get p).bins.get b).owner = .unowned)
      (hne : (((assignUnowned p s).pools.get p).bins.get b).owner ≠ .unowned) :
      ∃ j, (((assignUnowned p s).pools.get p).bins.get b).owner = .owned j ∧ (b, j) ∈ gifts s p := by
    obtain ho | ⟨-, j, -, ho⟩ := assignUnowned_owner p s b
    · exact absurd (ho.trans hb) hne
    · exact ⟨j, ho, (gift_iff hb).mp ho⟩
  have hroom {j : SlotIx} (hj : j ∈ receivers s p) : countsFor s p j ≤ (s.pools.get p).targets.get j := by
    have hpos := List.count_pos_iff.mpr hj
    rw [count_receivers, if_pos (mem_receivers hj)] at hpos
    omega
  constructor
  case kept => exact fun b hb => assignUnowned_kept hb
  case fields => exact fun b => giveBins_fields ..
  case given =>
    intro b hb hne
    obtain ⟨j, ho, hg⟩ := hgift hb hne
    have hmem := receiver_of_gift hg
    have hj := List.mem_of_mem_take hmem
    refine ⟨j, ho, (helig j).trans (mem_receivers hj), ?_, fun k hk hlt => ?_⟩ <;>
      rw [assignUnowned_countsFor hs, htargets]
    · have hcount := (List.take_sublist (binsWhere s p fun b => b.owner = .unowned).length (receivers s p)).count_le j
      rw [count_receivers, if_pos (mem_receivers hj)] at hcount
      have hbelow := hroom hj
      dsimp only at hcount hbelow
      omega
    · rw [count_take_of_lt (receivers_sorted s p) hmem hlt, count_receivers, if_pos ((helig k).symm.trans hk)]
      omega
  case order =>
    intro b c k hlt hb hc ho
    have hg := (gift_iff hc).mp ho
    have hmem : b ∈ (gifts s p).map Prod.fst := by
      have hc' := List.mem_map_of_mem (f := Prod.fst) hg
      rw [gifts_bins] at hc' ⊢
      exact mem_take_of_pairwise (finRange_pairwise _) hc' (mem_unownedBins.mpr hb) (lt_asymm hlt)
    obtain ⟨⟨b', j⟩, hg', rfl⟩ := List.mem_map.mp hmem
    exact ⟨j, (gift_iff hb).mpr hg', gifts_ordered hg' hg hlt⟩
  case left =>
    intro b k ho hk
    have hb : ((s.pools.get p).bins.get b).owner = .unowned := by
      by_contra hb
      exact hb ((assignUnowned_kept hb).symm.trans ho)
    have hnot : b ∉ (gifts s p).map Prod.fst := fun hmem => by
      obtain ⟨⟨b', j⟩, hg, rfl⟩ := List.mem_map.mp hmem
      cases ((gift_iff hb).mpr hg).symm.trans ho
    rw [gifts_bins] at hnot
    have hshort : (receivers s p).length ≤ (binsWhere s p fun b => b.owner = .unowned).length := by
      by_contra hlong
      exact hnot (by rw [List.take_of_length_le (by omega)]; exact mem_unownedBins.mpr hb)
    rw [assignUnowned_countsFor hs, htargets, List.take_of_length_le hshort, count_receivers, if_pos ((helig k).symm.trans hk)]
    omega
  case counted =>
    have hlength : ((List.finRange 64).filter fun b => ((s.pools.get p).bins.get b).owner = .unowned
        ∧ (((assignUnowned p s).pools.get p).bins.get b).owner ≠ .unowned).length = (gifts s p).length := by
      rw [← card_filter_finRange, ← List.length_map (f := Prod.fst) (as := gifts s p),
        ← List.toFinset_card_of_nodup (gifts_nodup s p)]
      congr 1
      ext b
      simp only [Finset.mem_filter, Finset.mem_univ, true_and, decide_eq_true_eq, List.mem_toFinset]
      constructor
      · rintro ⟨hb, hne⟩
        obtain ⟨j, -, hg⟩ := hgift hb hne
        exact List.mem_map_of_mem (f := Prod.fst) hg
      · intro hmem
        obtain ⟨⟨b', j⟩, hg, rfl⟩ := List.mem_map.mp hmem
        have hb := unowned_of_gift hg
        exact ⟨hb, by rw [(gift_iff hb).mpr hg]; nofun⟩
    have hbefore : (forEach (fun g s => s.updBin p g.1 fun b => { b with owner := .owned g.2 }) (gifts s p) s).poolCount p
        .immediateAssigns = s.poolCount p .immediateAssigns := by
      refine forEach_eq (g := fun s => s.poolCount p .immediateAssigns) (fun g s => ?_) (gifts s p) s
      rw [State.poolCount, updBin_pool]
      rfl
    rw [hlength, assignUnowned_eq, giveBins, poolCount_bumpPool, if_pos ⟨rfl, rfl⟩, hbefore]
  case counters => exact fun k hk => giveBins_poolCount p _ s p hk

/-- The assignment read off states that say the same of the pool. -/
theorem Assigned.transfer {before : BinIx → Owner} (h : Assigned p before s t)
    (hfields : ∀ b, (s.pools.get p).bins.get b = { (u.pools.get p).bins.get b with owner := ((s.pools.get p).bins.get b).owner })
    (hstart : ∀ k, s.poolCount p k = u.poolCount p k) (hbins : (v.pools.get p).bins = (t.pools.get p).bins)
    (htargets : (v.pools.get p).targets = (t.pools.get p).targets) (hcounts : ∀ k, v.poolCount p k = t.poolCount p k)
    (helig : ∀ j, isEligible v p j = isEligible t p j) (hholds : ∀ j, countsFor v p j = countsFor t p j) :
    Assigned p before u v := by
  constructor <;> simp only [hbins, htargets, hcounts, helig, hholds]
  case kept => exact h.kept
  case fields => exact fun b => by rw [h.fields b, hfields b]
  case given => exact h.given
  case order => exact h.order
  case left => exact h.left
  case counted => rw [← hstart]; exact h.counted
  case counters => exact fun k hk => (h.counters k hk).trans (hstart k)

/-- A recomputation assigns the bins that were UNOWNED (R44, R45). -/
theorem recompute_assigned (hs : BinCore gone s) (henabled : (s.pools.get p).enabled = true) :
    Assigned p (fun b => ((s.pools.get p).bins.get b).owner) s (recompute p s) := by
  have hretarget := (retarget_regiven p s).core hs (by
    rw [windowOpen, retarget_pool]
    exact hs.stale p)
  have h := assignUnowned_assigned (p := p) hretarget
  rw [retarget_pool] at h
  have hpools : (recompute p s).pools = (recomputeTables p s).pools := by
    rw [recompute_eq henabled]
    exact (forEach_reportHoldings_members _ _).pools_eq
  have hstand := recompute_stand henabled
  refine h.transfer (fun b => by rw [retarget_pool]) (fun k => ?_) ?_ ?_ (fun k => ?_) (fun j => ?_) fun j => ?_
  · rw [State.poolCount, retarget_pool]; rfl
  · rw [hpools, recomputeTables, rebuildPlan_pool]
  · rw [hpools, recomputeTables, rebuildPlan_pool]
  · rw [State.poolCount, hpools, recomputeTables, rebuildPlan_pool]; rfl
  · rw [hstand.isEligible]; rfl
  · rw [hstand.countsFor]; exact rebuildPlan_countsFor ..

end Sys2Proof.Machine
end

section
/-! SUPPORT. A retirement asked for, with or without the release of a forced last member's bins (R15, R16, R18, R49, R51). -/

namespace Sys2Proof.Machine

variable {s t u w : State} {gone : SlotIx → Prop} {p q : PoolIx} {i j : SlotIx} {b : BinIx} {slot force : Byte}

/-! A slot is confirmed when its egress queue is empty (R18). -/

/-- No egress queue changes, and slot `i` stays in phase MOVING while its own is not empty. -/
structure Empties (i : SlotIx) (s t : State) : Prop where
  egress : t.egress = s.egress
  moving : (s.slots.get i).state = .retiring .moving → (t.slots.get i).state = .retiring .moving ∨ s.egress.get i = []

theorem Empties.trans (h : Empties i s t) (h' : Empties i t u) : Empties i s u where
  egress := h'.egress.trans h.egress
  moving hm := (h.moving hm).elim (fun hm' => (h'.moving hm').imp_right fun hempty => by rwa [h.egress] at hempty) .inr

theorem Empties.of_slots (hslots : t.slots = s.slots) (hegress : t.egress = s.egress) : Empties i s t :=
  ⟨hegress, fun hm => .inl (by rw [hslots]; exact hm)⟩

theorem evaluateConfirmation_empties (i j : SlotIx) (s : State) : Empties i s (evaluateConfirmation j s) where
  egress := (evaluateConfirmation_members j s).egress_eq
  moving hm := by
    unfold evaluateConfirmation
    split
    · next h =>
      obtain rfl | hne := eq_or_ne i j
      · refine .inr ?_
        obtain ⟨-, hholds⟩ := h
        simp only [confirmationHolds, Bool.and_eq_true, List.isEmpty_iff] at hholds
        exact hholds.2
      · exact .inl (by rw [enterConfirming_get_of_ne hne]; exact hm)
    · exact .inl hm

theorem evaluateAdmission_empties (i j : SlotIx) (s : State) : Empties i s (evaluateAdmission j s) where
  egress := (evaluateAdmission_members j s).egress_eq
  moving hm := by
    refine .inl ?_
    unfold evaluateAdmission
    split
    · next h =>
      have hne : i ≠ j := fun hij => by
        rw [hij, h.1] at hm
        cases hm
      rw [changeState_get_of_ne hne]
      exact hm
    · exact hm

theorem reportHoldings_empties (i j : SlotIx) (s : State) : Empties i s (reportHoldings j s) :=
  (evaluateAdmission_empties i j s).trans (evaluateConfirmation_empties i j _)

theorem recompute_empties (i : SlotIx) (p : PoolIx) (s : State) : Empties i s (recompute p s) := by
  unfold recompute
  split
  · have htables : Empties i s (recomputeTables p s) :=
      .of_slots (recomputeTables_slots p s) (recomputeTables_recomputed p s).touches.egress_eq
    exact htables.trans (forEach_relates (fun _ => .of_slots rfl rfl) (fun _ _ _ => .trans) (reportHoldings_empties i) _ _)
  · exact .of_slots rfl rfl

/-! The steps after the loss of eligibility (R16, R18, R51). -/

/-- Slot `i` has at most given up bins, and has entered CONFIRMING at most with an empty egress queue. -/
structure Released (i : SlotIx) (s t : State) : Prop where
  touches : TouchesPools s t
  confirms : ConfirmsAt i s t
  empties : Empties i s t
  fields : ∀ q b, (t.pools.get q).bins.get b
    = { (s.pools.get q).bins.get b with owner := ((t.pools.get q).bins.get b).owner }
  kept : ∀ q b, ((s.pools.get q).bins.get b).owner ≠ .owned i →
    ((t.pools.get q).bins.get b).owner = ((s.pools.get q).bins.get b).owner
  counts : ∀ q k, t.poolCount q k = s.poolCount q k

theorem Released.trans (h : Released i s t) (h' : Released i t u) : Released i s u where
  touches := h.touches.trans h'.touches
  confirms := h.confirms.trans h'.confirms
  empties := h.empties.trans h'.empties
  fields q b := by rw [h'.fields, h.fields]
  kept q b hb := (h'.kept q b (h.kept q b hb ▸ hb)).trans (h.kept q b hb)
  counts q k := (h'.counts q k).trans (h.counts q k)

theorem Released.of_members (hmembers : TouchesMembers s t) (hconfirms : ConfirmsAt i s t) (hempties : Empties i s t) :
    Released i s t where
  touches := hmembers.pools
  confirms := hconfirms
  empties := hempties
  fields q b := by rw [hmembers.pools_eq]
  kept q b _ := by rw [hmembers.pools_eq]
  counts q k := by rw [State.poolCount, hmembers.pools_eq]; rfl

theorem evaluateConfirmation_released (i : SlotIx) (s : State) : Released i s (evaluateConfirmation i s) :=
  .of_members (evaluateConfirmation_members i s) ((confirmsAt_membership i).confirmation i s) (evaluateConfirmation_empties i i s)

theorem disownBins_released (p : PoolIx) (i : SlotIx) (s : State) : Released i s (disownBins p i s) where
  touches := updPool_pools ..
  confirms := .of_eq rfl rfl rfl rfl
  empties := .of_slots rfl rfl
  fields q b := by
    obtain rfl | hq := eq_or_ne q p
    · rw [disownBins_pool]
      split <;> rfl
    · rw [disownBins, State.updPool_pools, Table.get_modify_of_ne _ hq]
  kept q b hb := by
    obtain rfl | hq := eq_or_ne q p
    · rw [disownBins_pool, if_neg hb]
    · rw [disownBins, State.updPool_pools, Table.get_modify_of_ne _ hq]
  counts q k := by
    obtain rfl | hq := eq_or_ne q p
    · rw [State.poolCount, disownBins, State.updPool_pools, Table.get_modify_self]
      rfl
    · rw [State.poolCount, disownBins, State.updPool_pools, Table.get_modify_of_ne _ hq]
      rfl

theorem releaseBins_released (i : SlotIx) (s : State) : Released i s (releaseBins i s) := by
  unfold releaseBins
  split
  · exact .of_members (.refl s) (.of_eq rfl rfl rfl rfl) (.of_slots rfl rfl)
  · refine (disownBins_released _ i s).trans (.of_members (reportHoldings_members i _) ?_ (reportHoldings_empties i i _))
    exact ((confirmsAt_membership i).admission i _).trans ((confirmsAt_membership i).confirmation i _)

/-- The moves that a loss of eligibility aborts, from a state with the same moves and queues, and after the release. -/
theorem MovesAborted.released (h : MovesAborted i p s t) (hmembers : TouchesMembers w s) (hreleased : Released i t u) :
    MovesAborted i p w u := by
  have hengines := hmembers.engines_eq
  have hpools := hmembers.pools_eq
  have hegress := hmembers.egress_eq
  have hslot := hmembers.slotCounters_eq
  have hheld (j : SlotIx) : heldFor s i j = heldFor w i j := by rw [heldFor, heldFor, hengines]
  refine ⟨fun e => ?_, fun e m he hd => ?_, fun b hb => ?_, fun j => ?_, fun j => ?_, ?_⟩
  · rw [hreleased.touches.engines_eq, h.engines, hengines]
  · obtain ⟨hengine, howner, hinflight⟩ := h.bins e m (hengines ▸ he) hd
    rw [hpools, hegress, hheld] at hinflight
    rw [hreleased.fields]
    refine ⟨hengine, fun hne => ?_, hinflight⟩
    have ho := howner hne
    exact (hreleased.kept p m.bin (by rw [ho]; exact fun h => hne (Owner.owned.inj h))).trans ho
  · have hother := h.others b fun e m he => hb e m (hengines ▸ he)
    rw [hreleased.fields, ← hpools]
    exact hother
  · rw [hreleased.touches.egress_eq, h.egress, hegress, hheld]
  · have hcount := h.full j
    rw [hegress, hheld] at hcount
    rw [State.slotCount, hreleased.touches.slotCounters_eq]
    refine hcount.trans ?_
    rw [State.slotCount, State.slotCount, hslot]
  · have hmoves : movesTo s p i = movesTo w p i := movesTo_congr (fun e => by rw [hengines]) p i
    rw [hreleased.counts, h.counted, State.poolCount, State.poolCount, hpools, hmoves]

/-! The retirement. -/

/-- The slot is RETIRING, phase MOVING, its deadline timer started (R15). -/
def retiringBegun (i : SlotIx) (s : State) : State := (changeState i (.retiring .moving) s).updSlot i fun r =>
  { r with deadlineTimer := if r.retireDeadline = 0 then none else some (1000 * r.retireDeadline) }

theorem enterRetiring_eq (i : SlotIx) (release : State → State) (s : State) :
    enterRetiring i id release s = evaluateConfirmation i (release (loseEligibility i (retiringBegun i s))) := rfl

theorem retiringBegun_members (i : SlotIx) (s : State) : TouchesMembers s (retiringBegun i s) :=
  (changeState_members i _ s).trans (updSlot_members i _ _)

theorem retiringBegun_begins (h : (s.slots.get i).state.eligible = true) : BeginsRetiring i s (retiringBegun i s) :=
  enterRetiring_begins h (flags := id) .refl (.refl i) fun _ => rfl

theorem retiringBegun_deadline (h : (s.slots.get i).state.eligible = true) : ((retiringBegun i s).slots.get i).deadlineTimer
    = if (s.slots.get i).retireDeadline = 0 then none else some (1000 * (s.slots.get i).retireDeadline) := by
  have hne : (s.slots.get i).state ≠ .retiring .moving := fun hc => by
    rw [hc] at h
    cases h
  rw [retiringBegun, State.updSlot_slots, Table.get_modify_self, changeState_get_self, if_neg hne]
  rfl

/-- What a retirement asked for leaves, where the laws held (R15, R16, R18, R49). -/
structure Retires (i : SlotIx) (p : PoolIx) (s x t : State) : Prop where
  laws : BinLaws t
  phase : t.slots.get i = (retiringBegun i s).slots.get i ∨ Confirmed i (retiringBegun i s) t
  noneTo : NoneTo i t
  empties : Empties i x t
  confirming : (t.slots.get i).state = .retiring .confirming ↔ slotHeld t i = 0 ∧ t.egress.get i = []
  aborted : MovesAborted i p s t
  owner : ∀ b, ((x.pools.get p).bins.get b).owner = ((s.pools.get p).bins.get b).owner
    ∨ ((s.pools.get p).bins.get b).owner = .unowned ∧ ∃ j, j ≠ i ∧ ((x.pools.get p).bins.get b).owner = .owned j

theorem Retires.ineligible (h : Retires i p s u t) : (t.slots.get i).state.eligible = false := by
  have hbegun : ((retiringBegun i s).slots.get i).state = .retiring .moving := by
    rw [retiringBegun, State.updSlot_slots, Table.get_modify_self]
    exact changeState_state ..
  obtain hsame | hconfirmed := h.phase
  · rw [hsame, hbegun]; rfl
  · rw [hconfirmed.state]; rfl

section
variable (hs : BinLaws s) (helig : (s.slots.get i).state.eligible = true) (hp : (s.slots.get i).pool = some p)
  {release : State → State} (hrelease : ∀ u, Released i u (release u)) (hlaws : BinLaws (enterRetiring i id release s))
include hs helig hp hrelease hlaws

theorem enterRetiring_retires :
    Retires i p s (loseEligibility i (retiringBegun i s)) (enterRetiring i id release s) := by
  have hbegins := retiringBegun_begins helig
  have hmembers := retiringBegun_members i s
  obtain ⟨p', hp', henabled⟩ := hs.holding i (SlotState.holding_of_eligible helig)
  obtain rfl : p' = p := Option.some.inj (hp'.symm.trans hp)
  have hpw : ((retiringBegun i s).slots.get i).pool = some p' := hbegins.pool.trans hp'
  have henabledw : ((retiringBegun i s).pools.get p').enabled = true := by
    rw [hmembers.pools_eq]
    exact henabled
  obtain ⟨hx, hlost⟩ := hbegins.loses hs
  have hretiring : ((retiringBegun i s).slots.get i).state.holding = true := by rw [hbegins.state]; rfl
  have hcore : BinCore (· = i) (retiringBegun i s) := hs.core.shift hbegins.roles (hbegins.weight ▸ hs.weight i)
    (fun _ => ⟨p', hpw, henabled⟩) (fun hc => by rw [hbegins.state] at hc; cases hc) (fun _ => hbegins.pool)
    (fun _ => .inl hretiring) fun _ => .inr rfl
  have haborts := loseEligibility_aborts hcore hpw henabledw
  have hreleased := (hrelease (loseEligibility i (retiringBegun i s))).trans (evaluateConfirmation_released i _)
  have hconfirmsx : ConfirmsAt i (retiringBegun i s) (loseEligibility i (retiringBegun i s)) :=
    (confirmsAt_membership i).loseEligibility i _
  have hemptiesx : Empties i (onMoves (fun m => m.pool = p' ∧ m.destination = i) abortMove (retiringBegun i s))
      (loseEligibility i (retiringBegun i s)) := by
    rw [loseEligibility_eq hpw henabledw]
    exact recompute_empties ..
  have hphase := (hconfirmsx.trans hreleased.confirms).moving hbegins.state
  have hnoneTo : NoneTo i (enterRetiring i id release s) := fun e m he => by
    rw [enterRetiring_eq, hreleased.touches.engines_eq] at he
    exact hlost.noneTo e m he
  refine ⟨hlaws, hphase, hnoneTo, hreleased.empties, ?_, haborts.released hmembers hreleased, fun b => ?_⟩
  · have hineligible : ((enterRetiring i id release s).slots.get i).state.eligible = false := by
      obtain hsame | hconfirmed := hphase
      · rw [enterRetiring_eq, hsame, hbegins.state]; rfl
      · rw [enterRetiring_eq, hconfirmed.state]; rfl
    constructor
    · intro hc
      refine ⟨slotHeld_eq_zero_iff.mpr fun q _ b => hlaws.confirming i hc q b, ?_⟩
      have hmoving : ((onMoves (fun m => m.pool = p' ∧ m.destination = i) abortMove (retiringBegun i s)).slots.get i).state
          = .retiring .moving := by rw [onMoves_abort_slots, hbegins.state]
      have hempties := hemptiesx.trans hreleased.empties
      obtain hm | hempty := hempties.moving hmoving
      · rw [enterRetiring_eq, hm] at hc
        cases hc
      · rw [enterRetiring_eq, hempties.egress, hempty]
    · rintro ⟨hheld, hempty⟩
      obtain hsame | hconfirmed := hphase
      · have hstand := evaluateConfirmation_stand i (release (loseEligibility i (retiringBegun i s)))
        have hmembers' := evaluateConfirmation_members i (release (loseEligibility i (retiringBegun i s)))
        have hnone : OwnsNone i (enterRetiring i id release s) := hlaws.core.noBins hheld
        have hstill := hlaws.no_move hineligible hnone
        rw [enterRetiring_eq] at hheld hempty hstill ⊢
        have hmove : inActiveMove (release (loseEligibility i (retiringBegun i s))) i = false := by
          rw [inActiveMove_false_iff] at hstill ⊢
          rwa [hmembers'.engines_eq] at hstill
        by_cases hm : ((release (loseEligibility i (retiringBegun i s))).slots.get i).state = .retiring .moving
        · rw [evaluateConfirmation_enters hm ((hstand.slotHeld i).symm.trans hheld) hmove (hmembers'.egress_eq ▸ hempty)]
          exact enterConfirming_state ..
        · rw [evaluateConfirmation_stays (.inl hm)] at hsame
          rw [hsame, hbegins.state] at hm
          exact absurd rfl hm
      · exact hconfirmed.state
  · have hpools := hmembers.pools_eq
    obtain hsame | ⟨hu, -, j, hj, ho⟩ := hlost.owner p' b
    · exact .inl (hsame.trans (by rw [hpools]))
    · refine .inr ⟨by rwa [hpools] at hu, j, fun hji => ?_, ho⟩
      rw [hji, isEligible_false (by rw [hbegins.state]; rfl)] at hj
      exact Bool.false_ne_true hj

end

/-! With and without the release. -/

/-- Where a retirement leaves the bins of the slot and of its pool. -/
structure RetiredBins (i : SlotIx) (p : PoolIx) (s t : State) : Prop where
  plan : PlanBuilt t p
  kept : isLastMember s i = false → slotHeld t i = slotHeld s i
  given : isLastMember s i = true → slotHeld t i = 0
  owner : ∀ b, ((s.pools.get p).bins.get b).owner ≠ .unowned → ((t.pools.get p).bins.get b).owner
    = if isLastMember s i = true ∧ ((s.pools.get p).bins.get b).owner = .owned i then .unowned
      else ((s.pools.get p).bins.get b).owner

theorem slotHeld_congr (hpool : (t.slots.get i).pool = some p) (hpool' : (s.slots.get i).pool = some p)
    (h : ∀ b, ((t.pools.get p).bins.get b).owner = .owned i ↔ ((s.pools.get p).bins.get b).owner = .owned i) :
    slotHeld t i = slotHeld s i := by
  rw [slotHeld_eq (isMember_iff.mpr hpool), slotHeld_eq (isMember_iff.mpr hpool'), binsHeld_eq, binsHeld_eq, ownedBins, ownedBins, binsWhere,
    binsWhere]
  refine congrArg List.length (List.filter_congr fun b _ => ?_)
  simpa using h b

section
variable (hs : BinLaws s) (helig : (s.slots.get i).state.eligible = true) (hp : (s.slots.get i).pool = some p)
include hs helig hp

/-- The loss of eligibility rebuilds the plan (R44, R49). -/
theorem retiringBegun_planBuilt : PlanBuilt (loseEligibility i (retiringBegun i s)) p := by
  have hbegins := retiringBegun_begins helig
  obtain ⟨p', hp', henabled⟩ := hs.holding i (SlotState.holding_of_eligible helig)
  obtain rfl : p' = p := Option.some.inj (hp'.symm.trans hp)
  have henabledw : ((retiringBegun i s).pools.get p').enabled = true := by
    rw [(retiringBegun_members i s).pools_eq]
    exact henabled
  have hcore : BinCore (· = i) (retiringBegun i s) := hs.core.shift hbegins.roles (hbegins.weight ▸ hs.weight i)
    (fun _ => ⟨p', hbegins.pool.trans hp', henabled⟩) (fun hc => by rw [hbegins.state] at hc; cases hc) (fun _ => hbegins.pool)
    (fun _ => .inl (by rw [hbegins.state]; rfl)) fun _ => .inr rfl
  rw [loseEligibility_eq (hbegins.pool.trans hp') henabledw]
  exact recompute_built (onMoves_abort_keeps _ hcore).1 ((onMoves_abort_pool _ _ p').trans henabledw)

theorem retires_amongMembers (hlast : isLastMember s i = false) :
    Retires i p s (loseEligibility i (retiringBegun i s)) (enterRetiring i id id s)
      ∧ RetiredBins i p s (enterRetiring i id id s) := by
  have hretires := enterRetiring_retires hs helig hp (release := id)
    (fun u => .of_members (.refl u) (.of_eq rfl rfl rfl rfl) (.of_slots rfl rfl))
    (enterRetiring_laws hs helig (flags := id) (release := id) .refl (.refl i) (fun _ => rfl) fun _ hv _ _ _ => hv)
  have hstand : BinsStand (loseEligibility i (retiringBegun i s)) (enterRetiring i id id s) := evaluateConfirmation_stand i _
  have hpool : ((enterRetiring i id id s).slots.get i).pool = some p :=
    (enterRetiring_eventAt i s (flags := id) (release := id) (.refl i) (.refl i)).settings.1.trans hp
  refine ⟨hretires, hstand.planBuilt (retiringBegun_planBuilt hs helig hp), fun _ => slotHeld_congr hpool hp fun b => ?_,
    fun h => absurd (hlast.symm.trans h) Bool.false_ne_true, fun b hb => ?_⟩
  · rw [hstand.owner]
    obtain hsame | ⟨hu, j, hne, ho⟩ := hretires.owner b
    · rw [hsame]
    · rw [hu, ho]
      exact ⟨fun h => absurd (Owner.owned.inj h) hne, nofun⟩
  · rw [hstand.owner, if_neg fun h => Bool.false_ne_true (hlast.symm.trans h.1)]
    exact (hretires.owner b).resolve_right fun h => hb h.1

theorem retires_lastMember (hlast : isLastMember s i = true) :
    Retires i p s (loseEligibility i (retiringBegun i s)) (enterRetiring i id (releaseBins i) s)
      ∧ RetiredBins i p s (enterRetiring i id (releaseBins i) s) := by
  have hretires := enterRetiring_retires hs helig hp (releaseBins_released i) (enterRetiring_release_laws hs helig hlast)
  have hpoolx : ((loseEligibility i (retiringBegun i s)).slots.get i).pool = some p :=
    ((loseEligibility_follows i _).slots i).settings.1.trans ((retiringBegun_begins helig).pool.trans hp)
  have hpool : ((enterRetiring i id (releaseBins i) s).slots.get i).pool = some p :=
    (enterRetiring_eventAt i s (flags := id) (.refl i) fun u => (releaseBins_follows i u).eventAt i).settings.1.trans hp
  have hstand : BinsStand (disownBins p i (loseEligibility i (retiringBegun i s))) (enterRetiring i id (releaseBins i) s) := by
    rw [enterRetiring_eq, releaseBins, hpoolx]
    exact (reportHoldings_stand i _).trans (evaluateConfirmation_stand i _)
  have howner (b : BinIx) : (((enterRetiring i id (releaseBins i) s).pools.get p).bins.get b).owner
      = if ((loseEligibility i (retiringBegun i s)).pools.get p |>.bins.get b).owner = .owned i then .unowned
        else ((loseEligibility i (retiringBegun i s)).pools.get p |>.bins.get b).owner := by
    rw [hstand.owner, disownBins_pool]
    split <;> rfl
  have hdark (j : SlotIx) : isEligible (loseEligibility i (retiringBegun i s)) p j = false := by
    obtain ⟨p', hp', -, honly⟩ := isLastMember_iff.mp hlast
    obtain rfl : p' = p := Option.some.inj (hp'.symm.trans hp)
    have hbegins := retiringBegun_begins helig
    rw [isEligible_congr fun k => ((loseEligibility_follows i (retiringBegun i s)).slots k).role]
    obtain rfl | hne := eq_or_ne j i
    · exact isEligible_false (by rw [hbegins.state]; rfl) p'
    · refine Bool.eq_false_iff.mpr fun hj => hne ?_
      obtain ⟨hpool', -, helig', -⟩ := role_iff.mp (hbegins.roles.roles j hne)
      rw [isEligible_iff, isMember_iff, hpool', helig'] at hj
      have hmem : j ∈ eligibleMembers s p' :=
        List.mem_filter.mpr ⟨List.mem_finRange j, isEligible_iff.mpr ⟨isMember_iff.mpr hj.1, hj.2⟩⟩
      exact List.mem_singleton.mp (honly ▸ hmem)
  have hplan : ((loseEligibility i (retiringBegun i s)).pools.get p).plan = [] := by
    refine List.eq_nil_iff_forall_not_mem.mpr fun e he => ?_
    exact Bool.false_ne_true ((hdark _).symm.trans ((retiringBegun_planBuilt hs helig hp).receiver e he))
  refine ⟨hretires, hstand.planBuilt (.of_none ?_ fun j => hdark j), fun h => absurd (h.symm.trans hlast) Bool.false_ne_true,
    fun _ => slotHeld_eq_zero_iff.mpr fun q hq b ho => ?_, fun b hb => ?_⟩
  · obtain ⟨-, -, -, hsame, -⟩ := tables_iff.mp (disownBins_tables p i (loseEligibility i (retiringBegun i s)))
    exact hsame.trans hplan
  · obtain rfl : q = p := Option.some.inj (hq.symm.trans hpool)
    rw [howner] at ho
    split_ifs at ho with h
    exact h ho
  · have hsame := (hretires.owner b).resolve_right fun h => hb h.1
    rw [howner, hsame]
    exact if_congr (iff_and_self.mpr fun _ => hlast) rfl rfl

end

/-! The request (R16). -/

/-- What a retirement does beside: a last member gives up its bins. -/
def releaseOf (i : SlotIx) (last : Bool) : State → State := if last then releaseBins i else id

theorem enterRetiring_whole (hs : BinLaws s) (helig : (s.slots.get i).state.eligible = true) (hp : (s.slots.get i).pool = some p) :
    Retires i p s (loseEligibility i (retiringBegun i s)) (enterRetiring i id (releaseOf i (isLastMember s i)) s)
      ∧ RetiredBins i p s (enterRetiring i id (releaseOf i (isLastMember s i)) s) := by
  cases hlast : isLastMember s i
  · exact retires_amongMembers hs helig hp hlast
  · exact retires_lastMember hs helig hp hlast

theorem releaseOf_eventAt (i : SlotIx) (last : Bool) (s : State) : EventAt i s (releaseOf i last s) := by
  cases last
  · exact .refl i s
  · exact (releaseBins_follows i s).eventAt i

theorem answerRetire_eligible (hslot : slot.toNat = i.val + 1) (helig : (s.slots.get i).state.eligible = true)
    (hmay : isLastMember s i = false ∨ force ≠ 0) : answerRetire slot force s
      = .accept (enterRetiring i id (releaseOf i (isLastMember s i))) fun s => slotResult s i := by
  have hasked : (if isLastMember s i then
      if forceOf force then Answer.accept (enterRetiring i id (releaseBins i)) fun s => slotResult s i else .refuse .lastMember
      else .accept (enterRetiring i id id) fun s => slotResult s i)
      = .accept (enterRetiring i id (releaseOf i (isLastMember s i))) fun s => slotResult s i := by
    cases hlast : isLastMember s i
    · rfl
    · rw [if_pos rfl, if_pos (show forceOf force = true from decide_eq_true (hmay.resolve_left (by rw [hlast]; nofun)))]
      rfl
  rw [answerRetire, withSlot_of hslot]
  cases hstate : (s.slots.get i).state <;> rw [hstate] at helig
  case admitting | inService => exact hasked
  all_goals cases helig

theorem retiringBegun_state (i : SlotIx) (s : State) : ((retiringBegun i s).slots.get i).state = .retiring .moving := by
  rw [retiringBegun, State.updSlot_slots, Table.get_modify_self]
  exact changeState_state ..

theorem retiringBegun_carries (i : SlotIx) (s : State) : (retiringBegun i s).links = s.links := changeState_links ..

theorem retiringBegun_timeout (i : SlotIx) (s : State) : (retiringBegun i s).agent.ackTimeout = s.agent.ackTimeout := by
  obtain ⟨-, -, htimeout⟩ := (changeState_eventAt i (.retiring .moving) s).proceeds.agent.settings
  exact htimeout

/-- The state of a slot that retires, with its timers (R15, R18). -/
structure RetiringState (i : SlotIx) (phase : Phase) (s t : State) : Prop where
  state : (t.slots.get i).state = .retiring phase
  changed : flagSet t i .stateChanged = true
  moving : phase = .moving → (t.slots.get i).deadlineTimer
    = if (s.slots.get i).retireDeadline = 0 then none else some (1000 * (s.slots.get i).retireDeadline)
  confirming : phase = .confirming → (t.slots.get i).deadlineTimer = none ∧ (t.slots.get i).ackTimer = some s.agent.ackTimeout
  notice : phase = .confirming → (s.links.get i).carries = true → .retireNotice ∈ (t.links.get i).control

theorem enterRetiring_state (helig : (s.slots.get i).state.eligible = true) (last : Bool)
    (h : Retires i p s u (enterRetiring i id (releaseOf i last) s)) :
    ∃ phase, RetiringState i phase s (enterRetiring i id (releaseOf i last) s) := by
  have hchanged : flagSet (enterRetiring i id (releaseOf i last) s) i .stateChanged = true := by
    have hlost := (loseEligibility_follows i (retiringBegun i s)).eventAt i
    have hevent := (hlost.trans (releaseOf_eventAt i last _)).trans ((evaluateConfirmation_follows i _).eventAt i)
    refine hevent.proceeds.flags i .stateChanged ?_
    show flagSet ((changeState i (.retiring .moving) s).updSlot i fun r =>
      { r with deadlineTimer := if r.retireDeadline = 0 then none else some (1000 * r.retireDeadline) }) i .stateChanged = true
    rw [flagSet, State.updSlot_slots, Table.get_modify_self]
    exact flagSet_changeState_self (fun hc => by rw [hc] at helig; cases helig)
  obtain hsame | hconfirmed := h.phase
  · refine ⟨.moving, by rw [hsame]; exact retiringBegun_state i s, hchanged, fun _ => ?_, nofun, nofun⟩
    rw [hsame]
    exact retiringBegun_deadline helig
  · refine ⟨.confirming, hconfirmed.state, hchanged, nofun, fun _ => ⟨hconfirmed.deadline, ?_⟩, fun _ hc => ?_⟩
    · rw [hconfirmed.ack, retiringBegun_timeout]
    · exact hconfirmed.notice (by rw [retiringBegun_carries]; exact hc)

theorem answerRetire_out (hslot : slot.toNat = i.val + 1)
    (hout : (s.slots.get i).state ∈ [.empty, .seated, .probing, .standby, .drained, .faulted, .fenced]) :
    answerRetire slot force s = .refuse .badState := by
  rw [answerRetire, withSlot_of hslot]
  cases hstate : (s.slots.get i).state <;> rw [hstate] at hout
  all_goals simp at hout ⊢

theorem answerRetire_retiring {phase : Phase} (hslot : slot.toNat = i.val + 1) (hstate : (s.slots.get i).state = .retiring phase) :
    answerRetire slot force s = report fun s => slotResult s i := by
  rw [answerRetire, withSlot_of hslot, hstate]

theorem answerRetire_lastMember (hslot : slot.toNat = i.val + 1) (helig : (s.slots.get i).state.eligible = true)
    (hlast : isLastMember s i = true) : answerRetire slot 0 s = .refuse .lastMember := by
  rw [answerRetire, withSlot_of hslot]
  cases hstate : (s.slots.get i).state <;> rw [hstate] at helig
  case admitting | inService => exact if_pos hlast
  all_goals cases helig

/-- Settles O47: the loss of eligibility gives the aborts and the plan; the reports that follow it confirm a slot with nothing
left; and BinLaws say that a slot that owns nothing is in no move. -/
theorem retirementKeepsTheLastMember : Obligations.RetirementKeepsTheLastMember := by
  intro s tag slot force i h hslot r
  refine ⟨fun hout => ?_, fun phase hphase => ?_, fun helig hlast hforce => ?_, fun hs helig hmay => ?_⟩
  · exact exec_refused (status := .badState) rfl h rfl (answerRetire_out (s := dropRequest s) hslot hout)
  · rw [exec_reported rfl h rfl (answerRetire_retiring (s := dropRequest s) (force := force) hslot hphase),
      slotResult_of (s := accepting s) hslot (x := .retiring phase) hphase]
    cases phase <;> rfl
  · subst hforce
    exact exec_refused (status := .lastMember) rfl h rfl (answerRetire_lastMember (s := dropRequest s) hslot helig hlast)
  · obtain ⟨p, hp, henabled⟩ := hs.holding i (SlotState.holding_of_eligible helig)
    have hanswer : answerRetire slot force (dropRequest s)
        = .accept (enterRetiring i id (releaseOf i (isLastMember s i))) fun s => slotResult s i :=
      answerRetire_eligible (s := dropRequest s) hslot helig hmay
    obtain ⟨t, ht, hnext, hanswers, hframe⟩ := exec_event (i := i) (owner := answerRetire slot force) rfl h rfl hanswer
      (enterRetiring_eventAt i _ (flags := id) (.refl i) (releaseOf_eventAt i _))
    have hlaws' := (accepting_stand s).laws hs
    have hwhole := enterRetiring_whole (s := accepting s) hlaws' helig hp
    have hlast : isLastMember (accepting s) i = isLastMember s i := rfl
    rw [hlast] at hwhole
    obtain ⟨hretires, hbins⟩ := hwhole
    obtain ⟨phase, hstate, hchanged, hmoving, hconfirming, hnotice⟩ := enterRetiring_state (s := accepting s) helig _ hretires
    have hfollows := hframe.1.pools
    have hweight : ((enterRetiring i id (releaseOf i (isLastMember s i)) (accepting s)).slots.get i).weight = r.weight := by
      obtain ⟨-, hweight, -⟩ := (enterRetiring_eventAt i (accepting s) (flags := id) (.refl i)
        (releaseOf_eventAt i (isLastMember s i))).settings
      exact hweight
    rw [slotResult_of hslot hstate] at hanswers
    obtain ⟨hplan, hkept, hgiven, howner⟩ := hbins
    obtain ⟨hlaws, -, hnoneTo, -, hconfirms, haborted, -⟩ := hretires
    have hinto : phase = .confirming ↔ ((enterRetiring i id (releaseOf i (isLastMember s i)) (accepting s)).slots.get i).state
        = .retiring .confirming := by
      refine Iff.trans ?_ (Eq.congr_left hstate).symm
      exact ⟨congrArg _, fun h => SlotState.retiring.inj h⟩
    have hiff := hinto.trans hconfirms
    generalize enterRetiring i id (releaseOf i (isLastMember s i)) (accepting s) = v at *
    subst ht
    refine ⟨_, phase, hnext, ?_, hstate, hchanged, hframe, hmoving, hconfirming, hnoneTo, hkept, hgiven, hiff,
      fun hc hup hlost => hnotice hc (carries_of_up hup hlost), fun q hq => ?_⟩
    · cases phase <;> exact hweight ▸ hanswers
    · obtain rfl : q = p := Option.some.inj (hq.symm.trans hp)
      have hstand : BinsStand v (responded s.agent.transmit.length ([tag, 6, 0] ++ slotResult v i) v) := .of_eq rfl rfl rfl
      have henabled' : (v.pools.get q).enabled = true :=
        (congrArg PoolRecord.enabled (hfollows q)).trans henabled
      exact ⟨⟨haborted.engines, haborted.bins, haborted.others, haborted.egress, haborted.full, haborted.counted⟩,
        hstand.planBuilt hplan, fun j => hlaws.targets q j henabled', howner⟩

end Sys2Proof.Machine
end

section
/-! SUPPORT. An admission, and the recomputation of an eligible slot's pool (R13, R14, R32, R36, R44–R48). -/

namespace Sys2Proof.Machine

variable {s t u g : State} {gone : SlotIx → Prop} {p q : PoolIx} {i j : SlotIx} {b : BinIx}

/-! The admission condition (R14). -/

theorem BinsStand.slotTarget (h : BinsStand s t) (i : SlotIx) : slotTarget t i = Machine.slotTarget s i := by
  obtain ⟨hpool, -⟩ := role_iff.mp (h.roles i)
  unfold Machine.slotTarget
  rw [hpool]
  cases (s.slots.get i).pool with
  | none => rfl
  | some p =>
    obtain ⟨-, -, htargets, -⟩ := tables_iff.mp (h.tables p)
    exact congrArg (fun table => table.get i) htargets

theorem BinsStand.admissionHolds (h : BinsStand s t) (i : SlotIx) : admissionHolds t i = Machine.admissionHolds s i := by
  obtain ⟨hpool, -⟩ := role_iff.mp (h.roles i)
  unfold Machine.admissionHolds
  rw [h.slotTarget, h.slotHeld, hpool]
  cases (s.slots.get i).pool with
  | none => rfl
  | some p =>
    obtain ⟨-, -, -, hplan, -⟩ := tables_iff.mp (h.tables p)
    have hmoves : movesTo t p i = movesTo s p i := movesTo_congr h.courses p i
    dsimp only
    rw [hplan, hmoves]

theorem admissionHolds_iff (hp : (s.slots.get i).pool = some p) : admissionHolds s i = true ↔ slotTarget s i ≤ slotHeld s i
    ∧ movesTo s p i = 0 ∧ ∀ e, e ∈ (s.pools.get p).plan → e.destination ≠ i := by
  unfold admissionHolds
  rw [hp, Bool.and_eq_true, decide_eq_true_iff]
  refine and_congr_right fun _ => ?_
  rw [Bool.and_eq_true, decide_eq_true_iff, List.all_eq_true, and_comm]
  simp

/-- A slot stands but that, when it was being admitted, it may have entered service with the admission condition. -/
structure Serves (i : SlotIx) (s t : State) : Prop where
  stand : BinsStand s t
  admitting : (s.slots.get i).state = .admitting → t.slots.get i = s.slots.get i
    ∨ (t.slots.get i).state = .inService ∧ (t.slots.get i).timersStopped ∧ admissionHolds s i = true
  serving : (s.slots.get i).state = .inService → t.slots.get i = s.slots.get i

theorem Serves.trans (h : Serves i s t) (h' : Serves i t u) : Serves i s u where
  stand := h.stand.trans h'.stand
  admitting ha := by
    obtain hsame | ⟨hserving, hstopped, hholds⟩ := h.admitting ha
    · obtain hsame' | ⟨hserving, hstopped, hholds⟩ := h'.admitting (by rw [hsame, ha])
      · exact .inl (hsame'.trans hsame)
      · exact .inr ⟨hserving, hstopped, (h.stand.admissionHolds i).symm.trans hholds⟩
    · have hsame := h'.serving hserving
      exact .inr ⟨by rw [hsame, hserving], by rw [hsame]; exact hstopped, hholds⟩
  serving hs := (h'.serving (by rw [h.serving hs, hs])).trans (h.serving hs)

theorem evaluateAdmission_serves (i j : SlotIx) (s : State) : Serves i s (evaluateAdmission j s) where
  stand := evaluateAdmission_stand j s
  admitting ha := by
    unfold evaluateAdmission
    split
    · next h =>
      obtain rfl | hne := eq_or_ne i j
      · exact .inr ⟨changeState_state .., changeState_timersStopped (by rw [ha]; nofun), h.2⟩
      · exact .inl (changeState_get_of_ne hne ..)
    · exact .inl rfl
  serving hs := by
    unfold evaluateAdmission
    split
    · next h => exact changeState_get_of_ne (fun hij => by rw [hij, h.1] at hs; cases hs) ..
    · rfl

theorem evaluateConfirmation_serves (i j : SlotIx) (s : State) : Serves i s (evaluateConfirmation j s) := by
  have hsame (hi : (s.slots.get i).state ≠ .retiring .moving) : (evaluateConfirmation j s).slots.get i = s.slots.get i := by
    unfold evaluateConfirmation
    split
    · next h => exact enterConfirming_get_of_ne (fun hij => by rw [hij] at hi; exact hi h.1) s
    · rfl
  exact ⟨evaluateConfirmation_stand j s, fun ha => .inl (hsame (by rw [ha]; nofun)), fun hs => hsame (by rw [hs]; nofun)⟩

theorem recompute_serves (henabled : (s.pools.get p).enabled = true) (i : SlotIx) :
    Serves i (recomputeTables p s) (recompute p s) := by
  rw [recompute_eq henabled]
  exact forEach_relates (fun v => ⟨.refl v, fun _ => .inl rfl, fun _ => rfl⟩) (fun _ _ _ => .trans)
    (fun j v => (evaluateAdmission_serves i j v).trans (evaluateConfirmation_serves i j _)) _ _

/-! The recomputation of an eligible slot's pool, with its admission condition (R14, R32, R44, R48). -/

/-- The pool is recomputed, and the admission condition evaluated for slot `i`. -/
def regained (i : SlotIx) (p : PoolIx) (s : State) : State := evaluateAdmission i (recompute p s)

theorem regained_recomputed (i : SlotIx) (p : PoolIx) (s : State) : Recomputed p s (regained i p s) :=
  (recompute_recomputed p s).trans (.of_pools_eq p (evaluateAdmission_members i _).pools (evaluateAdmission_follows i _)
    (evaluateAdmission_members i _).pools_eq)

section
variable (henabled : (s.pools.get p).enabled = true)
include henabled

theorem regained_serves (i : SlotIx) : Serves i (recomputeTables p s) (regained i p s) :=
  (recompute_serves henabled i).trans (evaluateAdmission_serves i i _)

theorem regained_targets (i j : SlotIx) :
    ((regained i p s).pools.get p).targets.get j = targetOf (eligibleWeight (regained i p s) p) j := by
  have hstand := (regained_serves henabled i).stand
  obtain ⟨-, -, htargets, -⟩ := tables_iff.mp (hstand.tables p)
  rw [htargets, recomputeTables_targets, Table.get_tab, eligibleWeight_congr hstand.roles,
    eligibleWeight_of_slots (recomputeTables_slots p s)]

theorem regained_planBuilt (hs : BinCore gone s) (i : SlotIx) : PlanBuilt (regained i p s) p :=
  (evaluateAdmission_stand i _).planBuilt (recompute_built hs henabled)

theorem regained_assigned (hs : BinCore gone s) (i : SlotIx) :
    Assigned p (fun b => ((s.pools.get p).bins.get b).owner) s (regained i p s) := by
  have hstand := evaluateAdmission_stand i (recompute p s)
  have hpools := (evaluateAdmission_members i (recompute p s)).pools_eq
  refine (recompute_assigned hs henabled).transfer (fun b => rfl) (fun k => rfl) ?_ ?_ (fun k => ?_)
    (fun j => hstand.isEligible p j) fun j => hstand.countsFor p j
  · rw [regained, hpools]
  · rw [regained, hpools]
  · rw [regained, State.poolCount, hpools]
    rfl

/-- The slot is in service exactly where the admission condition holds (R14). -/
theorem regained_service (hp : (s.slots.get i).pool = some p) (hstate : (s.slots.get i).state = .admitting) :
    (((regained i p s).slots.get i).state = .admitting ∨ ((regained i p s).slots.get i).state = .inService)
      ∧ (((regained i p s).slots.get i).state = .inService ↔ slotTarget (regained i p s) i ≤ slotHeld (regained i p s) i
        ∧ movesTo (regained i p s) p i = 0 ∧ ∀ e, e ∈ ((regained i p s).pools.get p).plan → e.destination ≠ i)
      ∧ ((s.slots.get i).timersStopped → ((regained i p s).slots.get i).timersStopped) := by
  have hserves := regained_serves henabled i
  have hslots := recomputeTables_slots p s
  have hp' : ((regained i p s).slots.get i).pool = some p := by
    obtain ⟨hpool, -⟩ := role_iff.mp (hserves.stand.roles i)
    rw [hpool, hslots, hp]
  have ha : ((recomputeTables p s).slots.get i).state = .admitting := by rw [hslots, hstate]
  refine ⟨?_, ?_, fun hstopped => ?_⟩
  · obtain hsame | ⟨hserving, -⟩ := hserves.admitting ha
    · exact .inl (by rw [hsame, ha])
    · exact .inr hserving
  · rw [← admissionHolds_iff hp', hserves.stand.admissionHolds]
    constructor
    · intro hserving
      obtain hsame | ⟨-, -, hholds⟩ := hserves.admitting ha
      · rw [hsame, ha] at hserving
        cases hserving
      · exact hholds
    · intro hholds
      have hserves' := recompute_serves henabled i
      obtain hsame | ⟨hserving, -⟩ := hserves'.admitting ha
      · rw [regained, evaluateAdmission, if_pos ⟨by rw [hsame, ha], (hserves'.stand.admissionHolds i).trans hholds⟩]
        exact changeState_state ..
      · rw [regained, (evaluateAdmission_serves i i _).serving hserving, hserving]
  · obtain hsame | ⟨-, h, -⟩ := hserves.admitting ha
    · rw [hsame, hslots]
      exact hstopped
    · exact h

end

/-! The adoption of stale bins (R48). -/

/-- What is adopted is adopted in an open window. -/
def adopted (i : SlotIx) (p : PoolIx) (s : State) : State := if windowOpen s p then adoptBins p i s else s

theorem admitToPool_eq (hp : (s.slots.get i).pool = some p) (henabled : (s.pools.get p).enabled = true) :
    admitToPool i s = regained i p (adopted i p (askControl i .admitNotice (changeState i .admitting s))) := by
  have hmembers := (changeState_members i .admitting s).trans (askControl_members i .admitNotice _)
  have hp' : ((askControl i .admitNotice (changeState i .admitting s)).slots.get i).pool = some p := by
    rw [askControl_slots, changeState_get_self]
    split <;> exact hp
  rw [admitToPool, gainEligibility_eq hp' (by rw [hmembers.pools_eq]; exact henabled)]
  rfl

theorem adopted_members (i : SlotIx) (p : PoolIx) (s : State) : (adopted i p s).slots = s.slots
    ∧ ∀ q, q ≠ p → (adopted i p s).pools.get q = s.pools.get q := by
  unfold adopted
  split
  · obtain ⟨-, hslots, -, hothers, -⟩ := adoptBins_eq p i s
    exact ⟨hslots, hothers⟩
  · exact ⟨rfl, fun _ _ => rfl⟩

theorem adopted_bin (i : SlotIx) (p : PoolIx) (s : State) (b : BinIx) : ((adopted i p s).pools.get p).bins.get b
    = { (s.pools.get p).bins.get b with owner := adoptedOwner s p i b } := by
  unfold adopted adoptedOwner
  split
  · next h =>
    obtain ⟨timer, -, -, -, hpool, -⟩ := adoptBins_eq p i s
    rw [hpool, Table.get_tab, h]
    simp only [true_and]
    split <;> rfl
  · next h => rw [if_neg fun hc => h hc.1]

theorem adopted_window (hclosed : windowOpen s p = false → (s.pools.get p).adoptionTimer = none) :
    ((∀ b j, adoptedOwner s p i b ≠ .stale j) → ((adopted i p s).pools.get p).adoptionTimer = none)
      ∧ ((∃ b j, adoptedOwner s p i b = .stale j) →
        ((adopted i p s).pools.get p).adoptionTimer = (s.pools.get p).adoptionTimer) := by
  have howner (b : BinIx) : (((adopted i p s).pools.get p).bins.get b).owner = adoptedOwner s p i b := by rw [adopted_bin]
  simp only [← howner]
  unfold adopted
  split
  · obtain ⟨timer, -, -, -, hpool, htimer, hnone⟩ := adoptBins_eq p i s
    refine ⟨fun h => by rw [hpool]; exact hnone h, fun ⟨b, j, hb⟩ => ?_⟩
    obtain h | ⟨-, h⟩ := htimer
    · rw [hpool]; exact h
    · exact absurd hb (h b j)
  · next h => exact ⟨fun _ => hclosed (Bool.eq_false_iff.mpr h), fun _ => rfl⟩

theorem adopted_record (i : SlotIx) (p : PoolIx) (s : State) : ∃ timer, (adopted i p s).pools.get p
    = { s.pools.get p with adoptionTimer := timer, bins := ((adopted i p s).pools.get p).bins } := by
  unfold adopted
  split
  · obtain ⟨timer, -, -, -, hpool, -⟩ := adoptBins_eq p i s
    exact ⟨timer, by rw [hpool]⟩
  · exact ⟨_, rfl⟩

theorem adopted_follows (i : SlotIx) (p : PoolIx) (s : State) : Follows s (adopted i p s) :=
  .ite (fun _ => adoptBins_follows p i s) fun _ => .refl s

theorem Follows.notice (h : Follows s t) {f : ControlFrame} (hf : f ∈ (s.links.get i).control) : f ∈ (t.links.get i).control := by
  obtain hsame | ⟨-, -, hsame⟩ := h.links i <;> rw [hsame]
  · exact hf
  · exact List.mem_append_left _ hf

/-- The owners that an assignment leaves stale are those that were. -/
theorem Assigned.stale_iff {before : BinIx → Owner} (h : Assigned p before s t) (b : BinIx) (j : SlotIx) :
    ((t.pools.get p).bins.get b).owner = .stale j ↔ before b = .stale j := by
  by_cases hb : before b = .unowned
  · rw [hb]
    refine ⟨fun ho => ?_, nofun⟩
    obtain ⟨k, hk, -⟩ := h.given b hb (by rw [ho]; nofun)
    cases hk.symm.trans ho
  · rw [h.kept b hb]

/-! The admission (R13). -/

/-- The slot is being admitted, its notice asked for. -/
def admitting (i : SlotIx) (s : State) : State := askControl i .admitNotice (changeState i .admitting s)

theorem admitting_members (i : SlotIx) (s : State) : TouchesMembers s (admitting i s) :=
  (changeState_members i .admitting s).trans (askControl_members i .admitNotice _)

theorem admitting_slots (i : SlotIx) (s : State) : (admitting i s).slots = (changeState i .admitting s).slots := askControl_slots ..

/-- An admission of a slot that was not eligible, to an enabled pool (R13, R14, R36, R44–R48). -/
theorem MayAdmit.admitted (h : MayAdmit i p s u) (hs : BinLaws s) (hstate : (u.slots.get i).state = (s.slots.get i).state)
    (hcarries : (u.links.get i).carries = (s.links.get i).carries) : Admitted i p s (admitToPool i u) := by
  have hne : (u.slots.get i).state ≠ .admitting := fun hc => by
    have hold := h.old
    rw [← hstate, hc] at hold
    cases hold
  have hpools : (admitting i u).pools = s.pools := (admitting_members i u).pools_eq.trans h.roles.pools
  have hrole : ((admitting i u).slots.get i).role = ((u.slots.get i).pool, (u.slots.get i).weight, true, true) := by
    rw [admitting_slots]
    exact changeState_role_self i .admitting u
  obtain ⟨hcore, -, helig, henabled⟩ := h.begins hs
    ((changeState_rolesBut i .admitting u).trans ((askControl_links i .admitNotice _).rolesBut i)) hrole
  have hp : ((admitting i u).slots.get i).pool = some p := (congrArg Prod.fst hrole).trans h.pool
  obtain ⟨hslots, hothers⟩ := adopted_members i p (admitting i u)
  have hcore' : BinCore nobody (adopted i p (admitting i u)) := by
    unfold adopted
    split
    · exact (adoptBins_core hcore helig henabled).1
    · exact hcore
  obtain ⟨timer, hrecord⟩ := adopted_record i p (admitting i u)
  have henabled' : ((adopted i p (admitting i u)).pools.get p).enabled = true := by rw [hrecord]; exact henabled
  have hbin := adopted_bin i p (admitting i u)
  have howner : adoptedOwner (admitting i u) p i = adoptedOwner s p i := by
    funext b
    rw [adoptedOwner, adoptedOwner, windowOpen, windowOpen, hpools]
  have hassigned : Assigned p (adoptedOwner s p i) s (regained i p (adopted i p (admitting i u))) := by
    have hregained := regained_assigned henabled' hcore' i
    simp only [hbin, howner] at hregained
    refine hregained.transfer (fun b => ?_) (fun k => ?_) rfl rfl (fun _ => rfl) (fun _ => rfl) fun _ => rfl
    · rw [hbin, hpools]
    · rw [State.poolCount, hrecord, hpools]
      rfl
  have hstale (b : BinIx) (j : SlotIx) := hassigned.stale_iff b j
  have hrecomputed := regained_recomputed i p (adopted i p (admitting i u))
  obtain ⟨hnone, hstays⟩ := adopted_window (i := i) (p := p) (s := admitting i u) fun hw => by
    rw [windowOpen] at hw
    exact Option.isSome_eq_false_iff.mp hw |> Option.isNone_iff_eq_none.mp
  rw [howner] at hnone hstays
  have htimer : ((regained i p (adopted i p (admitting i u))).pools.get p).adoptionTimer
      = ((adopted i p (admitting i u)).pools.get p).adoptionTimer := by rw [hrecomputed.record]
  have hfollows : Follows (admitting i u) (regained i p (adopted i p (admitting i u))) :=
    (adopted_follows i p _).trans hrecomputed.follows
  have hget : (adopted i p (admitting i u)).slots.get i = (changeState i .admitting u).slots.get i := by
    rw [hslots, admitting_slots]
  obtain ⟨hentered, hservice, hstopped⟩ := regained_service henabled' (by rw [hslots]; exact hp)
    (by rw [hget]; exact changeState_state i .admitting u)
  rw [admitToPool_eq h.pool (h.roles.pools ▸ h.enabled)]
  show Admitted i p s (regained i p (adopted i p (admitting i u)))
  refine ⟨hentered, hservice, hstopped (by rw [hget]; exact changeState_timersStopped hne), ?_, regained_targets henabled' i,
    hassigned, fun ⟨b, j, hb⟩ => ?_, fun h => ?_, regained_planBuilt henabled' hcore' i, fun q hq => ?_, fun hc => ?_⟩
  · refine (hfollows.eventAt i).proceeds.flags i .stateChanged ?_
    rw [flagSet, admitting_slots]
    exact flagSet_changeState_self hne
  · rw [htimer, hstays ⟨b, j, (hstale b j).mp hb⟩, hpools]
  · rw [htimer]
    exact hnone fun b j hb => h b j ((hstale b j).mpr hb)
  · rw [hrecomputed.others q hq, hothers q hq, hpools]
  · refine hfollows.notice (askControl_notice (.inr rfl) ?_)
    rw [changeState_links]
    exact hcarries.trans hc

end Sys2Proof.Machine
end

section
/-! SUPPORT. SET_WEIGHT and ADMIT (R12, R21, R32). -/

namespace Sys2Proof.Machine

variable {s t u : State} {p q : PoolIx} {i : SlotIx} {slot pool weight tag code : Byte} {c : Instr} {n : Nat}
  {owner : State → Answer} {effect : State → State} {results : State → List Byte} {f : SlotRecord → SlotRecord}

theorem updSlot_others (i : SlotIx) (f : SlotRecord → SlotRecord) (s : State) : OthersStand i s (s.updSlot i f) :=
  { OthersStand.refl i s with
    states := fun _ hj => .inl (congrArg SlotRecord.state (Table.get_modify_of_ne s.slots hj f))
    slots := fun _ hj _ => Table.get_modify_of_ne s.slots hj f }

/-- A request whose effect is to write slot `i`'s settings, and an event of that slot (R184). -/
theorem exec_written (hexec : exec c s = .next (processRequest c owner s)) (h : Heads c s)
    (hkey : requestKey c = some (tag, code)) (howner : owner (dropRequest s) = .accept effect results)
    (hevent : EventAt i ((accepting s).updSlot i f) (effect (accepting s))) :
    ∃ t, t = responded s.agent.transmit.length ([tag, code, 0] ++ results (effect (accepting s))) (effect (accepting s))
      ∧ exec c s = .next t ∧ Answers s t ([tag, code, 0] ++ results (effect (accepting s)))
      ∧ OthersStand i s t ∧ t.ports = s.ports ∧ t.scanner = s.scanner := by
  obtain ⟨hothers, -, hports, hscanner⟩ := hevent.frame
  refine ⟨_, rfl, exec_accepted hexec h hkey howner, ⟨?_, ?_⟩, ?_, hports, hscanner⟩
  · exact congrArg AgentRecord.requests hevent.proceeds.agent.fields
  · obtain ⟨ns, hns, -⟩ := hevent.proceeds.agent.notices
    refine ⟨ns, ?_⟩
    show (effect (accepting s)).agent.transmit.set _ _ = _
    rw [hns]
    show ((s.agent.transmit ++ [[]]) ++ ns).set _ _ = _
    rw [List.append_assoc, List.set_append_right _ _ le_rfl, Nat.sub_self]
    rfl
  · exact (((accepting_frame i s).1.trans (updSlot_others i f _)).trans hothers).trans (responded_frame ..).1

/-! SET_WEIGHT (R32). -/

/-- A weight has been written. -/
def weighed (i : SlotIx) (w : Nat) (s : State) : State := s.updSlot i fun r => { r with weight := w }

theorem weighed_get (i : SlotIx) (w : Nat) (s : State) : (weighed i w s).slots.get i = { s.slots.get i with weight := w } :=
  Table.get_modify_self ..

theorem writeWeight_ineligible {w : Nat} (h : (s.slots.get i).state.eligible = false) : writeWeight i w s = weighed i w s :=
  if_neg (by rw [h]; exact Bool.false_ne_true)

theorem writeWeight_eligible {w : Nat} (h : isEligible s p i = true) : writeWeight i w s = regained i p (weighed i w s) := by
  obtain ⟨hmember, helig⟩ := isEligible_iff.mp h
  have hp : ((weighed i w s).slots.get i).pool = some p := by rw [weighed_get]; exact isMember_iff.mp hmember
  have hrecompute : recomputeOf i (weighed i w s) = recompute p (weighed i w s) := by rw [recomputeOf, hp]
  rw [regained, ← hrecompute]
  exact if_pos helig

theorem weighed_core {w : Nat} (hs : BinLaws s) (hw : 1 ≤ w) : BinCore nobody (weighed i w s) := by
  have hget := weighed_get i w s
  exact hs.core.shift (updSlot_rolesBut i _ s) (by rw [hget]; exact hw) (by rw [hget]; exact hs.holding i)
    (by rw [hget]; exact id) (fun _ => by rw [hget]) (fun hh => .inl (by rw [hget]; exact hh))
    fun hh => .inl (by rw [hget]; exact hh)

theorem stateBytes_of_eligible {st : SlotState} (h : st.eligible = true) : stateBytes st = [byteOf (stateCode st).val, 0] := by
  cases st
  case admitting | inService => rfl
  all_goals cases h

theorem StateFollows.eligible {old new : SlotState} (h : StateFollows old new) (ho : old.eligible = true) : new.eligible = true := by
  obtain rfl | ⟨-, rfl⟩ | ⟨rfl, -⟩ := h
  · exact ho
  · rfl
  · cases ho

/-! ADMIT (R12, R21). -/

/-- An ADMIT has written the pool and the weight. -/
def enrolled (i : SlotIx) (p : PoolIx) (w : Nat) (s : State) : State :=
  s.updSlot i fun r => { r with pool := some p, weight := w }

theorem enrolled_get (i : SlotIx) (p : PoolIx) (w : Nat) (s : State) :
    (enrolled i p w s).slots.get i = { s.slots.get i with pool := some p, weight := w } := Table.get_modify_self ..

theorem enrolled_mayAdmit (hweight : 1 ≤ n) (henabled : (s.pools.get p).enabled = true)
    (hasks : (s.slots.get i).state = .standby ∨ (s.slots.get i).state = .retiring .moving ∧ (s.slots.get i).pool = some p) :
    MayAdmit i p s (enrolled i p n s) where
  roles := updSlot_rolesBut i _ s
  pool := by rw [enrolled_get]
  enabled := henabled
  weight := by rw [enrolled_get]; exact hweight
  own hholding := by
    obtain hstate | ⟨-, hpool⟩ := hasks
    · rw [hstate] at hholding
      cases hholding
    · exact hpool
  old := by obtain hstate | ⟨hstate, -⟩ := hasks <;> rw [hstate] <;> rfl

section
variable (hslot : slot.toNat = i.val + 1) (hpool : pool.toNat = p.val)
include hslot hpool

theorem answerAdmit_range : answerAdmit slot pool 0 s = .refuse .range := by
  rw [answerAdmit, withSlot_of hslot, withPool_of hpool]
  exact if_pos rfl

theorem answerAdmit_badState (hweight : weight ≠ 0) (hnot : ¬ ((s.slots.get i).state = .standby
    ∨ (s.slots.get i).state = .retiring .moving ∧ (s.slots.get i).pool = some p)) :
    answerAdmit slot pool weight s = .refuse .badState := by
  rw [answerAdmit, withSlot_of hslot, withPool_of hpool]
  exact (if_neg hweight).trans (if_neg hnot)

variable (hweight : weight ≠ 0) (hasks : (s.slots.get i).state = .standby
  ∨ (s.slots.get i).state = .retiring .moving ∧ (s.slots.get i).pool = some p)
include hweight hasks

theorem answerAdmit_disabled (hdisabled : (s.pools.get p).enabled = false) :
    answerAdmit slot pool weight s = .refuse .poolDisabled := by
  rw [answerAdmit, withSlot_of hslot, withPool_of hpool]
  exact (if_neg hweight).trans ((if_pos hasks).trans (if_neg (by rw [hdisabled]; exact Bool.false_ne_true)))

theorem answerAdmit_admits (henabled : (s.pools.get p).enabled = true) : answerAdmit slot pool weight s
    = .accept (fun s => admitToPool i (enrolled i p (min 15 weight.toNat) s)) fun s => slotResult s i := by
  rw [answerAdmit, withSlot_of hslot, withPool_of hpool]
  exact (if_neg hweight).trans ((if_pos hasks).trans (if_pos henabled))

end

theorem Admitted.eligible (h : Admitted i p s t) : (t.slots.get i).state.eligible = true := by
  obtain hstate | hstate := h.state <;> rw [hstate] <;> rfl

/-- What the agent's queues are makes no difference to what an admission leaves. -/
theorem Admitted.responded {payload : List Byte} (h : Admitted i p (accepting s) t) :
    Admitted i p s (responded n payload t) := by
  obtain ⟨hkept, hfields, hgiven, horder, hleft, hcounted, hcounters⟩ := h.bins
  have hstand : BinsStand t (Machine.responded n payload t) := .of_eq rfl rfl rfl
  exact ⟨h.state, h.service, h.timers, h.changed, h.targets, ⟨hkept, hfields, hgiven, horder, hleft, hcounted, hcounters⟩,
    h.stays, h.closes, hstand.planBuilt h.plan, h.pools, h.notice⟩

/-- What SET_WEIGHT leaves of an eligible slot and its pool (R32, R44). -/
structure Weighed (i : SlotIx) (p : PoolIx) (w : Nat) (s t : State) : Prop where
  state : (t.slots.get i).state.eligible = true
  weight : (t.slots.get i).weight = w
  targets : (s.pools.get p).enabled = true → ∀ j, (t.pools.get p).targets.get j = targetOf (eligibleWeight t p) j
  bins : BinLaws s → (s.pools.get p).enabled = true →
    Assigned p (fun b => ((s.pools.get p).bins.get b).owner) s t ∧ PlanBuilt t p
  pools : ∀ q, q ≠ p → t.pools.get q = s.pools.get q

theorem regained_weighed (hw : 1 ≤ n) (helig : isEligible s p i = true) : Weighed i p n s (regained i p (weighed i n s)) := by
  have hrecomputed := regained_recomputed i p (weighed i n s)
  have hrecord := hrecomputed.follows.slots i
  rw [weighed_get] at hrecord
  refine ⟨hrecord.state.eligible (isEligible_iff.mp helig).2, ?_, fun henabled j => ?_, fun hs henabled => ⟨?_, ?_⟩,
    hrecomputed.others⟩
  · obtain ⟨-, hweight, -⟩ := hrecord.settings
    exact hweight
  · exact regained_targets (s := weighed i n s) henabled i j
  · obtain ⟨hkept, hfields, hgiven, horder, hleft, hcounted, hcounters⟩ :=
      regained_assigned (s := weighed i n s) henabled (weighed_core hs hw) i
    exact ⟨hkept, hfields, hgiven, horder, hleft, hcounted, hcounters⟩
  · exact regained_planBuilt (s := weighed i n s) henabled (weighed_core hs hw) i

theorem Weighed.responded {w : Nat} {payload : List Byte} (h : Weighed i p w (accepting s) t) :
    Weighed i p w s (responded n payload t) := by
  have hstand : BinsStand t (Machine.responded n payload t) := .of_eq rfl rfl rfl
  refine ⟨h.state, h.weight, h.targets, fun hs henabled => ?_, h.pools⟩
  obtain ⟨⟨hkept, hfields, hgiven, horder, hleft, hcounted, hcounters⟩, hplan⟩ := h.bins ((accepting_stand s).laws hs) henabled
  exact ⟨⟨hkept, hfields, hgiven, horder, hleft, hcounted, hcounters⟩, hstand.planBuilt hplan⟩

theorem exec_setWeight {tag : Byte} (h : Heads (.setWeight tag slot weight) s) (hslot : slot.toNat = i.val + 1) (hweight : weight ≠ 0)
    (helig : isEligible s p i = true) : ∃ t, exec (.setWeight tag slot weight) s = .next t
      ∧ Answers s t [tag, 0x04, 0, slot, BitVec.ofNat 8 (stateCode (t.slots.get i).state).val, 0,
          BitVec.ofNat 8 (min 15 weight.toNat)]
      ∧ Weighed i p (min 15 weight.toNat) s t ∧ OthersStand i s t ∧ t.ports = s.ports ∧ t.scanner = s.scanner := by
  have hanswer : answerSetWeight slot weight = .accept (writeWeight i (min 15 weight.toNat)) fun s => slotResult s i :=
    (withSlot_of hslot _).trans (if_neg hweight)
  have heffect := writeWeight_eligible (s := accepting s) (i := i) (w := min 15 weight.toNat) helig
  have hrecomputed := regained_recomputed i p (weighed i (min 15 weight.toNat) (accepting s))
  obtain ⟨t, ht, hnext, hanswers, hothers, hports, hscanner⟩ := exec_written (i := i)
    (owner := fun _ => answerSetWeight slot weight) (f := fun r => { r with weight := min 15 weight.toNat }) rfl h rfl hanswer
    (by rw [heffect]; exact hrecomputed.follows.eventAt i)
  have hweighed := regained_weighed (s := accepting s) (clampedWeight_pos hweight) helig
  rw [heffect] at ht hanswers
  rw [slotResult_of hslot rfl, hweighed.weight, stateBytes_of_eligible hweighed.state] at hanswers
  generalize regained i p (weighed i (min 15 weight.toNat) (accepting s)) = v at *
  subst ht
  exact ⟨_, hnext, hanswers, hweighed.responded, hothers, hports, hscanner⟩

/-- Settles O46: both requests write the settings, which is no event of the slot, and then recompute its pool; the plan and the
assignment are those of the recomputation. -/
theorem weightsAndAdmissions : Obligations.WeightsAndAdmissions := by
  constructor
  · intro s tag slot weight i h hslot
    refine ⟨fun hweight => ?_, fun hweight hout => ?_, fun p hweight helig henabled => ?_⟩
    · subst hweight
      exact exec_refused (owner := fun _ => answerSetWeight slot 0) (status := .range) rfl h rfl (withSlot_of hslot _)
    · have hanswer : answerSetWeight slot weight = .accept (writeWeight i (min 15 weight.toNat)) fun s => slotResult s i :=
        (withSlot_of hslot _).trans (if_neg hweight)
      have heffect := writeWeight_ineligible (s := accepting s) (i := i) (w := min 15 weight.toNat) hout
      have hget := weighed_get i (min 15 weight.toNat) (accepting s)
      rw [exec_effect (owner := fun _ => answerSetWeight slot weight) rfl h rfl hanswer (by rw [heffect]; rfl), heffect,
        slotResult_of hslot (congrArg SlotRecord.state hget), congrArg SlotRecord.weight hget]
      rfl
    · obtain ⟨t, hexec, hanswers, hweighed, hothers, hports, hscanner⟩ := exec_setWeight h hslot hweight helig
      refine ⟨t, _, hexec, hanswers, rfl, hweighed.state, hweighed.weight, hweighed.targets henabled,
        fun hs => hweighed.bins hs henabled, hweighed.pools, hothers, hports, hscanner⟩
  · intro s tag slot pool weight i p h hslot hpool r asks
    refine ⟨fun hweight => ?_, fun hweight hnot => ?_, fun hweight hasks hdisabled => ?_, fun hs hweight hasks henabled => ?_⟩
    · subst hweight
      exact exec_refused (status := .range) rfl h rfl (answerAdmit_range (s := dropRequest s) hslot hpool)
    · exact exec_refused (status := .badState) rfl h rfl (answerAdmit_badState (s := dropRequest s) hslot hpool hweight hnot)
    · exact exec_refused (status := .poolDisabled) rfl h rfl
        (answerAdmit_disabled (s := dropRequest s) hslot hpool hweight hasks hdisabled)
    · obtain ⟨t, ht, hnext, hanswers, hothers, hports, hscanner⟩ := exec_written (i := i)
        (f := fun r => { r with pool := some p, weight := min 15 weight.toNat }) rfl h rfl
        (answerAdmit_admits (s := dropRequest s) hslot hpool hweight hasks henabled) (admitToPool_eventAt i _)
      have hmay := enrolled_mayAdmit (s := accepting s) (clampedWeight_pos hweight) henabled hasks
      have hadmitted := hmay.admitted ((accepting_stand s).laws hs)
        (by rw [enrolled_get]) rfl
      obtain ⟨hset, hwritten, -⟩ := (admitToPool_eventAt i (enrolled i p (min 15 weight.toNat) (accepting s))).settings
      rw [enrolled_get] at hset hwritten
      rw [slotResult_of hslot rfl, hwritten, stateBytes_of_eligible hadmitted.eligible] at hanswers
      generalize admitToPool i (enrolled i p (min 15 weight.toNat) (accepting s)) = v at *
      subst ht
      have hwhole := hadmitted.responded (n := s.agent.transmit.length) (payload := [tag, 5, 0] ++ slotResult v i)
      obtain ⟨-, -, hdeadline, -⟩ := hwhole.timers
      exact ⟨_, _, hnext, hanswers, rfl, hwhole.state, hwhole.service, hset, hwritten, hdeadline, hwhole.targets, hwhole.pools,
        hwhole, hothers, hports, hscanner, fun hup hlost => hwhole.notice (carries_of_up hup hlost)⟩

end Sys2Proof.Machine
end

section
/-! SUPPORT. The completion of qualification, by the last echo or the last beacon (R10, R11, R127, R128, R146). -/

namespace Sys2Proof.Machine

variable {s t u v : State} {p q : PoolIx} {i j : SlotIx} {bytes : FrameBytes} {info : FrameInfo} {payload : List Byte}

/-! Completion (R11). -/

theorem evaluateQualification_incomplete (h : (s.slots.get i).echoes ≠ 0xFF#8 ∨ (s.slots.get i).beaconsQualified = false) :
    evaluateQualification i s = s := by
  refine if_neg fun ⟨hechoes, hbeacons⟩ => ?_
  exact h.elim (fun h => h hechoes) fun h => Bool.false_ne_true (h.symm.trans hbeacons)

section
variable (hechoes : (s.slots.get i).echoes = 0xFF#8) (hbeacons : (s.slots.get i).beaconsQualified = true)
include hechoes hbeacons

theorem evaluateQualification_standby (h : (s.slots.get i).autoAdmit = false
    ∨ ∀ p, (s.slots.get i).pool = some p → (s.pools.get p).enabled = false) :
    evaluateQualification i s = changeState i .standby s := by
  refine (if_pos ⟨hechoes, hbeacons⟩).trans (if_neg fun hauto => ?_)
  rw [autoAdmits, Bool.and_eq_true] at hauto
  obtain ⟨hadmit, henabled⟩ := hauto
  obtain h | h := h
  · exact Bool.false_ne_true (h.symm.trans hadmit)
  · cases hp : (s.slots.get i).pool with
    | none => rw [hp] at henabled; cases henabled
    | some p =>
      rw [hp] at henabled
      exact Bool.false_ne_true ((h p hp).symm.trans henabled)

theorem evaluateQualification_admits (hauto : (s.slots.get i).autoAdmit = true) (hp : (s.slots.get i).pool = some p)
    (henabled : (s.pools.get p).enabled = true) : evaluateQualification i s = admitToPool i s := by
  refine (if_pos ⟨hechoes, hbeacons⟩).trans (if_pos ?_)
  rw [autoAdmits, hauto, hp, Bool.true_and]
  exact henabled

end

/-- The timers are stopped and the progress kept in an admission (R5, R13). -/
theorem admitToPool_record (hp : (s.slots.get i).pool = some p) (henabled : (s.pools.get p).enabled = true)
    (hne : (s.slots.get i).state ≠ .admitting) : ((admitToPool i s).slots.get i).timersStopped
      ∧ ((admitToPool i s).slots.get i).echoes = (s.slots.get i).echoes
      ∧ ((admitToPool i s).slots.get i).beaconsQualified = (s.slots.get i).beaconsQualified := by
  rw [admitToPool_eq hp henabled]
  show SlotRecord.timersStopped ((regained i p (adopted i p (admitting i s))).slots.get i) ∧ _
  have hget : (adopted i p (admitting i s)).slots.get i = (changeState i .admitting s).slots.get i := by
    rw [(adopted_members i p _).1, admitting_slots]
  have hself := changeState_get_self i .admitting s
  rw [if_neg hne] at hself
  obtain ⟨timer, hrecord⟩ := adopted_record i p (admitting i s)
  have henabled' : ((adopted i p (admitting i s)).pools.get p).enabled = true := by
    rw [hrecord, (admitting_members i s).pools_eq]
    exact henabled
  have hpool : ((adopted i p (admitting i s)).slots.get i).pool = some p := by rw [hget, hself]; exact hp
  have hstate : ((adopted i p (admitting i s)).slots.get i).state = .admitting := by rw [hget]; exact changeState_state ..
  obtain ⟨-, -, hstopped⟩ := regained_service henabled' hpool hstate
  have hprogress := ((regained_recomputed i p (adopted i p (admitting i s))).follows.slots i).progress
  rw [hget, hself] at hprogress
  exact ⟨hstopped (by rw [hget]; exact changeState_timersStopped hne), hprogress⟩

/-- A probing slot in a state that the pools and moves of `s` stand in may be admitted to the pool that its record names. -/
theorem probing_mayAdmit (hs : BinLaws s) (hstate : (s.slots.get i).state = .probing) (hp : (s.slots.get i).pool = some p)
    (henabled : (s.pools.get p).enabled = true) (hpools : u.pools = s.pools) (hengines : u.engines = s.engines)
    (hothers : ∀ j, j ≠ i → u.slots.get j = s.slots.get j) (hpool : (u.slots.get i).pool = (s.slots.get i).pool)
    (hweight : (u.slots.get i).weight = (s.slots.get i).weight) : MayAdmit i p s u where
  roles := ⟨hpools, hengines, fun j hj => by rw [hothers j hj], fun j hj hc => by rwa [hothers j hj] at hc⟩
  pool := hpool.trans hp
  enabled := henabled
  weight := hweight ▸ hs.weight i
  own hholding := by rw [hstate] at hholding; cases hholding
  old := by rw [hstate]; rfl

/-! The echo (R10, R127, R134). -/

theorem controlArrives_echo (h : info.target = 3) : controlArrives i info s = echoArrives i (echoVerdict i info.payload) s := by
  simp [controlArrives, h]

theorem probePayload_eq (i : SlotIx) (n : Nat) : probePayload i n = BitVec.ofNat 8 n ::
    (List.range 63).map fun k => BitVec.ofNat 8 (37 * (k + 1) + 16 * n + (i.val + 1)) := rfl

theorem echoVerdict_intact (n : Fin 8) : echoVerdict i (probePayload i n.val) = some n := by
  have hn : (byteOf n.val).toNat = n.val := by
    rw [byteOf, BitVec.toNat_ofNat]
    omega
  have hlt : (byteOf n.val).toNat < 8 := by omega
  refine (dif_pos hlt).trans ((if_pos (by rw [hn])).trans ?_)
  exact congrArg some (Fin.ext hn)

theorem echoVerdict_mismatch (h : ∀ n : Fin 8, payload ≠ probePayload i n.val) : echoVerdict i payload = none := by
  cases payload with
  | nil => rfl
  | cons n rest =>
    rw [echoVerdict]
    split
    · next hlt => exact if_neg (h ⟨n.toNat, hlt⟩)
    · rfl

/-- The echo of probe `n` has been recorded (R10). -/
def echoed (i : SlotIx) (n : Fin 8) (s : State) : State := (slotReceived s i).updSlot i fun r =>
  { r with
    echoes := r.echoes ||| 1#8 <<< n.val
    probeTimer := if r.echoes ||| 1#8 <<< n.val = 0xFF#8 then none else r.probeTimer }

theorem exec_echo (h : SlotFrame s i bytes info) (hkind : info.kind = .linkCtrl) (htarget : info.target = 3) :
    exec (.slotRxEnd i .normal bytes) s = .next (echoArrives i (echoVerdict i info.payload) (slotReceived s i)) := by
  rw [exec_slotRxEnd_passed h, sortFrame_linkCtrl hkind, controlArrives_echo htarget]

theorem echoArrives_stray (verdict : Option (Fin 8)) (h : (s.slots.get i).state ≠ .probing) :
    echoArrives i verdict s = bumpSlot i .strayControl s := if_neg h

theorem echoArrives_intact (n : Fin 8) (h : (s.slots.get i).state = .probing) :
    echoArrives i (some n) (slotReceived s i) = evaluateQualification i (echoed i n s) := if_pos h

theorem echoArrives_mismatch (h : (s.slots.get i).state = .probing) :
    echoArrives i none s = enterFaulted i .probeMismatch s := if_pos h

theorem slotReceived_frame (i : SlotIx) (s : State) : SlotEventFrame i s (slotReceived s i) :=
  ⟨{ OthersStand.refl i s with
    links := fun j hj => by rw [slotReceived, State.updLink_links, Table.get_modify_of_ne _ hj] }, .refl i s, rfl, rfl⟩

theorem updSlot_frame (i : SlotIx) {f : SlotRecord → SlotRecord} (hf : ∀ r, (f r).pool = r.pool ∧ (f r).weight = r.weight
    ∧ (f r).expectedClass = r.expectedClass ∧ (f r).policy = r.policy ∧ (f r).retireDeadline = r.retireDeadline
    ∧ (f r).rateMode = r.rateMode ∧ (f r).quota = r.quota) (s : State) : SlotEventFrame i s (s.updSlot i f) := by
  refine ⟨updSlot_others i f s, ?_, rfl, rfl⟩
  rw [SettingsStand, State.updSlot_slots, Table.get_modify_self]
  exact hf _

theorem echoed_get (i : SlotIx) (n : Fin 8) (s : State) : (echoed i n s).slots.get i = { s.slots.get i with
    echoes := (s.slots.get i).echoes ||| 1#8 <<< n.val
    probeTimer := if (s.slots.get i).echoes ||| 1#8 <<< n.val = 0xFF#8 then none else (s.slots.get i).probeTimer } :=
  Table.get_modify_self ..

theorem echoed_frame (i : SlotIx) (n : Fin 8) (s : State) : SlotEventFrame i s (echoed i n s) :=
  (slotReceived_frame i s).trans (updSlot_frame (f := fun r => { r with
    echoes := r.echoes ||| 1#8 <<< n.val
    probeTimer := if r.echoes ||| 1#8 <<< n.val = 0xFF#8 then none else r.probeTimer }) i
    (fun _ => ⟨rfl, rfl, rfl, rfl, rfl, rfl, rfl⟩) _)

theorem updSlot_congr {f g : SlotRecord → SlotRecord} (h : f (s.slots.get i) = g (s.slots.get i)) : s.updSlot i f = s.updSlot i g :=
  congrArg (fun table => { s with slots := table }) (Table.modify_congr s.slots i h)

/-- Settles O14: an intact echo writes the echo set, and the evaluation that follows is a case of whether it completes the
qualification. -/
theorem probeEchoesAreJudged : Obligations.ProbeEchoesAreJudged := by
  intro s i bytes info h hkind htarget
  have hexec := exec_echo h hkind htarget
  refine ⟨fun hstate => hexec.trans (congrArg Host.Outcome.next (echoArrives_stray _ hstate)), fun n hstate hpayload => ?_,
    fun hstate hpayload => ?_⟩
  · rw [← probePayload_eq] at hpayload
    rw [hpayload, echoVerdict_intact, echoArrives_intact n hstate] at hexec
    have hget := echoed_get i n s
    have hframe := echoed_frame i n s
    have hstate' : ((echoed i n s).slots.get i).state = .probing := by rw [hget]; exact hstate
    intro r echoes
    refine ⟨fun hnot => ?_, fun hechoes hbeacons hstays => ?_, fun p hs hechoes hbeacons hauto hp henabled => ?_⟩
    · rw [hexec, evaluateQualification_incomplete (by rw [hget]; exact hnot)]
      exact congrArg Host.Outcome.next (updSlot_congr rfl)
    · rw [evaluateQualification_standby (s := echoed i n s) (by rw [hget]; exact hechoes) (by rw [hget]; exact hbeacons)
        (by rw [hget]; exact hstays)] at hexec
      have hself := changeState_get_self i .standby (echoed i n s)
      rw [if_neg (by rw [hstate']; nofun), hget] at hself
      obtain ⟨slots, links, agent, hmembers⟩ := changeState_members i .standby (echoed i n s)
      refine ⟨_, hexec, changeState_state .., changeState_timersStopped (by rw [hstate']; nofun),
        (congrArg SlotRecord.echoes hself).trans hechoes, flagSet_changeState_self (by rw [hstate']; nofun),
        hframe.trans (changeState_eventAt i .standby _).frame, ?_⟩
      rw [hmembers]
      rfl
    · rw [evaluateQualification_admits (s := echoed i n s) (by rw [hget]; exact hechoes) (by rw [hget]; exact hbeacons)
        (by rw [hget]; exact hauto) (by rw [hget]; exact hp) henabled] at hexec
      have hmay : MayAdmit i p s (echoed i n s) := probing_mayAdmit hs hstate hp henabled rfl rfl
        (fun j hj => Table.get_modify_of_ne _ hj _) (by rw [hget]) (by rw [hget])
      have hcarries : ((echoed i n s).links.get i).carries = (s.links.get i).carries := by
        show ((slotReceived s i).links.get i).carries = _
        rw [slotReceived, State.updLink_links, Table.get_modify_self]
        rfl
      obtain ⟨-, hechoes', -⟩ := admitToPool_record (s := echoed i n s) (i := i) (p := p) (by rw [hget]; exact hp) henabled
        (by rw [hstate']; nofun)
      obtain ⟨slots, links, agent, pools, hpools⟩ := admitToPool_pools i (echoed i n s)
      refine ⟨_, hexec, hmay.admitted hs (by rw [hget]) hcarries, hframe.trans (admitToPool_eventAt i _).frame,
        hechoes'.trans (by rw [hget]; exact hechoes), ?_⟩
      rw [hpools]
      rfl
  · rw [echoVerdict_mismatch hpayload, echoArrives_mismatch (s := slotReceived s i) hstate] at hexec
    have hfaults := enterFaulted_faults i .probeMismatch (slotReceived s i)
    exact ⟨_, hexec, hfaults.state, hfaults.lastFault, hfaults.timers, hfaults.link,
      (slotReceived_frame i s).trans hfaults.event.frame⟩

/-! The fourth interval (R10, R128, R146). -/

/-- The beacon has been taken and the beacons have qualified (R10, R146). -/
def beaconsQualified (i : SlotIx) (s : State) : State :=
  (beaconTaken i s).updSlot i fun r => { r with beaconsQualified := true, qualifyTimer := none }

theorem beaconsQualified_get (i : SlotIx) (s : State) : (beaconsQualified i s).slots.get i
    = { s.slots.get i with beaconsQualified := true, qualifyTimer := none } := Table.get_modify_self ..

theorem beaconTaken_frame (i : SlotIx) (s : State) : SlotEventFrame i s (beaconTaken i s) := by
  refine (slotReceived_frame i s).trans ⟨{ OthersStand.refl i _ with monitors := fun j hj => ?_ }, .refl i _, rfl, rfl⟩
  rw [beaconTaken, State.updMonitor_monitors, Table.get_modify_of_ne _ hj]
  rfl

theorem beaconsQualified_frame (i : SlotIx) (s : State) : SlotEventFrame i s (beaconsQualified i s) :=
  (beaconTaken_frame i s).trans (updSlot_frame (f := fun r => { r with beaconsQualified := true, qualifyTimer := none }) i
    (fun _ => ⟨rfl, rfl, rfl, rfl, rfl, rfl, rfl⟩) _)

theorem qualificationReported_qualifies (hstate : (s.slots.get i).state = .probing) (hnot : (s.slots.get i).beaconsQualified = false) :
    qualificationReported i (beaconTaken i s) = evaluateQualification i (beaconsQualified i s) := if_pos ⟨hstate, hnot⟩

theorem TouchesPools.monitors_eq : TouchesPools s t → t.monitors = s.monitors := by
  rintro ⟨_, _, _, _, rfl⟩
  rfl

/-- Settles O16: the report of the fourth interval marks the beacons qualified, and the evaluation that follows is a case of
whether the echoes are complete. -/
theorem theFourthIntervalQualifies : Obligations.TheFourthIntervalQualifies := by
  intro s i bytes info h hkind htarget hup hstate hnot hphase hrun hcount hlow hhigh
  have hexec := exec_beacon h hkind htarget hup
  have hqualifies := beaconQualifies_iff.mpr ⟨hphase, hrun, ne_of_lt hcount, hlow, hhigh⟩
  rw [if_pos hqualifies, qualificationReported_qualifies hstate hnot] at hexec
  have hget := beaconsQualified_get i s
  have hframe := beaconsQualified_frame i s
  have hstate' : ((beaconsQualified i s).slots.get i).state = .probing := by rw [hget]; exact hstate
  have hmonitor : ((beaconsQualified i s).monitors.get i).run = 4 := by
    show ((beaconTaken i s).monitors.get i).run = 4
    rw [beaconTaken, State.updMonitor_monitors, Table.get_modify_self]
    refine (congrArg MonitorRecord.run (beacon_counting hphase)).trans ?_
    refine (judgedRun_within (ne_of_lt hcount) hlow hhigh).trans ?_
    rw [hrun]
    rfl
  by_cases hechoes : (s.slots.get i).echoes = 0xFF#8
  · by_cases hstays : (s.slots.get i).autoAdmit = false ∨ ∀ p, (s.slots.get i).pool = some p → (s.pools.get p).enabled = false
    · rw [evaluateQualification_standby (s := beaconsQualified i s) (by rw [hget]; exact hechoes)
        (congrArg SlotRecord.beaconsQualified hget) (by rw [hget]; exact hstays)] at hexec
      have hself := changeState_get_self i .standby (beaconsQualified i s)
      rw [if_neg (by rw [hstate']; nofun), hget] at hself
      have hstopped := changeState_timersStopped (i := i) (new := .standby) (s := beaconsQualified i s) (by rw [hstate']; nofun)
      obtain ⟨-, hqualify, -⟩ := id hstopped
      refine ⟨_, hexec, congrArg SlotRecord.beaconsQualified hself, hqualify,
        by rw [(changeState_members i .standby _).monitors_eq, hmonitor], fun hne => absurd hechoes hne,
        ⟨fun _ _ => ⟨changeState_state .., hstopped, flagSet_changeState_self (by rw [hstate']; nofun)⟩,
          fun _ => hframe.trans (changeState_eventAt i .standby _).frame⟩, fun p _ _ hauto hp henabled => ?_⟩
      obtain hmanual | hdisabled := hstays
      · exact absurd (hmanual.symm.trans hauto) Bool.false_ne_true
      · exact absurd ((hdisabled p hp).symm.trans henabled) Bool.false_ne_true
    · simp only [not_or, not_forall, Bool.not_eq_false, exists_prop] at hstays
      obtain ⟨hauto, p, hp, henabled⟩ := hstays
      rw [evaluateQualification_admits (s := beaconsQualified i s) (by rw [hget]; exact hechoes)
        (congrArg SlotRecord.beaconsQualified hget) (by rw [hget]; exact hauto) (by rw [hget]; exact hp) henabled] at hexec
      have hcarries : ((beaconsQualified i s).links.get i).carries = (s.links.get i).carries := by
        show ((slotReceived s i).links.get i).carries = _
        rw [slotReceived, State.updLink_links, Table.get_modify_self]
        rfl
      obtain ⟨⟨-, hqualify, -⟩, -, hbeacons⟩ := admitToPool_record (s := beaconsQualified i s) (i := i) (p := p)
        (by rw [hget]; exact hp) henabled (by rw [hstate']; nofun)
      have hstays : ¬ ((s.slots.get i).autoAdmit = false ∨ ∀ p, (s.slots.get i).pool = some p → (s.pools.get p).enabled = false) :=
        fun h => h.elim (fun h => Bool.false_ne_true (h.symm.trans hauto))
          fun h => Bool.false_ne_true ((h p hp).symm.trans henabled)
      refine ⟨_, hexec, hbeacons.trans (congrArg SlotRecord.beaconsQualified hget), hqualify,
        by rw [(admitToPool_pools i _).monitors_eq, hmonitor], fun hne => absurd hechoes hne,
        ⟨fun _ h => absurd h hstays, fun h => (h.elim (fun hne => absurd hechoes hne) fun h => absurd h hstays)⟩,
        fun q hs _ _ hq hqenabled => ⟨?_, hframe.trans (admitToPool_eventAt i _).frame⟩⟩
      have hmay : MayAdmit i q s (beaconsQualified i s) := probing_mayAdmit hs hstate hq hqenabled rfl rfl
        (fun j hj => Table.get_modify_of_ne _ hj _) (by rw [hget]) (by rw [hget])
      exact hmay.admitted hs (by rw [hget]) hcarries
  · rw [evaluateQualification_incomplete (s := beaconsQualified i s) (.inl (by rw [hget]; exact hechoes))] at hexec
    exact ⟨_, hexec, by rw [hget], by rw [hget], hmonitor, fun _ => hstate',
      ⟨fun heq => absurd heq hechoes, fun _ => hframe⟩, fun _ _ heq => absurd heq hechoes⟩

end Sys2Proof.Machine
end

section
/-! SUPPORT. What an accepted change of presence, power or handle does to its slot (R8, R22–R24, R27, R159). -/

namespace Sys2Proof.Machine

variable {s t u v : State} {p q : PoolIx} {i j : SlotIx} {c : BusCycle} {word : Byte}

/-! A delivery, signal by signal (R22). -/

/-- What a change of presence does. -/
def presenceDelivered (i : SlotIx) : Option Bool → State → State
  | none, s => s
  | some true, s => seatIfReady i s
  | some false, s => presenceLost i s

/-- What a change of power good does. -/
def powerDelivered (i : SlotIx) : Option Bool → State → State
  | none, s => s
  | some true, s => seatIfReady i s
  | some false, s => powerLost i s

/-- What a change of the handle does. -/
def handleDelivered (i : SlotIx) : Option Bool → State → State
  | none, s => s
  | some true, s => handleClosed i s
  | some false, s => handleOpened i s

theorem deliver_eq (i : SlotIx) (d : Delivery) (s : State) :
    deliver i d s = handleDelivered i d.handle (powerDelivered i d.power (presenceDelivered i d.presence s)) := by
  obtain ⟨presence, power, handle⟩ := d
  rcases presence with _ | _ | _ <;> rcases power with _ | _ | _ <;> rcases handle with _ | _ | _ <;> rfl

theorem changeTo_same {g g' : Signal Bool} (h : g'.accepted = g.accepted) : g.changeTo g' = none := if_pos h

theorem changeTo_new {g g' : Signal Bool} {b : Bool} (hnew : g'.accepted = b) (hold : g.accepted = !b) : g.changeTo g' = some b := by
  have hne : g'.accepted ≠ g.accepted := by rw [hnew, hold]; cases b <;> decide
  rw [Signal.changeTo, if_neg hne, hnew]

theorem changeTo_accepts {g g' : Signal Bool} {b : Bool} (hnew : g'.accepted = b) : g.changeTo g' = none ∨ g.changeTo g' = some b := by
  by_cases h : g'.accepted = g.accepted
  · exact .inl (changeTo_same h)
  · exact .inr ((if_neg h).trans (congrArg some hnew))

/-! The handle (R27). -/

theorem handleOpened_flag (hne : (s.slots.get i).state ≠ .empty)
    (hnot : (s.slots.get i).state.eligible = false ∨ (s.slots.get i).autoRetire = false) :
    handleOpened i s = raiseFlag i .handleOpened s := by
  refine (if_neg hne).trans (if_neg fun ⟨helig, hauto⟩ => ?_)
  exact hnot.elim (fun h => Bool.false_ne_true (h.symm.trans helig)) fun h => Bool.false_ne_true (h.symm.trans hauto)

theorem handleOpened_retires (helig : (s.slots.get i).state.eligible = true) (hauto : (s.slots.get i).autoRetire = true) :
    handleOpened i s = retireAutomatically i (raiseFlag i .handleOpened) s := by
  refine (if_neg fun h => ?_).trans (if_pos ⟨helig, hauto⟩)
  rw [h] at helig
  cases helig

theorem handleClosed_flag (hne : (s.slots.get i).state ≠ .empty) (hnot : (s.slots.get i).state ≠ .drained) :
    handleClosed i s = raiseFlag i .handleClosed s := by
  unfold handleClosed
  split
  · next h => exact absurd h hne
  · next h => exact absurd h hnot
  all_goals rfl

theorem handleClosed_drained (h : (s.slots.get i).state = .drained) :
    handleClosed i s = enterProbingFromDrained i (raiseFlag i .handleClosed) s := by
  simp only [handleClosed, h]

/-- What the handle does to a slot that is neither empty nor drained nor eligible is at most a flag. -/
theorem handleDelivered_flag (change : Option Bool) (hne : (s.slots.get i).state ≠ .empty) (hdrained : (s.slots.get i).state ≠ .drained)
    (helig : (s.slots.get i).state.eligible = false) :
    handleDelivered i change s = s ∨ ∃ f, handleDelivered i change s = raiseFlag i f s := by
  rcases change with _ | _ | _
  · exact .inl rfl
  · exact .inr ⟨_, handleOpened_flag hne (.inl helig)⟩
  · exact .inr ⟨_, handleClosed_flag hne hdrained⟩

theorem handleDelivered_empty (change : Option Bool) (h : (s.slots.get i).state = .empty) : handleDelivered i change s = s := by
  rcases change with _ | _ | _
  · rfl
  · exact if_pos h
  · show handleClosed i s = s
    simp only [handleClosed, h]

/-! Presence and power (R8, R23, R24). -/

theorem seatIfReady_stays (h : (s.slots.get i).state ≠ .empty ∨ (s.ports.get i).presence.accepted = false) :
    seatIfReady i s = s := by
  refine if_neg fun hready => ?_
  obtain ⟨hempty, hpresence, -⟩ := hready
  exact h.elim (fun h => h hempty) fun h => Bool.false_ne_true (h.symm.trans hpresence)

theorem seatIfReady_seats (hempty : (s.slots.get i).state = .empty) (hpresence : (s.ports.get i).presence.accepted = true)
    (hpower : (s.ports.get i).power.accepted = true) : seatIfReady i s = seat i s := if_pos ⟨hempty, hpresence, hpower⟩

theorem linkTrain_slots (i : SlotIx) (s : State) : (linkTrain i s).slots = s.slots :=
  dropLink_slots ..

/-- A slot that has been seated (R8). -/
theorem seat_seats (i : SlotIx) (s : State) : ((seat i s).slots.get i).state = .seated
    ∧ ((seat i s).links.get i).state = .training ∧ ((seat i s).links.get i).attemptTimer = some 50
    ∧ ((s.ports.get i).handle.accepted = false → flagSet (seat i s) i .handleOpened = true) := by
  obtain ⟨hstate, htimer, -⟩ := linkTrain_starts i
    (if (s.ports.get i).handle.accepted then changeState i .seated s else raiseFlag i .handleOpened (changeState i .seated s))
  refine ⟨?_, hstate, htimer, fun hopen => ?_⟩
  · rw [seat, linkTrain_slots]
    split
    · exact changeState_state ..
    · exact (raiseFlag_state ..).trans (changeState_state ..)
  · rw [seat, flagSet, linkTrain_slots, if_neg (by rw [hopen]; exact Bool.false_ne_true)]
    exact flagSet_raiseFlag ..

/-- The slot is EMPTY, and its removal raised where it was not to be expected, before the link goes dark (R23). -/
def removed (i : SlotIx) (s : State) : State :=
  if (s.slots.get i).state.eligible ∨ (s.slots.get i).state = .retiring .moving
    then raiseFlag i .surpriseRemoval (changeState i .empty s) else changeState i .empty s

theorem presenceLost_eq (h : (s.slots.get i).state ≠ .empty) :
    presenceLost i s = depart i (s.slots.get i).state (linkGoDark i (removed i s)) := if_neg h

theorem powerLost_eq (h : (s.slots.get i).state ≠ .empty) : powerLost i s = enterFaulted i .powerLost s := if_neg h

theorem raiseFlag_timersStopped (f : SlotFlag) (h : (s.slots.get i).timersStopped) : ((raiseFlag i f s).slots.get i).timersStopped := by
  obtain ⟨slots, agent, hraise, hslots⟩ := raiseFlag_frame i f s
  obtain ⟨attention, hget⟩ := hslots i
  rw [hraise]
  show SlotRecord.timersStopped (slots.get i)
  rw [hget]
  exact h

/-- The record of the slot as its blade has gone. -/
theorem removed_slot (h : (s.slots.get i).state ≠ .empty) : ((removed i s).slots.get i).state = .empty
    ∧ ((removed i s).slots.get i).timersStopped
    ∧ ((s.slots.get i).state ∈ [.admitting, .inService, .retiring .moving] → flagSet (removed i s) i .surpriseRemoval = true) := by
  have hstate := changeState_state i .empty s
  have hstopped := changeState_timersStopped (i := i) (new := .empty) h
  unfold removed
  split
  · exact ⟨(raiseFlag_state ..).trans hstate, raiseFlag_timersStopped _ hstopped, fun _ => flagSet_raiseFlag ..⟩
  · next hnot =>
    refine ⟨hstate, hstopped, fun hmem => absurd ?_ hnot⟩
    simp only [List.mem_cons, List.not_mem_nil, or_false] at hmem
    obtain hold | hold | hold := hmem <;> rw [hold]
    · exact .inl rfl
    · exact .inl rfl
    · exact .inr rfl

theorem removed_leaves (i : SlotIx) (s : State) : Leaves i s (removed i s) := by
  have hleaves : Leaves i s (changeState i .empty s) := changeState_leaves rfl s
  unfold removed
  split
  · exact hleaves.raiseFlag _
  · exact hleaves

/-- What a slot that has been emptied keeps under the laws: nothing. -/
structure Emptied (i : SlotIx) (t : State) : Prop where
  egress : t.egress.get i = []
  upstream : (t.upstream.get i).queue = []
  still : inActiveMove t i = false
  none : ∀ p b, ((t.pools.get p).bins.get b).owner ≠ .owned i

theorem DepartedWhole.emptied (h : DepartedWhole i s t) : Emptied i t :=
  ⟨h.egress, congrArg UpstreamRecord.queue h.upstream, h.still, h.noBin⟩

/-- A slot whose blade has gone (R23). -/
theorem presenceLost_empties (h : (s.slots.get i).state ≠ .empty) : ((presenceLost i s).slots.get i).state = .empty
    ∧ ((presenceLost i s).slots.get i).timersStopped
    ∧ ((s.slots.get i).state ∈ [.admitting, .inService, .retiring .moving] → flagSet (presenceLost i s) i .surpriseRemoval = true)
    ∧ (BinLaws s → Emptied i (presenceLost i s)) := by
  have hlinks : (linkGoDark i (removed i s)).slots = (removed i s).slots := (linkGoDark_links i _).slots_eq
  obtain ⟨hstate, hstopped, hflag⟩ := removed_slot h
  have hstands := (depart_record i i (s.slots.get i).state (linkGoDark i (removed i s))).stands
    (by rw [hlinks, hstate]; nofun) (by rw [hlinks, hstate]; nofun)
  rw [hlinks] at hstands
  rw [presenceLost_eq h, flagSet, hstands]
  exact ⟨hstate, hstopped, hflag, fun hs => (leaves_whole ((removed_leaves i s).links (linkGoDark_links i _)) hs).emptied⟩

/-- A slot whose power has gone (R24). -/
theorem enterFaulted_emptied (cause : FaultCause) (hs : BinLaws s) : Emptied i (enterFaulted i cause s) := by
  have hleaves : Leaves i s ((changeState i .faulted s).updSlot i fun r => { r.stopTimers with lastFault := some cause }) :=
    (changeState_leaves rfl s).updSlot fun _ => rfl
  exact (leaves_whole ((hleaves.raiseFlag .fault).links (linkGoDark_links i _)) hs).emptied

theorem Emptied.members (h : Emptied i s) (hmembers : TouchesMembers s t) : Emptied i t := by
  obtain ⟨_, _, _, rfl⟩ := hmembers
  exact ⟨h.egress, h.upstream, h.still, h.none⟩

/-! The read that ends in a delivery. -/

/-- The change of presence that a good read brings. -/
def presenceChange (i : SlotIx) (word : Byte) (s : State) : Option Bool :=
  (s.ports.get i).presence.changeTo ((s.ports.get i).presence.judge s.scanner.debounce (word.getLsbD 7))

/-- The change of power good that a good read brings. -/
def powerChange (i : SlotIx) (word : Byte) (s : State) : Option Bool :=
  (s.ports.get i).power.changeTo ((s.ports.get i).power.judge s.scanner.debounce (word.getLsbD 6))

/-- The change of the handle that a good read brings. -/
def handleChange (i : SlotIx) (word : Byte) (s : State) : Option Bool :=
  (s.ports.get i).handle.changeTo ((s.ports.get i).handle.judge s.scanner.debounce (word.getLsbD 5))

theorem sample_delivered (i : SlotIx) (word : Byte) (s : State) : sample i true word s
    = handleDelivered i (handleChange i word s) (powerDelivered i (powerChange i word s)
        (presenceDelivered i (presenceChange i word s) (sampled i true word s))) := by
  rw [sample_good, deliver_eq]
  rfl

/-- What the end of a read cycle says of slot `i` stands in the state that the sample leaves. -/
theorem exec_goodRead (hcycle : s.scanner.cycle = some c) : ∃ scanner transmit,
    exec (.readCycleEnd true word (~~~word)) s = .next { sample c.address true word s with
      scanner := scanner, agent := { (sample c.address true word s).agent with transmit := transmit } } := by
  have hgood : readIsGood true word (~~~word) = true := readIsGood_iff.mpr ⟨rfl, rfl⟩
  obtain ⟨scanner, transmit, hframe⟩ := cycleEnds_frame c true word s
  exact ⟨scanner, transmit, by rw [exec_readCycleEnd hcycle, hgood, hframe]⟩

/-- The state before the delivery: its slots, links, moves and bins are those before the read. -/
theorem sampled_stand (i : SlotIx) (word : Byte) (s : State) : BinsStand s (sampled i true word s) := .of_eq rfl rfl rfl

theorem sampled_port (i : SlotIx) (word : Byte) (s : State) :
    (sampled i true word s).ports.get i = (s.ports.get i).goodRead s.scanner.debounce word := Table.get_modify_self ..

/-- A blade present with good power is seated by whichever of the two is accepted last (R8). -/
theorem powerDelivered_seats {presence power : Option Bool} (hempty : (s.slots.get i).state = .empty)
    (hpresent : (s.ports.get i).presence.accepted = true) (hpowered : (s.ports.get i).power.accepted = true)
    (hp : presence = none ∨ presence = some true) (hw : power = none ∨ power = some true)
    (hnew : presence = some true ∨ power = some true) :
    powerDelivered i power (presenceDelivered i presence s) = seat i s := by
  have hseat := seatIfReady_seats hempty hpresent hpowered
  obtain rfl | rfl := hp
  · obtain rfl : power = some true := hnew.resolve_left nofun
    exact hseat
  · show powerDelivered i power (seatIfReady i s) = _
    rw [hseat]
    obtain rfl | rfl := hw
    · rfl
    · obtain ⟨hstate, -⟩ := seat_seats i s
      exact seatIfReady_stays (.inl (by rw [hstate]; nofun))

/-- Lost presence leaves nothing for power and the handle to change (R22, R23). -/
theorem delivered_removed {power handle : Option Bool} (hne : (s.slots.get i).state ≠ .empty)
    (habsent : (s.ports.get i).presence.accepted = false) :
    handleDelivered i handle (powerDelivered i power (presenceDelivered i (some false) s)) = presenceLost i s := by
  obtain ⟨hstate, -⟩ := presenceLost_empties hne
  have hpower : powerDelivered i power (presenceLost i s) = presenceLost i s := by
    rcases power with _ | _ | _
    · rfl
    · exact if_pos hstate
    · refine seatIfReady_stays (.inr ?_)
      rw [(presenceLost_eventAt i s).ports]
      exact habsent
  show handleDelivered i handle (powerDelivered i power (presenceLost i s)) = _
  rw [hpower, handleDelivered_empty handle hstate]

theorem raiseFlag_keeps (i : SlotIx) (f : SlotFlag) (s : State) : ((raiseFlag i f s).slots.get i).state = (s.slots.get i).state
    ∧ ((raiseFlag i f s).slots.get i).lastFault = (s.slots.get i).lastFault ∧ (raiseFlag i f s).links = s.links := by
  obtain ⟨slots, agent, hraise, hslots⟩ := raiseFlag_frame i f s
  obtain ⟨attention, hget⟩ := hslots i
  rw [hraise]
  refine ⟨?_, ?_, rfl⟩
  · show (slots.get i).state = _
    rw [hget]
  · show (slots.get i).lastFault = _
    rw [hget]

/-- Lost power faults the slot, and the handle at most raises its flag then (R22, R24). -/
theorem delivered_unpowered {handle : Option Bool} (hne : (s.slots.get i).state ≠ .empty)
    (ht : t = handleDelivered i handle (powerDelivered i (some false) s)) :
    (t.slots.get i).state = .faulted ∧ (t.slots.get i).lastFault = some .powerLost ∧ (t.links.get i).state = .dark
      ∧ flagSet t i .fault = true ∧ (BinLaws s → Emptied i t) := by
  have hfaults := enterFaulted_faults i .powerLost s
  have hempties (hs : BinLaws s) := enterFaulted_emptied (i := i) .powerLost hs
  replace ht : t = handleDelivered i handle (enterFaulted i .powerLost s) := by
    rw [ht, ← powerLost_eq hne]
    rfl
  obtain hsame | ⟨f, hflag⟩ := handleDelivered_flag handle (s := enterFaulted i .powerLost s) (i := i)
    (by rw [hfaults.state]; nofun) (by rw [hfaults.state]; nofun) (by rw [hfaults.state]; rfl)
  · rw [ht, hsame]
    exact ⟨hfaults.state, hfaults.lastFault, hfaults.link, hfaults.fault, hempties⟩
  · obtain ⟨hstate, hlast, hlinks⟩ := raiseFlag_keeps i f (enterFaulted i .powerLost s)
    rw [ht, hflag]
    refine ⟨hstate.trans hfaults.state, hlast.trans hfaults.lastFault, by rw [hlinks]; exact hfaults.link,
      (raiseFlag_eventAt i f _).proceeds.flags i .fault hfaults.fault, fun hs => (hempties hs).members (raiseFlag_members i f _)⟩

/-- An automatic retirement under an opened handle (R17, R27). -/
theorem handleOpened_alone (helig : (s.slots.get i).state.eligible = true) (hauto : (s.slots.get i).autoRetire = true) :
    flagSet (handleOpened i s) i .handleOpened = true ∧ RetiresAlone i s (handleOpened i s) := by
  rw [handleOpened_retires helig hauto]
  refine ⟨?_, retireAutomatically_alone (fun u => (raiseFlag_members i .handleOpened u).pools_eq)
    (fun u => raiseFlag_state i i .handleOpened u) fun u => flagSet_raiseFlag_of_ne (by decide) i i u⟩
  have hevent : EventAt i (raiseFlag i .handleOpened (changeState i (.retiring .moving) s))
      (retireAutomatically i (raiseFlag i .handleOpened) s) := by
    refine EventAt.trans ?_ ((loseEligibility_follows i _).eventAt i |>.trans ((evaluateConfirmation_follows i _).eventAt i))
    refine EventAt.trans ?_ (.updSlot (fun _ => by simp) fun _ _ hk => hk)
    exact .ite (fun _ => raiseFlag_eventAt i .lastMember _) fun _ => .refl i _
  exact hevent.proceeds.flags i .handleOpened (flagSet_raiseFlag ..)

theorem handleClosed_raises (hne : (s.slots.get i).state ≠ .empty) : flagSet (handleClosed i s) i .handleClosed = true := by
  by_cases hdrained : (s.slots.get i).state = .drained
  · rw [handleClosed_drained hdrained]
    have hevent := (linkResume_eventAt i (raiseFlag i .handleClosed (changeState i .probing s))).trans (checkClass_eventAt i _)
    exact hevent.proceeds.flags i .handleClosed (flagSet_raiseFlag ..)
  · rw [handleClosed_flag hne hdrained]
    exact flagSet_raiseFlag ..

/-- A DRAINED slot whose handle closes is probed, where any class is expected (R9, R27). -/
theorem handleClosed_probes (hdrained : (s.slots.get i).state = .drained) (hclass : (s.slots.get i).expectedClass = 0) :
    ((handleClosed i s).slots.get i).state = .probing ∧ ((handleClosed i s).slots.get i).probeTimer = some 50
      ∧ ((s.links.get i).state = .parked →
        ((handleClosed i s).links.get i).state = .up ∧ ((handleClosed i s).links.get i).lost = false) := by
  rw [handleClosed_drained hdrained]
  have hevent : EventAt i s (linkResume i (raiseFlag i .handleClosed (changeState i .probing s))) :=
    ((changeState_eventAt i .probing s).trans (raiseFlag_eventAt i .handleClosed _)).trans (linkResume_eventAt i _)
  have hprobing : ((linkResume i (raiseFlag i .handleClosed (changeState i .probing s))).slots.get i).state = .probing := by
    rw [(linkResume_links i _).slots_eq]
    exact (raiseFlag_state ..).trans (changeState_state ..)
  have hpasses : classPasses (linkResume i (raiseFlag i .handleClosed (changeState i .probing s))) i = true := by
    obtain ⟨-, -, hsame, -⟩ := hevent.settings
    exact classPasses_iff.mpr (.inl (hsame.trans hclass))
  have hprobes := checkClass_probes hprobing hpasses
  obtain ⟨htimer, -⟩ := hprobes.timers
  refine ⟨hprobes.state, htimer, fun hparked => ?_⟩
  obtain ⟨-, -, hlinks⟩ := raiseFlag_keeps i .handleClosed (changeState i .probing s)
  rw [changeState_links] at hlinks
  have hlink : (linkResume i (raiseFlag i .handleClosed (changeState i .probing s))).links.get i = { s.links.get i with
      state := .up, lost := false, lockLossTimer := if (s.links.get i).lock then none else some 1000 } := by
    rw [linkResume_of_parked (by rw [hlinks]; exact hparked)]
    refine (Table.get_modify_self ..).trans ?_
    rw [hlinks]
  have hup := hprobes.link (by rw [hlink]; rfl)
  rw [hlink] at hup
  exact ⟨congrArg LinkRecord.state hup, congrArg LinkRecord.lost hup⟩

/-- Settles O35: a delivery is its three changes in their order, and each clause of the statement is a case of what they are. -/
theorem acceptedChangesMoveTheSlot : Obligations.AcceptedChangesMoveTheSlot := by
  intro s c word i hcycle hi d q presence power handle before
  subst hi
  obtain ⟨scanner, transmit, hexec⟩ := exec_goodRead (word := word) hcycle
  have hport := sampled_port c.address word s
  have hlaws (hs : BinLaws s) := (sampled_stand c.address word s).laws hs
  have hu := sample_delivered c.address word s
  generalize sample c.address true word s = u at *
  refine ⟨_, hexec, fun hp hw hh => ?_, fun hb hp hw hnew => ?_, fun hb hold hp => ?_, fun hb hp hold hw => ?_,
    fun hp hw hold hh hb => ?_, fun hp hw hold hh hb => ?_⟩
  · rw [presenceChange, powerChange, handleChange, changeTo_same hp, changeTo_same hw, changeTo_same hh] at hu
    subst hu
    rfl
  · rw [powerDelivered_seats (s := sampled c.address true word s) (presence := presenceChange c.address word s)
      (power := powerChange c.address word s) hb (by rw [hport]; exact hp) (by rw [hport]; exact hw)
      (changeTo_accepts hp) (changeTo_accepts hw) (hnew.imp (changeTo_new hp) (changeTo_new hw))] at hu
    obtain ⟨hstate, hlink, htimer, hopen⟩ := seat_seats c.address (sampled c.address true word s)
    rw [hport] at hopen
    obtain hsame | ⟨f, hflag⟩ := handleDelivered_flag (handleChange c.address word s) (s := seat c.address (sampled c.address true word s))
      (i := c.address) (by rw [hstate]; nofun) (by rw [hstate]; nofun) (by rw [hstate]; rfl)
    · rw [hsame] at hu
      subst hu
      exact ⟨hstate, hlink, htimer, hopen⟩
    · obtain ⟨hkept, -, hlinks⟩ := raiseFlag_keeps c.address f (seat c.address (sampled c.address true word s))
      have hraised := (raiseFlag_eventAt c.address f (seat c.address (sampled c.address true word s))).proceeds.flags
        c.address .handleOpened
      rw [hflag] at hu
      rw [← hlinks] at hlink htimer
      subst hu
      exact ⟨hkept.trans hstate, hlink, htimer, fun h => hraised (hopen h)⟩
  · rw [presenceChange, changeTo_new hp hold, delivered_removed (s := sampled c.address true word s) hb (by rw [hport]; exact hp)] at hu
    obtain ⟨hstate, hstopped, hflag, hempties⟩ := presenceLost_empties (s := sampled c.address true word s) hb
    subst hu
    refine ⟨hstate, hstopped, hflag, fun hs => ?_⟩
    obtain ⟨hegress, hupstream, hstill, hnone⟩ := hempties (hlaws hs)
    exact ⟨hegress, hupstream, hstill, hnone⟩
  · rw [presenceChange, powerChange, changeTo_same hp, changeTo_new hw hold] at hu
    obtain ⟨hstate, hlast, hlink, hfault, hempties⟩ := delivered_unpowered (s := sampled c.address true word s) hb hu
    refine ⟨hstate, hlast, hlink, hfault, fun hs => ?_⟩
    obtain ⟨hegress, hupstream, hstill, hnone⟩ := hempties (hlaws hs)
    exact ⟨hegress, hupstream, hstill, hnone⟩
  · rw [presenceChange, powerChange, handleChange, changeTo_same hp, changeTo_same hw, changeTo_new hh hold] at hu
    replace hu : u = handleOpened c.address (sampled c.address true word s) := hu
    refine ⟨?_, fun hnot => ?_, fun helig hauto => ?_⟩
    · by_cases h : before.eligible = true ∧ (s.slots.get c.address).autoRetire = true
      · obtain ⟨helig, hauto⟩ := h
        have hflag := (handleOpened_alone (s := sampled c.address true word s) helig hauto).1
        subst hu
        exact hflag
      · rw [handleOpened_flag (s := sampled c.address true word s) hb (not_and_or.mp h |>.imp Bool.eq_false_iff.mpr Bool.eq_false_iff.mpr)] at hu
        subst hu
        exact flagSet_raiseFlag ..
    · rw [handleOpened_flag (s := sampled c.address true word s) hb hnot] at hu
      obtain ⟨hkept, -⟩ := raiseFlag_keeps c.address .handleOpened (sampled c.address true word s)
      subst hu
      exact hkept
    · obtain ⟨-, hstate, hbins, hlast, hamong⟩ := handleOpened_alone (s := sampled c.address true word s) helig hauto
      subst hu
      exact ⟨hstate, hbins, hlast, hamong⟩
  · rw [presenceChange, powerChange, handleChange, changeTo_same hp, changeTo_same hw, changeTo_new hh hold] at hu
    replace hu : u = handleClosed c.address (sampled c.address true word s) := hu
    refine ⟨?_, fun hnot => ?_, fun hdrained hclass => ?_⟩
    · have hflag := handleClosed_raises (s := sampled c.address true word s) hb
      subst hu
      exact hflag
    · rw [handleClosed_flag (s := sampled c.address true word s) hb hnot] at hu
      obtain ⟨hkept, -⟩ := raiseFlag_keeps c.address .handleClosed (sampled c.address true word s)
      subst hu
      exact hkept
    · obtain ⟨hstate, htimer, hlink⟩ := handleClosed_probes (s := sampled c.address true word s) hdrained hclass
      subst hu
      exact ⟨hstate, htimer, hlink⟩

end Sys2Proof.Machine
end

section
/-! SUPPORT. What the steps of a RESTART leave: the discarding aborts, the flushes of the egress queues while every engine is
IDLE, the recomputations and the flushes of the upstream queues (R60, R78, R96, R111, R114). -/

namespace Sys2Proof.Machine

variable {s t u : State} {p q : PoolIx} {i j : SlotIx} {b c : BinIx} {e : EngineIx} {m : MoveRecord}

/-- A step on every number does its part at number `j` once, where no other step touches what that part is about. -/
theorem forEach_once {α : Type} {n : Nat} {f : Fin n → State → State} {val : State → α} {P : State → Prop} {eff : α → α → Prop}
    {j : Fin n} (hkeep : ∀ i s, P s → P (f i s)) (hother : ∀ i s, i ≠ j → P s → val (f i s) = val s)
    (hself : ∀ s, P s → eff (val s) (val (f j s))) (hs : P s) : eff (val s) (val (forEach f (List.finRange n) s)) := by
  have hrest (is : List (Fin n)) (hj : j ∉ is) (s : State) (hs : P s) : val (forEach f is s) = val s := by
    induction is generalizing s with
    | nil => rfl
    | cons i is ih =>
      obtain ⟨hne, hj⟩ := not_or.mp fun h => hj (List.mem_cons.mpr h)
      rw [forEach_cons, ih hj _ (hkeep i s hs), hother i s (Ne.symm hne) hs]
  have hall (is : List (Fin n)) (hnodup : is.Nodup) (hj : j ∈ is) (s : State) (hs : P s) : eff (val s) (val (forEach f is s)) := by
    induction is generalizing s with
    | nil => cases hj
    | cons i is ih =>
      obtain ⟨hi, hnodup⟩ := List.nodup_cons.mp hnodup
      rw [forEach_cons]
      obtain rfl | hne := eq_or_ne i j
      · rw [hrest is hi _ (hkeep i s hs)]
        exact hself s hs
      · rw [← hother i s hne hs]
        exact ih hnodup ((List.mem_cons.mp hj).resolve_left (Ne.symm hne)) _ (hkeep i s hs)
  exact hall _ (List.nodup_finRange n) (List.mem_finRange j) s hs

/-! What the steps before the upstream flushes leave. -/

/-- Settings, membership but for completed admissions and retirements, owners, links but for their control lists and data
transmissions, and PAUSE_SENT stand. -/
structure Unloads (s t : State) : Prop where
  touches : TouchesTraffic s t
  agent : AgentNotices s.agent t.agent
  slots : ∀ j, RecordFollows (s.slots.get j) (t.slots.get j)
  links : ∀ j, t.links.get j = { s.links.get j with control := (t.links.get j).control, tx := (t.links.get j).tx }
  pauses : ∀ j, (t.links.get j).control.filter ControlFrame.isPause = (s.links.get j).control.filter ControlFrame.isPause
  pools : ∀ p, t.pools.get p = { s.pools.get p with
    targets := (t.pools.get p).targets, plan := (t.pools.get p).plan, bins := (t.pools.get p).bins
    counters := (t.pools.get p).counters }
  owners : ∀ p b, ((s.pools.get p).bins.get b).owner ≠ .unowned →
    ((t.pools.get p).bins.get b).owner = ((s.pools.get p).bins.get b).owner
  paused : ∀ j, t.slotCount j .pauseSent = s.slotCount j .pauseSent

theorem Unloads.refl (s : State) : Unloads s s :=
  ⟨.refl s, .refl _, fun _ => .refl _, fun _ => rfl, fun _ => rfl, fun _ => rfl, fun _ _ _ => rfl, fun _ => rfl⟩

theorem Unloads.trans (h : Unloads s t) (h' : Unloads t u) : Unloads s u where
  touches := h.touches.trans h'.touches
  agent := h.agent.trans h'.agent
  slots j := (h.slots j).trans (h'.slots j)
  links j := by rw [h'.links j, h.links j]
  pauses j := (h'.pauses j).trans (h.pauses j)
  pools p := by rw [h'.pools p, h.pools p]
  owners p b hb := (h'.owners p b (h.owners p b hb ▸ hb)).trans (h.owners p b hb)
  paused j := (h'.paused j).trans (h.paused j)

theorem LinkFollows.pauses {l l' : LinkRecord} (h : LinkFollows l l') :
    l'.control.filter ControlFrame.isPause = l.control.filter ControlFrame.isPause := by
  obtain rfl | ⟨-, -, rfl⟩ := h
  · rfl
  · rw [List.filter_append]
    exact List.append_nil _

theorem LinkFollows.tx {l l' : LinkRecord} (h : LinkFollows l l') : l'.tx = l.tx := by
  obtain ⟨_, rfl⟩ := h.fields
  rfl

theorem Unloads.of_follows (h : Follows s t)
    (hpools : ∀ p, t.pools.get p = { s.pools.get p with
      targets := (t.pools.get p).targets, plan := (t.pools.get p).plan, bins := (t.pools.get p).bins
      counters := (t.pools.get p).counters })
    (howners : ∀ p b, ((s.pools.get p).bins.get b).owner ≠ .unowned →
      ((t.pools.get p).bins.get b).owner = ((s.pools.get p).bins.get b).owner)
    (hpaused : ∀ j, t.slotCount j .pauseSent = s.slotCount j .pauseSent) : Unloads s t where
  touches := h.touches
  agent := h.proceeds.agent
  slots := h.slots
  links j := by
    obtain ⟨_, hlink⟩ := (h.links j).fields
    rw [hlink]
  pauses j := (h.links j).pauses
  pools := hpools
  owners := howners
  paused := hpaused

/-! The discarding aborts (R78). -/

theorem abortDiscard_slotCount (e : EngineIx) (m : MoveRecord) (s : State) (j : SlotIx) (k : SlotCounter) :
    (abortDiscard e m s).slotCount j k
      = if j = m.source ∧ k = .flushed then counterAdd (s.slotCount j k) m.hold.length else s.slotCount j k :=
  slotCount_bumpSlotBy ..

theorem abortDiscard_poolCount (e : EngineIx) (m : MoveRecord) (s : State) (q : PoolIx) :
    (abortDiscard e m s).poolCount q .abortedMoves
      = if q = m.pool then counterAdd (s.poolCount q .abortedMoves) 1 else s.poolCount q .abortedMoves := by
  have hbefore : (freeEngine e m (bumpSlotBy m.source .flushed m.hold.length s)).poolCount q .abortedMoves
      = s.poolCount q .abortedMoves := freeEngine_poolCount ..
  rw [abortDiscard, poolCount_bumpPool, hbefore]
  exact if_congr (and_iff_left rfl) rfl rfl

theorem abortDiscard_owner (e : EngineIx) (m : MoveRecord) (s : State) (q : PoolIx) (b : BinIx) :
    (((abortDiscard e m s).pools.get q).bins.get b).owner = ((s.pools.get q).bins.get b).owner := by
  rw [abortDiscard, bumpPool_bins, freeEngine_bin]
  split <;> rfl

theorem abortDiscard_pool (e : EngineIx) (m : MoveRecord) (s : State) (q : PoolIx) :
    (abortDiscard e m s).pools.get q = { s.pools.get q with
      bins := ((abortDiscard e m s).pools.get q).bins, counters := ((abortDiscard e m s).pools.get q).counters } := by
  have hfreed : (freeEngine e m (bumpSlotBy m.source .flushed m.hold.length s)).pools.get q
      = { s.pools.get q with bins := ((freeEngine e m (bumpSlotBy m.source .flushed m.hold.length s)).pools.get q).bins } :=
    updBin_pool ..
  rw [abortDiscard, bumpPool, State.updPool_pools, Table.get_modify]
  split
  · next h => subst h; rw [hfreed]
  · rw [hfreed]

theorem abortDiscard_unloads (e : EngineIx) (m : MoveRecord) (s : State) : Unloads s (abortDiscard e m s) :=
  .of_follows (abortDiscard_follows e m s) (fun q => by rw [abortDiscard_pool]) (fun q b _ => abortDiscard_owner e m s q b)
    fun j => (abortDiscard_slotCount ..).trans (if_neg fun h => nomatch h.2)

/-- The state after every move has been aborted with its frames discarded. -/
abbrev movesDiscarded (s : State) : State := onMoves (fun _ => true) abortDiscard s

theorem movesDiscarded_unloads (s : State) : Unloads s (movesDiscarded s) :=
  onMoves_keeps (P := Unloads s) (fun e m t ht _ _ => ht.trans (abortDiscard_unloads e m t)) (.refl s)

/-- Every engine is IDLE. -/
def EnginesIdle (s : State) : Prop := ∀ e, s.engines.get e = none

theorem movesDiscarded_idle (s : State) : EnginesIdle (movesDiscarded s) := fun e => by
  rw [movesDiscarded, onMoves_engines abortDiscard_engines, Option.filter_eq_none_iff]
  exact fun _ _ => by simp

theorem movesDiscarded_egress (s : State) : (movesDiscarded s).egress = s.egress :=
  onMoves_keeps (P := fun t => t.egress = s.egress) (fun _ _ _ ht _ _ => ht) rfl

/-- The frames that an engine's move holds back from slot `j`'s queue. -/
def heldFrom (j : SlotIx) : Option MoveRecord → Nat
  | some m => if m.source = j then m.hold.length else 0
  | none => 0

theorem movesDiscarded_flushed (s : State) (j : SlotIx) : (movesDiscarded s).slotCount j .flushed
    = counterAdd (s.slotCount j .flushed) ((List.finRange 4).map fun e => heldFrom j (s.engines.get e)).sum := by
  refine (onMoves_fold (val := fun s : State => s.slotCount j .flushed) (op := counterAdd) (x := heldFrom j) abortDiscard_engines
    (fun e s => ?_) s).trans (foldl_counterAdd _ _)
  cases he : s.engines.get e with
  | none =>
    rw [moveStep_unselected (fun m hm => absurd (he.symm.trans hm) (by nofun))]
    exact (counterAdd_zero _).symm
  | some m =>
    rw [moveStep_selected he rfl, abortDiscard_slotCount, heldFrom]
    by_cases hj : j = m.source
    · rw [if_pos ⟨hj, rfl⟩, if_pos hj.symm]
    · rw [if_neg fun h => hj h.1, if_neg fun h => hj h.symm, counterAdd_zero]

theorem movesDiscarded_aborted (s : State) (q : PoolIx) :
    (movesDiscarded s).poolCount q .abortedMoves = counterAdd (s.poolCount q .abortedMoves) (activeMoves s q) := by
  have hsum : ((List.finRange 4).map fun e => endedIn (fun _ => true) q (s.engines.get e)).sum = activeMoves s q := by
    rw [activeMoves, ← sum_map_ite]
    refine congrArg List.sum (List.map_congr_left fun e _ => ?_)
    cases he : s.engines.get e <;> simp [endedIn, engineServes, he]
  rw [onMoves_aborted abortDiscard_engines abortDiscard_poolCount, hsum]

end Sys2Proof.Machine
end

section
/-! SUPPORT. The flushes of the egress queues while every engine is IDLE, the recomputations that follow, and the flushes of the
upstream queues (R44, R96, R111, R114). -/

namespace Sys2Proof.Machine

variable {s t u : State} {p q : PoolIx} {i j : SlotIx} {b c : BinIx} {e : EngineIx} {m : MoveRecord} {entry : EgressEntry}

theorem EnginesIdle.noneTo (h : EnginesIdle s) (i : SlotIx) : NoneTo i s := fun e _ hm => nomatch (h e).symm.trans hm

/-- What a flush of an egress queue or a recomputation leaves besides, while every engine is IDLE. -/
structure Clears (s t : State) : Prop where
  unloads : Unloads s t
  engines : t.engines = s.engines
  aborted : ∀ p, t.poolCount p .abortedMoves = s.poolCount p .abortedMoves

theorem Clears.refl (s : State) : Clears s s := ⟨.refl s, rfl, fun _ => rfl⟩

theorem Clears.trans (h : Clears s t) (h' : Clears t u) : Clears s u :=
  ⟨h.unloads.trans h'.unloads, h'.engines.trans h.engines, fun p => (h'.aborted p).trans (h.aborted p)⟩

theorem Clears.idle (h : Clears s t) (hs : EnginesIdle s) : EnginesIdle t := fun e => by rw [h.engines, hs e]

/-- Steps that clear while the engines are IDLE leave them IDLE, and so clear together. -/
theorem forEach_clears {ι : Type} {f : ι → State → State} (h : ∀ i s, EnginesIdle s → Clears s (f i s)) (is : List ι)
    (hs : EnginesIdle s) : Clears s (forEach f is s) :=
  forEach_relates (R := fun s t => EnginesIdle s → Clears s t) (fun s _ => .refl s)
    (fun _ _ _ hst htu hs => (hst hs).trans (htu ((hst hs).idle hs))) h is s hs

theorem recompute_clears (p : PoolIx) (s : State) : Clears s (recompute p s) := by
  have h := recompute_recomputed p s
  refine ⟨.of_follows h.follows (fun q => ?_) (fun q b hb => ?_) fun j => ?_, h.touches.engines_eq, fun q => ?_⟩
  · obtain rfl | hne := eq_or_ne q p
    · exact h.record
    · rw [h.others q hne]
  · obtain rfl | hne := eq_or_ne q p
    · exact h.owned b hb
    · rw [h.others q hne]
  · rw [State.slotCount, State.slotCount, h.touches.slotCounters_eq]
  · obtain rfl | hne := eq_or_ne q p
    · exact h.counts _ (by decide)
    · rw [State.poolCount, State.poolCount, h.others q hne]

theorem evaluateConfirmation_clears (i : SlotIx) (s : State) : Clears s (evaluateConfirmation i s) := by
  have h := evaluateConfirmation_members i s
  refine ⟨.of_follows (evaluateConfirmation_follows i s) (fun q => ?_) (fun q b _ => ?_) fun j => ?_, h.engines_eq, fun q => ?_⟩
  · rw [h.pools_eq]
  · rw [h.pools_eq]
  · rw [State.slotCount, State.slotCount, h.slotCounters_eq]
  · rw [State.poolCount, State.poolCount, h.pools_eq]

/-! One egress queue (R96). -/

theorem abortData_clears (i : SlotIx) (s : State) : Clears s (abortData i s) := by
  have hlink (j : SlotIx) : ∃ tx, (abortData i s).links.get j = { s.links.get j with tx := tx } := by
    rw [abortData_frame, State.updLink_links, Table.get_modify]
    split
    · next h => subst h; exact ⟨_, rfl⟩
    · exact ⟨_, rfl⟩
  have hframe := abortData_frame i s
  refine ⟨⟨⟨_, _, _, _, _, _, _, hframe⟩, ?_, ?_, fun j => ?_, fun j => ?_, ?_, ?_, ?_⟩, ?_, ?_⟩
  case refine_3 => obtain ⟨_, h⟩ := hlink j; rw [h]
  case refine_4 => obtain ⟨_, h⟩ := hlink j; rw [h]
  all_goals rw [hframe]
  · exact .refl _
  · exact fun _ => .refl _
  · exact fun _ => rfl
  · exact fun _ _ _ => rfl
  · exact fun _ => rfl
  · rfl
  · exact fun _ => rfl

/-- A frame leaves a queue and its bin's count, and ends no drain. -/
theorem reportLeft_idle (h : EnginesIdle s) (entry : EgressEntry) : ∃ pools, reportLeft entry s = { s with pools := pools }
    ∧ (∀ q, pools.get q = { s.pools.get q with bins := (pools.get q).bins })
    ∧ ∀ q b, ((pools.get q).bins.get b).owner = ((s.pools.get q).bins.get b).owner := by
  unfold reportLeft
  split
  · next p b _ =>
    rw [lowerInflight_stays fun e m _ he => nomatch (h e).symm.trans he]
    refine ⟨_, rfl, fun q => updBin_pool .., fun q c => ?_⟩
    show (((lowered p b s).pools.get q).bins.get c).owner = _
    rw [lowered, get_bin_updBin]
    split <;> rfl
  · exact ⟨_, rfl, fun _ => rfl, fun _ _ => rfl⟩

theorem flushOne_clears (h : EnginesIdle s) (i : SlotIx) (entry : EgressEntry) : Clears s (flushOne i entry s) := by
  have hfollows := flushOne_follows i entry s
  have hidle : EnginesIdle (bumpSlot i .flushed (popEgress i s)) := h
  obtain ⟨pools, heq, hpool, howner⟩ := reportLeft_idle hidle entry
  rw [flushOne, heq] at hfollows ⊢
  refine ⟨.of_follows hfollows (fun q => ?_) (fun q b _ => howner q b) fun j => ?_, rfl, fun q => ?_⟩
  · show pools.get q = _
    rw [hpool]
    rfl
  · exact (slotCount_bumpSlotBy ..).trans (if_neg fun h => nomatch h.2)
  · show (pools.get q).counters.get _ = _
    rw [hpool]
    rfl

/-- What of another slot its flush leaves: its queue, its count and its transmission. -/
theorem flushOne_other (h : EnginesIdle s) (hne : i ≠ j) (entry : EgressEntry) :
    (flushOne i entry s).egress.get j = s.egress.get j ∧ (flushOne i entry s).slotCount j .flushed = s.slotCount j .flushed := by
  have hidle : EnginesIdle (bumpSlot i .flushed (popEgress i s)) := h
  obtain ⟨pools, heq, -⟩ := reportLeft_idle hidle entry
  rw [flushOne, heq]
  exact ⟨Table.get_set_of_ne _ hne.symm _, (slotCount_bumpSlotBy ..).trans (if_neg fun h => hne h.1.symm)⟩

theorem flushEgress_clears (i : SlotIx) (s : State) (h : EnginesIdle s) : Clears s (flushEgress i s) := by
  have habort := abortData_clears i s
  have hflush := forEach_clears (fun entry s h => flushOne_clears h i entry) (s.egress.get i) (habort.idle h)
  exact (habort.trans hflush).trans (evaluateConfirmation_clears i _)

/-- What RESTART empties of a slot's egress side: its queue, with the count of frames flushed, and its transmission. -/
def egressPart (j : SlotIx) (s : State) : List EgressEntry × Counter × Option LinkTx :=
  (s.egress.get j, s.slotCount j .flushed, (s.links.get j).tx)

/-- The part as a flush leaves it. -/
def EgressGone (a b : List EgressEntry × Counter × Option LinkTx) : Prop :=
  b.1 = [] ∧ b.2.1 = counterAdd a.2.1 a.1.length ∧ b.2.2 = if a.2.2 = some .data then none else a.2.2

theorem flushEgress_tx (i j : SlotIx) (s : State) : ((flushEgress i s).links.get j).tx = ((abortData i s).links.get j).tx :=
  ((flushEgress_follows i s).links j).tx

theorem flushEgress_gone (j : SlotIx) (s : State) (h : EnginesIdle s) : EgressGone (egressPart j s) (egressPart j (flushEgress j s)) := by
  have hempties := flushEgress_empties (h.noneTo j)
  refine ⟨hempties.egress, hempties.flushed, (flushEgress_tx j j s).trans ?_⟩
  rw [abortData_frame, State.updLink_links, Table.get_modify_self]
  rfl

theorem flushEgress_other (hne : i ≠ j) (h : EnginesIdle s) : egressPart j (flushEgress i s) = egressPart j s := by
  have habort : (abortData i s).links.get j = s.links.get j := by
    rw [abortData_frame]
    exact Table.get_modify_of_ne _ hne.symm _
  have hstart : (abortData i s).egress = s.egress ∧ (abortData i s).slotCounters = s.slotCounters := by
    rw [abortData_frame]
    exact ⟨rfl, rfl⟩
  have hmembers := evaluateConfirmation_members i (forEach (flushOne i) (s.egress.get i) (abortData i s))
  have hflush : EnginesIdle (forEach (flushOne i) (s.egress.get i) (abortData i s))
      ∧ (forEach (flushOne i) (s.egress.get i) (abortData i s)).egress.get j = s.egress.get j
      ∧ (forEach (flushOne i) (s.egress.get i) (abortData i s)).slotCount j .flushed = s.slotCount j .flushed := by
    refine forEach_keeps (P := fun t => EnginesIdle t ∧ t.egress.get j = s.egress.get j
      ∧ t.slotCount j .flushed = s.slotCount j .flushed) (fun entry t ⟨ht, hq, hc⟩ => ?_) _ _
      ⟨(abortData_clears i s).idle h, by rw [hstart.1], by rw [State.slotCount, State.slotCount, hstart.2]⟩
    obtain ⟨hq', hc'⟩ := flushOne_other ht hne entry
    exact ⟨(flushOne_clears ht i entry).idle ht, hq'.trans hq, hc'.trans hc⟩
  obtain ⟨-, hq, hc⟩ := hflush
  refine Prod.ext ?_ (Prod.ext ?_ ?_)
  · show (evaluateConfirmation i _).egress.get j = _
    rw [hmembers.egress_eq]
    exact hq
  · show (evaluateConfirmation i _).slotCount j .flushed = _
    rw [State.slotCount, hmembers.slotCounters_eq]
    exact hc
  · exact (flushEgress_tx i j s).trans (by rw [habort]; rfl)

theorem egressFlushes_gone (h : EnginesIdle s) (j : SlotIx) :
    EgressGone (egressPart j s) (egressPart j (forEach flushEgress (List.finRange 12) s)) :=
  forEach_once (val := egressPart j) (P := EnginesIdle) (fun i t ht => (flushEgress_clears i t ht).idle ht)
    (fun _ _ hne ht => flushEgress_other hne ht) (flushEgress_gone j) h

/-! One upstream queue (R111, R114). -/

theorem abortUpstream_core (i : SlotIx) (s : State) : abortUpstream i s
    = { s with core := { s.core with tx := if s.core.tx.sends i then .idle else s.core.tx } } := by
  unfold abortUpstream
  split <;> rfl

/-- What of a slot a flush of its upstream queue reads and writes. -/
structure UpstreamPart where
  state : SlotState
  upstream : UpstreamRecord
  link : LinkRecord
  flushed : Counter
  pauseSent : Counter

def upstreamPart (j : SlotIx) (s : State) : UpstreamPart :=
  ⟨(s.slots.get j).state, s.upstream.get j, s.links.get j, s.slotCount j .flushed, s.slotCount j .pauseSent⟩

/-- The part as a flush leaves it: a PAUSED slot in an accepting state is sent PAUSE(0). -/
structure UpstreamPart.Flushed (a b : UpstreamPart) : Prop where
  state : b.state = a.state
  upstream : b.upstream = ⟨[], none⟩
  link : b.link = { a.link with control := b.link.control }
  flushed : b.flushed = counterAdd a.flushed a.upstream.queue.length
  resumed : a.upstream.pause ≠ none → a.state.accepting = true →
    b.pauseSent = counterAdd a.pauseSent 1 ∧ (a.link.carries = true → .pause 0 ∈ b.link.control)
  stays : a.upstream.pause = none ∨ a.state.accepting = false → b.pauseSent = a.pauseSent ∧ b.link = a.link

/-- What acts on the pause state changes upstream records, links and slot counters. -/
theorem pauseAtFlush_touches (i : SlotIx) (s : State) : ∃ upstream links counts,
    pauseAtFlush i s = { s with upstream := upstream, links := links, slotCounters := counts } := by
  unfold pauseAtFlush
  split
  · exact ⟨_, _, _, rfl⟩
  · split
    · exact ⟨_, _, _, (sendResume_sends i s).frame⟩
    · exact ⟨_, _, _, rfl⟩

/-- A flush of an upstream queue changes that queue, its link and counts, and the core link's transmission. -/
theorem flushUpstream_touches (i : SlotIx) (s : State) : ∃ upstream links counts,
    flushUpstream i s = { s with
      upstream := upstream, links := links, slotCounters := counts
      core := { s.core with tx := if s.core.tx.sends i then .idle else s.core.tx } } := by
  have hstart : ∃ upstream counts, upstreamEmptied i s = { s with
      upstream := upstream, slotCounters := counts
      core := { s.core with tx := if s.core.tx.sends i then .idle else s.core.tx } } := by
    rw [upstreamEmptied, abortUpstream_core]
    exact ⟨_, _, rfl⟩
  obtain ⟨_, _, hstart⟩ := hstart
  obtain ⟨_, _, _, hpause⟩ := pauseAtFlush_touches i (upstreamEmptied i s)
  rw [flushUpstream_eq, hpause, hstart]
  exact ⟨_, _, _, rfl⟩

theorem upstreamEmptied_part (i j : SlotIx) (s : State) : upstreamPart j (upstreamEmptied i s)
    = if j = i then { upstreamPart j s with
        upstream := { s.upstream.get j with queue := [] }
        flushed := counterAdd (s.slotCount j .flushed) (s.upstream.get j).queue.length }
      else upstreamPart j s := by
  have hcount (k : SlotCounter) : (upstreamEmptied i s).slotCount j k
      = if j = i ∧ k = .flushed then counterAdd (s.slotCount j k) (s.upstream.get i).queue.length else s.slotCount j k := by
    rw [upstreamEmptied, slotCount_bumpSlotBy, abortUpstream_core]
    rfl
  have hupstream : (upstreamEmptied i s).upstream.get j
      = if j = i then { s.upstream.get i with queue := [] } else s.upstream.get j := by
    rw [upstreamEmptied, abortUpstream_core]
    exact Table.get_modify ..
  obtain ⟨hlinks, hslots, -⟩ := upstreamEmptied_links i s
  rw [upstreamPart, hcount, hcount, hupstream, hlinks, hslots]
  obtain rfl | hne := eq_or_ne j i
  · simp [upstreamPart]
  · simp [upstreamPart, hne]

theorem flushUpstream_other (hne : i ≠ j) (s : State) : upstreamPart j (flushUpstream i s) = upstreamPart j s := by
  refine Eq.trans ?_ ((upstreamEmptied_part i j s).trans (if_neg hne.symm))
  rw [flushUpstream_eq]
  generalize upstreamEmptied i s = v
  unfold pauseAtFlush
  split
  · rfl
  · split
    · have h := sendResume_sends i v
      have hslots : (sendResume i v).slots = v.slots := by rw [h.frame]
      have hlink : (sendResume i v).links.get j = v.links.get j := askControl_link_of_ne hne.symm ..
      rw [upstreamPart, h.others.upstream j hne.symm, hlink, h.counts, h.counts, hslots,
        if_neg fun h => hne h.1.symm, if_neg fun h => hne h.1.symm]
      rfl
    · refine congrArg (UpstreamPart.mk _ · _ _ _) ?_
      exact Table.get_modify_of_ne _ hne.symm _

theorem pauseAtFlush_flushed (j : SlotIx) {v : State} (hqueue : (v.upstream.get j).queue = []) :
    (upstreamPart j v).Flushed (upstreamPart j (pauseAtFlush j v)) := by
  have hupstream : (pauseAtFlush j v).upstream.get j = ⟨[], none⟩ := by
    rw [pauseAtFlush_upstream, ← hqueue]
  have hnone : counterAdd (v.slotCount j .flushed) (v.upstream.get j).queue.length = v.slotCount j .flushed := by
    rw [hqueue]
    exact counterAdd_zero _
  unfold pauseAtFlush at hupstream ⊢
  split at hupstream
  · next hclear =>
    exact ⟨rfl, hupstream, rfl, hnone.symm, fun hp => absurd hclear hp, fun _ => ⟨rfl, rfl⟩⟩
  · next hpaused =>
    split at hupstream
    · next haccepting =>
      rw [if_pos haccepting]
      have h := sendResume_sends j v
      have hslots : (sendResume j v).slots = v.slots := by rw [h.frame]
      have hlink : ∃ control, (sendResume j v).links.get j = { v.links.get j with control := control } := by
        show ∃ control, (askControl j (.pause 0) v).links.get j = _
        rw [askControl_link_self]
        split
        · exact ⟨_, rfl⟩
        · exact ⟨_, rfl⟩
      obtain ⟨_, hlink⟩ := hlink
      refine ⟨?_, hupstream, ?_, ?_, fun _ _ => ⟨?_, h.asked⟩, fun hc => ?_⟩
      · exact congrArg (fun slots => (Table.get slots j).state) hslots
      · show (sendResume j v).links.get j = { v.links.get j with control := ((sendResume j v).links.get j).control }
        rw [hlink]
      · exact ((h.counts ..).trans (if_neg fun h => nomatch h.2)).trans hnone.symm
      · exact (h.counts ..).trans (if_pos ⟨rfl, rfl⟩)
      · obtain hc | hc := hc
        · exact nomatch hpaused.symm.trans hc
        · exact nomatch haccepting.symm.trans hc
    · next haccepting =>
      rw [if_neg haccepting]
      exact ⟨rfl, hupstream, rfl, hnone.symm, fun _ ha => absurd ha haccepting, fun _ => ⟨rfl, rfl⟩⟩

theorem flushUpstream_flushed (j : SlotIx) (s : State) : (upstreamPart j s).Flushed (upstreamPart j (flushUpstream j s)) := by
  have hstart := (upstreamEmptied_part j j s).trans (if_pos rfl)
  have h := pauseAtFlush_flushed j (v := upstreamEmptied j s) (congrArg (fun part => part.upstream.queue) hstart)
  rw [hstart] at h
  obtain ⟨hstate, hupstream, hlink, hflushed, hresumed, hstays⟩ := h
  exact ⟨hstate, hupstream, hlink, hflushed.trans (counterAdd_zero _), hresumed, hstays⟩

theorem upstreamFlushes_flushed (s : State) (j : SlotIx) :
    (upstreamPart j s).Flushed (upstreamPart j (forEach flushUpstream (List.finRange 12) s)) :=
  forEach_once (val := upstreamPart j) (P := fun _ => True) (fun _ _ _ => trivial) (fun _ t hne _ => flushUpstream_other hne t)
    (fun t _ => flushUpstream_flushed j t) trivial

/-- The core link's transmission once the queues of some slots are flushed. -/
def cutUpstream (is : List SlotIx) : CoreTx → CoreTx
  | .upstream j bytes => if j ∈ is then .idle else .upstream j bytes
  | .idle => .idle
  | .mgmt bytes => .mgmt bytes

theorem cutUpstream_cons (i : SlotIx) (is : List SlotIx) (tx : CoreTx) :
    cutUpstream (i :: is) tx = cutUpstream is (if tx.sends i then .idle else tx) := by
  cases tx with
  | idle => rfl
  | mgmt bytes => rfl
  | upstream j bytes =>
    by_cases hj : j = i
    · simp [cutUpstream, CoreTx.sends, hj]
    · simp [cutUpstream, CoreTx.sends, hj]

theorem upstreamFlushes_touches (is : List SlotIx) (s : State) : ∃ upstream links counts,
    forEach flushUpstream is s = { s with
      upstream := upstream, links := links, slotCounters := counts
      core := { s.core with tx := cutUpstream is s.core.tx } } := by
  induction is generalizing s with
  | nil =>
    have htx : cutUpstream [] s.core.tx = s.core.tx := by cases s.core.tx <;> rfl
    exact ⟨_, _, _, by rw [htx]; rfl⟩
  | cons i is ih =>
    obtain ⟨_, _, _, hstep⟩ := flushUpstream_touches i s
    obtain ⟨_, _, _, hrest⟩ := ih (flushUpstream i s)
    rw [forEach_cons, hrest, hstep, cutUpstream_cons]
    exact ⟨_, _, _, rfl⟩

end Sys2Proof.Machine
end

section
/-! SUPPORT. RESTART: the traffic state, the Reset Cause record and the flag RESTARTED (R60, R78, R100, R118, R187, R195, R196). -/

namespace Sys2Proof.Machine

variable {s t u : State} {p q : PoolIx} {i j : SlotIx} {b : BinIx} {e : EngineIx}

/-- What the traffic state's restart leaves (R60, R78, R100, R118). -/
structure TrafficRestarted (s t : State) : Prop where
  idle : EnginesIdle t
  queues : ∀ i, t.egress.get i = [] ∧ t.upstream.get i = ⟨[], none⟩
  owners : ∀ p b, ((s.pools.get p).bins.get b).owner ≠ .unowned →
    ((t.pools.get p).bins.get b).owner = ((s.pools.get p).bins.get b).owner
  agent : AgentNotices s.agent t.agent
  slots : ∀ i, RecordFollows (s.slots.get i) (t.slots.get i)
  rest : t = { s with
    slots := t.slots, links := t.links, agent := t.agent, pools := t.pools, engines := t.engines, egress := t.egress
    slotCounters := t.slotCounters, upstream := t.upstream, core := t.core }
  flushed : ∀ i, t.slotCount i .flushed = counterAdd (s.slotCount i .flushed)
    ((s.egress.get i).length + (s.upstream.get i).queue.length + ((List.finRange 4).map fun e => heldFrom i (s.engines.get e)).sum)
  aborted : ∀ p, t.poolCount p .abortedMoves = counterAdd (s.poolCount p .abortedMoves) (activeMoves s p)
  pools : ∀ p, t.pools.get p = { s.pools.get p with
    targets := (t.pools.get p).targets, plan := (t.pools.get p).plan, bins := (t.pools.get p).bins
    counters := (t.pools.get p).counters }
  core : t.core = { s.core with tx := cutUpstream (List.finRange 12) s.core.tx }
  links : ∀ i, t.links.get i = { s.links.get i with
    control := (t.links.get i).control
    tx := if (s.links.get i).tx = some .data then none else (s.links.get i).tx }
  resumed : ∀ i, (s.upstream.get i).pause ≠ none → (s.slots.get i).state.accepting = true →
    t.slotCount i .pauseSent = counterAdd (s.slotCount i .pauseSent) 1
      ∧ ((s.links.get i).carries = true → .pause 0 ∈ (t.links.get i).control)
  clear : ∀ i, (s.upstream.get i).pause = none ∨ (s.slots.get i).state.accepting = false →
    t.slotCount i .pauseSent = s.slotCount i .pauseSent
      ∧ (t.links.get i).control.filter ControlFrame.isPause = (s.links.get i).control.filter ControlFrame.isPause

/-- The aborts, the egress flushes and the recomputations together. -/
def unloaded (s : State) : State :=
  forEach recompute (List.finRange 4) (forEach flushEgress (List.finRange 12) (movesDiscarded s))

theorem restartTraffic_eq (s : State) : restartTraffic s = forEach flushUpstream (List.finRange 12) (unloaded s) := rfl

theorem unloaded_clears (s : State) : Clears (movesDiscarded s) (unloaded s) := by
  have hflush := forEach_clears flushEgress_clears (List.finRange 12) (movesDiscarded_idle s)
  exact hflush.trans (forEach_clears (fun p s _ => recompute_clears p s) _ (hflush.idle (movesDiscarded_idle s)))

theorem unloaded_unloads (s : State) : Unloads s (unloaded s) :=
  (movesDiscarded_unloads s).trans (unloaded_clears s).unloads

/-- A recomputation touches no queue, no slot counter and no transmission. -/
theorem recompute_egressPart (p : PoolIx) (j : SlotIx) (s : State) : egressPart j (recompute p s) = egressPart j s := by
  have h := recompute_recomputed p s
  rw [egressPart, egressPart, State.slotCount, State.slotCount, h.touches.slotCounters_eq, h.touches.egress_eq,
    ((recompute_follows p s).links j).tx]

theorem movesDiscarded_tx (s : State) (j : SlotIx) : ((movesDiscarded s).links.get j).tx = (s.links.get j).tx :=
  ((onMoves_follows abortDiscard_follows s).links j).tx

theorem unloaded_egressPart (s : State) (j : SlotIx) : EgressGone (egressPart j (movesDiscarded s)) (egressPart j (unloaded s)) := by
  have hrecomputed : egressPart j (unloaded s) = egressPart j (forEach flushEgress (List.finRange 12) (movesDiscarded s)) :=
    forEach_eq (g := egressPart j) (fun p s => recompute_egressPart p j s) _ _
  rw [hrecomputed]
  exact egressFlushes_gone (movesDiscarded_idle s) j

theorem stateFollows_accepting {x y : SlotState} (h : StateFollows x y) : y.accepting = x.accepting := by
  obtain rfl | ⟨rfl, rfl⟩ | ⟨rfl, rfl⟩ := h <;> rfl

theorem carries_of_fields {l l' : LinkRecord} {control : List ControlFrame} {tx : Option LinkTx}
    (h : l' = { l with control := control, tx := tx }) : l'.carries = l.carries := by
  rw [h]
  rfl

theorem restartTraffic_restarts (s : State) : TrafficRestarted s (restartTraffic s) := by
  have hidle := movesDiscarded_idle s
  have hqueue := movesDiscarded_egress s
  have hheld := movesDiscarded_flushed s
  have haborted := movesDiscarded_aborted s
  have htransmission := movesDiscarded_tx s
  have hunload := unloaded_unloads s
  have hclears := unloaded_clears s
  have hegress := unloaded_egressPart s
  have hpart := upstreamFlushes_flushed (unloaded s)
  obtain ⟨upstream, links, counts, hframe⟩ := upstreamFlushes_touches (List.finRange 12) (unloaded s)
  rw [restartTraffic_eq]
  generalize forEach flushUpstream (List.finRange 12) (unloaded s) = v at *
  generalize unloaded s = w at *
  generalize movesDiscarded s = d at *
  have hslots : v.slots = w.slots := by rw [hframe]
  have hpools : v.pools = w.pools := by rw [hframe]
  have hagent : v.agent = w.agent := by rw [hframe]
  have hcarries (i : SlotIx) : (w.links.get i).carries = (s.links.get i).carries := carries_of_fields (hunload.links i)
  have hcore : w.core = s.core := by
    obtain ⟨_, _, _, _, _, _, _, h⟩ := hunload.touches
    rw [h]
  have hpause (i : SlotIx) : (upstreamPart i w).upstream = s.upstream.get i :=
    congrArg (Table.get · i) hunload.touches.upstream_eq
  have haccepting (i : SlotIx) : (upstreamPart i w).state.accepting = (s.slots.get i).state.accepting :=
    stateFollows_accepting (hunload.slots i).state
  exact {
    idle := fun e => by
      have h := hclears.idle hidle e
      rw [hframe]
      exact h
    queues := fun i => ⟨by rw [hframe]; exact (hegress i).1, (hpart i).upstream⟩
    owners := fun p b hb => by rw [hpools]; exact hunload.owners p b hb
    agent := hagent ▸ hunload.agent
    slots := fun i => by rw [hslots]; exact hunload.slots i
    rest := by
      obtain ⟨_, _, _, _, _, _, _, h⟩ := hunload.touches
      rw [h] at hframe
      rw [hframe]
    flushed := fun i => by
      have h := (hpart i).flushed
      rw [hpause] at h
      refine h.trans ?_
      have hcount : w.slotCount i .flushed = counterAdd (d.slotCount i .flushed) (d.egress.get i).length := (hegress i).2.1
      show counterAdd (w.slotCount i .flushed) _ = _
      rw [hcount, hheld, hqueue, counterAdd_counterAdd, counterAdd_counterAdd]
      congr 1
      omega
    aborted := fun p => by
      rw [State.poolCount, hpools]
      exact (hclears.aborted p).trans (haborted p)
    pools := fun p => by rw [hpools]; exact hunload.pools p
    core := by
      rw [hframe, hcore]
    links := fun i => by
      have hlink : v.links.get i = { w.links.get i with control := (v.links.get i).control } := (hpart i).link
      have htx : (w.links.get i).tx = if (d.links.get i).tx = some .data then none
          else (d.links.get i).tx := (hegress i).2.2
      rw [htransmission] at htx
      rw [hlink, hunload.links, htx]
    resumed := fun i hp ha => by
      obtain ⟨hsent, hasked⟩ := (hpart i).resumed (by rw [hpause]; exact hp) (by rw [haccepting]; exact ha)
      refine ⟨hsent.trans ?_, fun hc => hasked ((hcarries i).trans hc)⟩
      show counterAdd (w.slotCount i .pauseSent) 1 = _
      rw [hunload.paused]
    clear := fun i hc => by
      rw [← haccepting i, ← hpause i] at hc
      obtain ⟨hsent, hlink⟩ := (hpart i).stays hc
      have hlink : v.links.get i = w.links.get i := hlink
      refine ⟨hsent.trans (hunload.paused i), ?_⟩
      rw [hlink]
      exact hunload.pauses i }

/-! The agent (R187, R195). -/

/-- What RESTART makes of the agent: the cause, the count, the flag, and its notice as the last one offered. -/
structure AgentRestarted (a a' : AgentRecord) : Prop where
  cause : a'.lastCause = .restart
  pinResets : a'.pinResets = a.pinResets
  restarts : a'.restarts = min 255 (a.restarts + 1)
  flag : a'.deviceFlags.getLsbD 0 = true
  requests : a'.requests = a.requests
  notices : ∃ ns, a'.transmit = a.transmit ++ ns
  last : a.noticesEnabled = true → a.deviceFlags.getLsbD 0 = false →
    (∃ ns, a'.transmit = a.transmit ++ ns ++ [[0, 0x80, 0, 16, 0xFF, 0, 0xFF, 0]]) ∨ 16 ≤ a'.transmit.length

/-- The Reset Cause record at a RESTART (R195). -/
def restartRecorded (a : AgentRecord) : AgentRecord := { a with lastCause := .restart, restarts := min 255 (a.restarts + 1) }

theorem raiseRestarted_agent (s : State) :
    ∃ a, raiseDeviceFlag .restarted (s.updAgent restartRecorded) = { s with agent := a } ∧ AgentRestarted s.agent a := by
  unfold raiseDeviceFlag
  split
  · next hflag => exact ⟨_, rfl, rfl, rfl, rfl, hflag, rfl, ⟨[], (List.append_nil _).symm⟩, fun _ hc => nomatch hc.symm.trans hflag⟩
  · have hset : ∀ flags : BitVec 2, (flags ||| (1#2 <<< deviceBit .restarted)).getLsbD 0 = true := by decide
    obtain ⟨hoff, h⟩ | ⟨-, -, h⟩ | ⟨-, hfull, h⟩ := offerNotice_cases (deviceNotice (16 + deviceBit .restarted))
      ((s.updAgent restartRecorded).updAgent fun a => { a with deviceFlags := a.deviceFlags ||| (1#2 <<< deviceBit .restarted) })
      <;> rw [h]
    · exact ⟨_, rfl, rfl, rfl, rfl, hset _, rfl, ⟨[], (List.append_nil _).symm⟩, fun hc => nomatch hoff.symm.trans hc⟩
    · exact ⟨_, rfl, rfl, rfl, rfl, hset _, rfl, ⟨_, rfl⟩, fun _ _ => .inl ⟨[], by rw [List.append_nil]; rfl⟩⟩
    · exact ⟨_, rfl, rfl, rfl, rfl, hset _, rfl, ⟨[], (List.append_nil _).symm⟩, fun _ _ => .inr (Nat.not_lt.mp hfull)⟩

theorem AgentRestarted.responds {a a' : AgentRecord} (h : AgentRestarted a a') {earlier : List (List Byte)}
    {notices : List (List Byte)} (hqueue : a.transmit = earlier ++ [[]] ++ notices) (payload : List Byte) :
    (∃ ns, a'.transmit.set earlier.length payload = earlier ++ payload :: ns)
      ∧ (a.noticesEnabled = true → a.deviceFlags.getLsbD 0 = false →
        (a'.transmit.set earlier.length payload).getLast? = some [0, 0x80, 0, 16, 0xFF, 0, 0xFF, 0]
          ∨ 16 ≤ (a'.transmit.set earlier.length payload).length) := by
  have hset (ns : List (List Byte)) : (earlier ++ [[]] ++ ns).set earlier.length payload = earlier ++ payload :: ns := by
    rw [List.append_assoc, List.set_append_right _ _ le_rfl, Nat.sub_self]
    rfl
  refine ⟨?_, fun hon hclear => ?_⟩
  · obtain ⟨ns, hns⟩ := h.notices
    exact ⟨notices ++ ns, by rw [hns, hqueue, List.append_assoc _ notices, hset]⟩
  · obtain ⟨ns, hns⟩ | hfull := h.last hon hclear
    · refine .inl ?_
      rw [hns, hqueue, List.append_assoc _ notices, List.append_assoc _ (notices ++ ns), hset, ← List.cons_append,
        ← List.append_assoc]
      exact List.getLast?_concat
    · exact .inr (by rw [List.length_set]; exact hfull)

/-- Settles O52: the aborts leave every engine IDLE, so no flush ends a drain, and each step does its part once. -/
theorem restartEmptiesTheTraffic : Obligations.RestartEmptiesTheTraffic := by
  intro s tag h
  obtain ⟨a, hraised, hagent⟩ := raiseRestarted_agent (restartTraffic (accepting s))
  have heffect : restartPart (accepting s) = { restartTraffic (accepting s) with agent := a } := hraised
  have hexec := exec_accepted (effect := restartPart) (results := causeResult) rfl h rfl rfl
  have htraffic := restartTraffic_restarts (accepting s)
  rw [heffect] at hexec
  generalize restartTraffic (accepting s) = v at *
  obtain ⟨hidle, hqueues, howners, hnotices, hslots, hrest, hflushed, haborted, hpools, hcore, hlinks, hresumed, hclear⟩ := htraffic
  have hfields := hnotices.fields
  obtain ⟨ns, hns, -⟩ := hnotices.notices
  obtain ⟨hresponse, hlast⟩ := hagent.responds (earlier := s.agent.transmit) hns
    ([tag, 0x1F, 0] ++ causeResult { v with agent := a })
  have hpin : a.pinResets = s.agent.pinResets := hagent.pinResets.trans (by rw [hfields]; rfl)
  have hcount : a.restarts = min 255 (s.agent.restarts + 1) := hagent.restarts.trans (by rw [hfields]; rfl)
  have hpayload : [tag, 0x1F, 0] ++ causeResult { v with agent := a }
      = [tag, 0x1F, 0, 3, BitVec.ofNat 8 s.agent.pinResets, BitVec.ofNat 8 (min 255 (s.agent.restarts + 1))] := by
    rw [← hpin, ← hcount, causeResult, hagent.cause]
    rfl
  rw [hpayload] at hresponse hlast hexec
  have hstate (i : SlotIx) : (v.links.get i).state = (s.links.get i).state := by rw [hlinks]; rfl
  have hports : v.ports = s.ports := by rw [hrest]; rfl
  have hmonitors : v.monitors = s.monitors := by rw [hrest]; rfl
  have hscanner : v.scanner = s.scanner := by rw [hrest]; rfl
  have hlamps : v.lamps = s.lamps := by rw [hrest]; rfl
  refine ⟨_, hexec, ⟨hagent.requests.trans (by rw [hfields]; rfl), hresponse⟩, hidle, hqueues, ?_, ?_, hagent.cause, hpin, hcount,
    hagent.flag, fun i => ⟨hstate i, (hslots i).state⟩, hports, hmonitors, hscanner, hlamps, hflushed, haborted, hpools, ?_,
    hlinks, fun i => (hslots i).same, fun i => ⟨fun hp ha => ?_, hclear i⟩, ?_⟩
  · exact fun p b i ho => (howners p b (by rw [show ((accepting s).pools.get p) = s.pools.get p from rfl, ho]; nofun)).trans ho
  · exact fun p b i ho => (howners p b (by rw [show ((accepting s).pools.get p) = s.pools.get p from rfl, ho]; nofun)).trans ho
  · refine hcore.trans ?_
    show { s.core with tx := cutUpstream (List.finRange 12) s.core.tx } = _
    cases s.core.tx <;> simp [cutUpstream, List.mem_finRange]
  · obtain ⟨hsent, hasked⟩ := hresumed i hp ha
    exact ⟨hsent, fun hup hlost => hasked (by
      show (s.links.get i).carries = true
      rw [LinkRecord.carries, hup, hlost]
      rfl)⟩
  · intro hon hflag
    exact hlast (by rw [hfields]; exact hon) (by rw [hfields]; exact hflag)

end Sys2Proof.Machine
end

section
/-! SUPPORT. What the consequences of a timed event do to running timers and counting monitors: none comes to its end by another
event (R1, R5, R55, R64, R123, R124, R130, R142). -/

namespace Sys2Proof.Machine

variable {s t u : State} {p q : PoolIx} {i j : SlotIx} {b : BinIx} {e : EngineIx} {m : MoveRecord}

/-- A timer stands, or is not at its end: stopped, or started anew. -/
abbrev Unspent (timer timer' : Timer) : Prop := timer' = timer ∨ timer' ≠ some 0

theorem Unspent.trans {a b c : Timer} (h : Unspent a b) (h' : Unspent b c) : Unspent a c := by
  obtain rfl | h' := h'
  · exact h
  · exact .inr h'

/-- The four timers of a slot; the acknowledgment timer is started with the time `timeout`. -/
structure SlotTimersStand (timeout : Nat) (r r' : SlotRecord) : Prop where
  probe : Unspent r.probeTimer r'.probeTimer
  qualify : Unspent r.qualifyTimer r'.qualifyTimer
  deadline : Unspent r.deadlineTimer r'.deadlineTimer
  ack : 0 < timeout → Unspent r.ackTimer r'.ackTimer

/-- The three timers of a link; the lock-loss timer is of an attempt or of a link that carries frames. -/
structure LinkTimersStand (l l' : LinkRecord) : Prop where
  attempt : Unspent l.attemptTimer l'.attemptTimer
  pause : Unspent l.remotePause l'.remotePause
  loss : l'.lockLossTimer = none
    ∨ l'.lockLossTimer = l.lockLossTimer ∧ l'.inAttempt = l.inAttempt ∧ l'.carries = l.carries

/-- A monitor keeps its mode, and one that counts counted before, with no lower count. -/
structure CountStands (m m' : MonitorRecord) : Prop where
  mode : m'.mode = m.mode
  counting : m'.phase = .counting → m.phase = .counting ∧ m'.runningCount ≤ m.runningCount

/-- A move stands, is over, or has a timer that is not at its end. -/
abbrev MoveTimerStands (x x' : Option MoveRecord) : Prop := x' = x ∨ ∀ m, x' = some m → m.timer ≠ 0

theorem SlotTimersStand.refl (timeout : Nat) (r : SlotRecord) : SlotTimersStand timeout r r :=
  ⟨.inl rfl, .inl rfl, .inl rfl, fun _ => .inl rfl⟩

theorem SlotTimersStand.trans {timeout : Nat} {a b c : SlotRecord} (h : SlotTimersStand timeout a b)
    (h' : SlotTimersStand timeout b c) : SlotTimersStand timeout a c :=
  ⟨h.probe.trans h'.probe, h.qualify.trans h'.qualify, h.deadline.trans h'.deadline, fun ht => (h.ack ht).trans (h'.ack ht)⟩

theorem LinkTimersStand.refl (l : LinkRecord) : LinkTimersStand l l := ⟨.inl rfl, .inl rfl, .inr ⟨rfl, rfl, rfl⟩⟩

theorem LinkTimersStand.trans {a b c : LinkRecord} (h : LinkTimersStand a b) (h' : LinkTimersStand b c) : LinkTimersStand a c where
  attempt := h.attempt.trans h'.attempt
  pause := h.pause.trans h'.pause
  loss := by
    obtain hnone | ⟨htimer, hattempt, hcarries⟩ := h'.loss
    · exact .inl hnone
    · obtain hnone | ⟨htimer', hattempt', hcarries'⟩ := h.loss
      · exact .inl (htimer.trans hnone)
      · exact .inr ⟨htimer.trans htimer', hattempt.trans hattempt', hcarries.trans hcarries'⟩

theorem CountStands.refl (m : MonitorRecord) : CountStands m m := ⟨rfl, fun h => ⟨h, le_rfl⟩⟩

theorem CountStands.trans {a b c : MonitorRecord} (h : CountStands a b) (h' : CountStands b c) : CountStands a c where
  mode := h'.mode.trans h.mode
  counting hc := by
    obtain ⟨hb, hle⟩ := h'.counting hc
    obtain ⟨ha, hle'⟩ := h.counting hb
    exact ⟨ha, hle.trans hle'⟩

theorem MoveTimerStands.trans {x y z : Option MoveRecord} (h : MoveTimerStands x y) (h' : MoveTimerStands y z) :
    MoveTimerStands x z := by
  obtain rfl | h' := h'
  · exact h
  · exact .inr h'

/-! Slots and links through a change of membership. -/

/-- The timers of slots and links, and the time of the acknowledgment timer. -/
structure SlotsWind (s t : State) : Prop where
  timeout : t.agent.ackTimeout = s.agent.ackTimeout
  slots : ∀ j, SlotTimersStand s.agent.ackTimeout (s.slots.get j) (t.slots.get j)
  links : ∀ j, LinkTimersStand (s.links.get j) (t.links.get j)

theorem SlotsWind.refl (s : State) : SlotsWind s s := ⟨rfl, fun _ => .refl .., fun _ => .refl _⟩

theorem SlotsWind.trans (h : SlotsWind s t) (h' : SlotsWind t u) : SlotsWind s u where
  timeout := h'.timeout.trans h.timeout
  slots j := (h.slots j).trans (h.timeout ▸ h'.slots j)
  links j := (h.links j).trans (h'.links j)

theorem SlotsWind.of_eq (hslots : t.slots = s.slots) (hlinks : t.links = s.links) (hagent : t.agent = s.agent) : SlotsWind s t :=
  ⟨by rw [hagent], fun j => hslots ▸ .refl .., fun j => hlinks ▸ .refl _⟩

theorem SlotsWind.updSlot {f : SlotRecord → SlotRecord}
    (h : SlotTimersStand s.agent.ackTimeout (s.slots.get i) (f (s.slots.get i))) : SlotsWind s (s.updSlot i f) where
  timeout := rfl
  slots j := by
    rw [State.updSlot_slots, Table.get_modify]
    split
    · next hj => exact hj ▸ h
    · exact .refl ..
  links _ := .refl _

theorem SlotsWind.updLink {f : LinkRecord → LinkRecord} (h : LinkTimersStand (s.links.get i) (f (s.links.get i))) :
    SlotsWind s (s.updLink i f) where
  timeout := rfl
  slots _ := .refl ..
  links j := by
    rw [State.updLink_links, Table.get_modify]
    split
    · next hj => exact hj ▸ h
    · exact .refl _

theorem offerNotice_slotsWind (payload : List Byte) (s : State) : SlotsWind s (offerNotice payload s) := by
  obtain ⟨-, h⟩ | ⟨-, -, h⟩ | ⟨-, -, h⟩ := offerNotice_cases payload s <;> rw [h]
  · exact .refl s
  · exact ⟨rfl, fun _ => .refl .., fun _ => .refl _⟩
  · exact ⟨rfl, fun _ => .refl .., fun _ => .refl _⟩

theorem changeState_slotsWind (i : SlotIx) (new : SlotState) (s : State) : SlotsWind s (changeState i new s) := by
  unfold changeState
  dsimp only
  split
  · exact .refl s
  · refine .trans (.updSlot ?_) (offerNotice_slotsWind ..)
    exact ⟨.inr nofun, .inr nofun, .inr nofun, fun _ => .inr nofun⟩

theorem raiseFlag_slotsWind (i : SlotIx) (f : SlotFlag) (s : State) : SlotsWind s (raiseFlag i f s) := by
  unfold raiseFlag
  split
  · exact .refl s
  · exact .trans (.updSlot ⟨.inl rfl, .inl rfl, .inl rfl, fun _ => .inl rfl⟩) (offerNotice_slotsWind ..)

theorem askControl_slotsWind (i : SlotIx) (f : ControlFrame) (s : State) : SlotsWind s (askControl i f s) := by
  unfold askControl
  split
  · exact .updLink ⟨.inl rfl, .inl rfl, .inr ⟨rfl, rfl, rfl⟩⟩
  · exact .refl s

theorem enterConfirming_slotsWind (i : SlotIx) (s : State) : SlotsWind s (enterConfirming i s) := by
  have hnotice := (changeState_slotsWind i (.retiring .confirming) s).trans (askControl_slotsWind i .retireNotice _)
  refine hnotice.trans (.updSlot ⟨.inl rfl, .inl rfl, .inr nofun, fun ht => .inr fun hzero => ?_⟩)
  have htimeout := hnotice.timeout
  rw [← Option.some.inj hzero, htimeout] at ht
  exact absurd (Option.some.inj hzero) (by omega)

/-- Every change of membership and its consequences keep the timers of slots and links. -/
theorem slotsWind_membership : MembershipRelation SlotsWind where
  trans := .trans
  still := .of_eq
  transmission i s := by
    rw [abortData_frame]
    exact .updLink ⟨.inl rfl, .inl rfl, .inr ⟨rfl, rfl, rfl⟩⟩
  admission i s := by
    unfold evaluateAdmission
    split
    · exact changeState_slotsWind ..
    · exact .refl s
  confirmation i s := by
    unfold evaluateConfirmation
    split
    · exact enterConfirming_slotsWind ..
    · exact .refl s

/-! Moves and pools. -/

/-- The timers of moves and pools. -/
structure MovesWind (s t : State) : Prop where
  engines : ∀ e, MoveTimerStands (s.engines.get e) (t.engines.get e)
  pools : ∀ p, (t.pools.get p).rampTimer = (s.pools.get p).rampTimer ∧ (t.pools.get p).adoptionTimer = (s.pools.get p).adoptionTimer

theorem MovesWind.trans (h : MovesWind s t) (h' : MovesWind t u) : MovesWind s u where
  engines e := (h.engines e).trans (h'.engines e)
  pools p := ⟨(h'.pools p).1.trans (h.pools p).1, (h'.pools p).2.trans (h.pools p).2⟩

theorem MovesWind.of_eq (hengines : t.engines = s.engines) (hpools : t.pools = s.pools) : MovesWind s t :=
  ⟨fun _ => .inl (by rw [hengines]), fun _ => by rw [hpools]; exact ⟨rfl, rfl⟩⟩

theorem MovesWind.refl (s : State) : MovesWind s s := .of_eq rfl rfl

theorem MovesWind.forEach {ι : Type} {f : ι → State → State} (h : ∀ i s, MovesWind s (f i s)) (is : List ι) (s : State) :
    MovesWind s (forEach f is s) :=
  forEach_relates .refl (fun _ _ _ => .trans) h is s

theorem MovesWind.updPool {f : PoolRecord → PoolRecord}
    (hf : ∀ r, (f r).rampTimer = r.rampTimer ∧ (f r).adoptionTimer = r.adoptionTimer) : MovesWind s (s.updPool p f) where
  engines _ := .inl rfl
  pools q := by
    rw [State.updPool_pools, Table.get_modify]
    split
    · next hq => exact hq ▸ hf _
    · exact ⟨rfl, rfl⟩

theorem MovesWind.updBin (f : BinRecord → BinRecord) : MovesWind s (s.updBin p b f) := .updPool fun _ => ⟨rfl, rfl⟩

theorem MovesWind.bumpPool (c : PoolCounter) (n : Nat) : MovesWind s (bumpPool p c n s) := .updPool fun _ => ⟨rfl, rfl⟩

theorem releaseHold_movesWind (i : SlotIx) (p : PoolIx) (b : BinIx) (hold : List FrameBytes) (s : State) :
    MovesWind s (releaseHold i p b hold s) where
  engines _ := .inl (by rw [releaseHold_engines])
  pools q := by
    rw [releaseHold_pool]
    exact ⟨rfl, rfl⟩

theorem MovesWind.setEngine {x : Option MoveRecord} (h : ∀ m, x = some m → m.timer ≠ 0) : MovesWind s (s.setEngine e x) where
  engines e' := by
    rw [State.setEngine_engines, Table.get_set]
    split
    · exact .inr h
    · exact .inl rfl
  pools _ := ⟨rfl, rfl⟩

theorem freeEngine_movesWind (e : EngineIx) (m : MoveRecord) (s : State) : MovesWind s (freeEngine e m s) :=
  .trans (.updBin _) (.setEngine nofun)

theorem commitMove_movesWind (e : EngineIx) (m : MoveRecord) (s : State) : MovesWind s (commitMove e m s) :=
  (((MovesWind.updBin _).trans (releaseHold_movesWind ..)).trans (freeEngine_movesWind ..)).trans (.bumpPool ..)

theorem abortMove_movesWind (e : EngineIx) (m : MoveRecord) (s : State) : MovesWind s (abortMove e m s) :=
  ((releaseHold_movesWind ..).trans (freeEngine_movesWind ..)).trans (.bumpPool ..)

theorem onMoves_movesWind {sel : MoveRecord → Bool} {f : EngineIx → MoveRecord → State → State}
    (h : ∀ e m s, MovesWind s (f e m s)) (s : State) : MovesWind s (onMoves sel f s) :=
  onMoves_keeps (P := MovesWind s) (fun e m t ht _ _ => ht.trans (h e m t)) (.refl s)

theorem Recomputed.movesWind (h : Recomputed p s t) : MovesWind s t where
  engines _ := .inl (by rw [h.touches.engines_eq])
  pools q := by
    obtain rfl | hne := eq_or_ne q p
    · rw [h.record]
      exact ⟨rfl, rfl⟩
    · rw [h.others q hne]
      exact ⟨rfl, rfl⟩

theorem TouchesMembers.movesWind (h : TouchesMembers s t) : MovesWind s t := .of_eq h.engines_eq h.pools_eq

theorem engineCommit_movesWind (e : EngineIx) (m : MoveRecord) (s : State) : MovesWind s (engineCommit e m s) :=
  (commitMove_movesWind e m s).trans (afterCommit_recomputed m _).movesWind

theorem drainEnd_movesWind (e : EngineIx) (m : MoveRecord) (s : State) : MovesWind s (drainEnd e m s) := by
  unfold drainEnd
  split
  · exact engineCommit_movesWind e m s
  · next hsettle => exact .setEngine fun _ h => by rw [← Option.some.inj h]; exact hsettle

theorem lowerInflight_movesWind (p : PoolIx) (b : BinIx) (s : State) : MovesWind s (lowerInflight p b s) := by
  unfold lowerInflight
  dsimp only
  split
  · exact .updBin _
  · split
    · exact .updBin _
    · split
      · exact .trans (.updBin _) (drainEnd_movesWind ..)
      · exact .updBin _

theorem flushOne_movesWind (i : SlotIx) (entry : EgressEntry) (s : State) : MovesWind s (flushOne i entry s) := by
  have hpop : MovesWind s (bumpSlot i .flushed (popEgress i s)) := .of_eq rfl rfl
  refine hpop.trans ?_
  unfold flushOne reportLeft
  split
  · exact lowerInflight_movesWind ..
  · exact .refl _

theorem flushEgress_movesWind (i : SlotIx) (s : State) : MovesWind s (flushEgress i s) := by
  have habort : MovesWind s (abortData i s) := by
    rw [abortData_frame]
    exact .of_eq rfl rfl
  exact (habort.trans (.forEach (flushOne_movesWind i) _ _)).trans (evaluateConfirmation_members i _).movesWind

theorem loseEligibility_movesWind (i : SlotIx) (s : State) : MovesWind s (loseEligibility i s) := by
  unfold loseEligibility
  split
  · split
    · exact (onMoves_movesWind abortMove_movesWind s).trans (recompute_recomputed ..).movesWind
    · exact .refl s
  · exact .refl s

theorem giveBins_movesWind (p : PoolIx) (gifts : List (BinIx × SlotIx)) (s : State) : MovesWind s (giveBins p gifts s) :=
  .trans (.forEach (fun _ _ => .updBin _) gifts s) (.bumpPool ..)

theorem giveAway_movesWind (p : PoolIx) (i : SlotIx) (s : State) : MovesWind s (giveAway p i s) := by
  unfold giveAway
  split
  · exact .updPool fun _ => ⟨rfl, rfl⟩
  · exact giveBins_movesWind ..

theorem evacuate_movesWind (i : SlotIx) (s : State) : MovesWind s (evacuate i s) := by
  unfold evacuate
  split
  · exact .refl s
  · next p _ =>
    have hmoves := (onMoves_movesWind (sel := fun m => m.pool = p ∧ m.source = i) commitMove_movesWind s).trans
      (onMoves_movesWind (sel := fun m => m.pool = p ∧ m.destination = i) abortMove_movesWind _)
    have hplan (v : State) : MovesWind v (rebuildPlan p v) := .updPool fun _ => ⟨rfl, rfl⟩
    exact ((hmoves.trans (giveAway_movesWind p i _)).trans (hplan _)).trans
      (.forEach (fun j v => (reportHoldings_members j v).movesWind) _ _)

end Sys2Proof.Machine
end

section
/-! SUPPORT. No timed event brings a timer to its end or a count to its limit (R1, R5, R110, R123, R124, R130, R142, R144). -/

namespace Sys2Proof.Machine

variable {s t u : State} {p q : PoolIx} {i j : SlotIx} {b : BinIx} {e : EngineIx} {m : MoveRecord} {old : SlotState}

theorem unspent_none (timer : Timer) : Unspent timer none := .inr nofun

/-- What a timed event does to the clock, to timers and to counting monitors: none comes to its end. -/
structure Winds (s t : State) : Prop where
  clock : t.micros = s.micros
  slots : SlotsWind s t
  engines : ∀ e, MoveTimerStands (s.engines.get e) (t.engines.get e)
  pools : ∀ p, Unspent (s.pools.get p).rampTimer (t.pools.get p).rampTimer
    ∧ Unspent (s.pools.get p).adoptionTimer (t.pools.get p).adoptionTimer
  monitors : ∀ j, CountStands (s.monitors.get j) (t.monitors.get j)
  upstream : ∀ j, Unspent (s.upstream.get j).pause (t.upstream.get j).pause

theorem Winds.refl (s : State) : Winds s s :=
  ⟨rfl, .refl s, fun _ => .inl rfl, fun _ => ⟨.inl rfl, .inl rfl⟩, fun _ => .refl _, fun _ => .inl rfl⟩

theorem Winds.trans (h : Winds s t) (h' : Winds t u) : Winds s u where
  clock := h'.clock.trans h.clock
  slots := h.slots.trans h'.slots
  engines e := (h.engines e).trans (h'.engines e)
  pools p := ⟨(h.pools p).1.trans (h'.pools p).1, (h.pools p).2.trans (h'.pools p).2⟩
  monitors j := (h.monitors j).trans (h'.monitors j)
  upstream j := (h.upstream j).trans (h'.upstream j)

theorem Winds.ite {t' : State} {c : Prop} [Decidable c] (h : c → Winds s t) (h' : ¬ c → Winds s t') :
    Winds s (if c then t else t') := by
  split
  · exact h ‹_›
  · exact h' ‹_›

theorem Winds.of_traffic (htouches : TouchesTraffic s t) (hslots : SlotsWind s t) (hmoves : MovesWind s t) : Winds s t where
  clock := by
    obtain ⟨_, _, _, _, _, _, _, rfl⟩ := htouches
    rfl
  slots := hslots
  engines := hmoves.engines
  pools p := ⟨.inl (hmoves.pools p).1, .inl (hmoves.pools p).2⟩
  monitors _ := by rw [htouches.monitors_eq]; exact .refl _
  upstream _ := by rw [htouches.upstream_eq]; exact .inl rfl

theorem Winds.of_members (htouches : TouchesMembers s t) (hslots : SlotsWind s t) : Winds s t :=
  .of_traffic htouches.pools.traffic hslots htouches.movesWind

/-- Nothing that runs differs. -/
theorem Winds.of_eq (hclock : t.micros = s.micros) (hslots : t.slots = s.slots) (hlinks : t.links = s.links) (hagent : t.agent = s.agent)
    (hengines : t.engines = s.engines)
    (hpools : ∀ p, (t.pools.get p).rampTimer = (s.pools.get p).rampTimer ∧ (t.pools.get p).adoptionTimer = (s.pools.get p).adoptionTimer)
    (hmonitors : t.monitors = s.monitors) (hupstream : ∀ j, (t.upstream.get j).pause = (s.upstream.get j).pause) : Winds s t :=
  ⟨hclock, .of_eq hslots hlinks hagent, fun _ => .inl (by rw [hengines]), fun p => ⟨.inl (hpools p).1, .inl (hpools p).2⟩,
    fun _ => hmonitors ▸ .refl _, fun j => .inl (hupstream j)⟩

theorem Winds.updSlot {f : SlotRecord → SlotRecord} (h : SlotTimersStand s.agent.ackTimeout (s.slots.get i) (f (s.slots.get i))) :
    Winds s (s.updSlot i f) :=
  .of_members (updSlot_members i f s) (.updSlot h)

theorem Winds.updLink {f : LinkRecord → LinkRecord} (h : LinkTimersStand (s.links.get i) (f (s.links.get i))) :
    Winds s (s.updLink i f) :=
  .of_members ⟨_, _, _, rfl⟩ (.updLink h)

theorem Winds.bumpSlot (c : SlotCounter) (n : Nat) : Winds s (bumpSlotBy i c n s) :=
  .of_eq rfl rfl rfl rfl rfl (fun _ => ⟨rfl, rfl⟩) rfl fun _ => rfl

theorem Winds.updMonitor {f : MonitorRecord → MonitorRecord} (h : CountStands (s.monitors.get i) (f (s.monitors.get i))) :
    Winds s (s.updMonitor i f) where
  clock := rfl
  slots := .of_eq rfl rfl rfl
  engines _ := .inl rfl
  pools _ := ⟨.inl rfl, .inl rfl⟩
  monitors j := by
    rw [State.updMonitor_monitors, Table.get_modify]
    split
    · next hj => exact hj ▸ h
    · exact .refl _
  upstream _ := .inl rfl

theorem Winds.updUpstream {f : UpstreamRecord → UpstreamRecord} (h : Unspent (s.upstream.get i).pause (f (s.upstream.get i)).pause) :
    Winds s (s.updUpstream i f) where
  clock := rfl
  slots := .of_eq rfl rfl rfl
  engines _ := .inl rfl
  pools _ := ⟨.inl rfl, .inl rfl⟩
  monitors _ := .refl _
  upstream j := by
    rw [State.updUpstream_upstream, Table.get_modify]
    split
    · next hj => exact hj ▸ h
    · exact .inl rfl

theorem Winds.updPool {f : PoolRecord → PoolRecord}
    (h : ∀ r, Unspent r.rampTimer (f r).rampTimer ∧ Unspent r.adoptionTimer (f r).adoptionTimer) : Winds s (s.updPool p f) where
  clock := rfl
  slots := .of_eq rfl rfl rfl
  engines _ := .inl rfl
  pools q := by
    rw [State.updPool_pools, Table.get_modify]
    split
    · next hq => exact hq ▸ h _
    · exact ⟨.inl rfl, .inl rfl⟩
  monitors _ := .refl _
  upstream _ := .inl rfl

theorem changeState_winds (i : SlotIx) (new : SlotState) (s : State) : Winds s (changeState i new s) :=
  .of_members (changeState_members i new s) (changeState_slotsWind i new s)

theorem raiseFlag_winds (i : SlotIx) (f : SlotFlag) (s : State) : Winds s (raiseFlag i f s) :=
  .of_members (raiseFlag_members i f s) (raiseFlag_slotsWind i f s)

theorem askControl_winds (i : SlotIx) (f : ControlFrame) (s : State) : Winds s (askControl i f s) :=
  .of_members (askControl_members i f s) (askControl_slotsWind i f s)

theorem evaluateConfirmation_winds (i : SlotIx) (s : State) : Winds s (evaluateConfirmation i s) :=
  .of_members (evaluateConfirmation_members i s) (slotsWind_membership.confirmation i s)

theorem recompute_winds (p : PoolIx) (s : State) : Winds s (recompute p s) :=
  .of_traffic (recompute_follows p s).touches (slotsWind_membership.recompute p s) (recompute_recomputed p s).movesWind

theorem engineCommit_winds (e : EngineIx) (m : MoveRecord) (s : State) : Winds s (engineCommit e m s) :=
  .of_traffic (engineCommit_traffic e m s) (slotsWind_membership.engineCommit e m s) (engineCommit_movesWind e m s)

theorem loseEligibility_winds (i : SlotIx) (s : State) : Winds s (loseEligibility i s) :=
  .of_traffic (loseEligibility_traffic i s) (slotsWind_membership.loseEligibility i s) (loseEligibility_movesWind i s)

theorem evacuate_winds (i : SlotIx) (s : State) : Winds s (evacuate i s) :=
  .of_traffic (evacuate_traffic i s) (slotsWind_membership.evacuate i s) (evacuate_movesWind i s)

theorem flushEgress_winds (i : SlotIx) (s : State) : Winds s (flushEgress i s) :=
  .of_traffic (flushEgress_traffic i s) (slotsWind_membership.flushEgress i s) (flushEgress_movesWind i s)

/-! The local pause (R110, R111). -/

theorem sendResume_winds (i : SlotIx) (s : State) : Winds s (sendResume i s) :=
  ((askControl_winds i _ s).trans (.updUpstream (unspent_none _))).trans (.bumpSlot ..)

theorem sendPause_winds (i : SlotIx) (s : State) : Winds s (sendPause i s) := by
  refine ((askControl_winds i _ s).trans (.updUpstream (.inr fun h => ?_))).trans (.bumpSlot ..)
  have := Option.some.inj h
  omega

theorem clearLocalPause_winds (i : SlotIx) (s : State) : Winds s (clearLocalPause i s) := .updUpstream (unspent_none _)

theorem pauseAtRefresh_winds (i : SlotIx) (s : State) : Winds s (pauseAtRefresh i s) := by
  unfold pauseAtRefresh
  split
  · split
    · exact sendResume_winds i s
    · exact sendPause_winds i s
  · exact .refl s
  · exact .refl s

theorem flushUpstream_winds (i : SlotIx) (s : State) : Winds s (flushUpstream i s) := by
  have habort : Winds s (abortUpstream i s) := by
    rw [abortUpstream_core]
    exact .of_eq rfl rfl rfl rfl rfl (fun _ => ⟨rfl, rfl⟩) rfl fun _ => rfl
  have hstart : Winds s (upstreamEmptied i s) := (habort.trans (.updUpstream (.inl rfl))).trans (.bumpSlot ..)
  rw [flushUpstream_eq]
  refine hstart.trans ?_
  unfold pauseAtFlush
  split
  · exact .refl _
  · split
    · exact sendResume_winds i _
    · exact clearLocalPause_winds i _

/-! Links (R121, R123, R124, R126, R140). -/

theorem linkDown_countStands (m : MonitorRecord) : CountStands m m.linkDown := by
  unfold MonitorRecord.linkDown
  split
  · exact ⟨rfl, nofun⟩
  · exact ⟨rfl, fun h => ⟨h, le_rfl⟩⟩
  · exact ⟨rfl, fun h => ⟨h, le_rfl⟩⟩

theorem reportLeftUp_winds (i : SlotIx) (s : State) : Winds s (reportLeftUp i s) :=
  .trans (.updMonitor (linkDown_countStands _)) (clearLocalPause_winds i _)

theorem cutReception_winds (i : SlotIx) (s : State) : Winds s (cutReception i s) := by
  unfold cutReception
  split
  · exact .refl s
  · exact .trans (.updLink ⟨.inl rfl, .inl rfl, .inr ⟨rfl, rfl, rfl⟩⟩) (.bumpSlot ..)

theorem leaveUp_stands (l : LinkRecord) (new : LinkState) : LinkTimersStand l (l.leaveUp new) :=
  ⟨.inl rfl, unspent_none _, .inl rfl⟩

theorem dropLink_winds (i : SlotIx) (s : State) : Winds s (dropLink i s) := by
  unfold dropLink
  split
  · exact ((cutReception_winds i s).trans (.updLink (leaveUp_stands ..))).trans (reportLeftUp_winds i _)
  · exact cutReception_winds i s
  · exact .refl s
  · exact .refl s

theorem enterDark_stands (l : LinkRecord) : LinkTimersStand l l.enterDark := ⟨unspent_none _, .inl rfl, .inl rfl⟩

theorem linkGoDark_winds (i : SlotIx) (s : State) : Winds s (linkGoDark i s) := by
  unfold linkGoDark
  split
  · exact .refl s
  all_goals exact (dropLink_winds i s).trans (.updLink (enterDark_stands _))

theorem linkPark_winds (i : SlotIx) (s : State) : Winds s (linkPark i s) := by
  unfold linkPark
  split
  · exact .refl s
  · exact .refl s
  · exact linkGoDark_winds i s
  · exact .trans (.updLink (leaveUp_stands ..)) (reportLeftUp_winds i _)

/-! The lifecycle (R7, R15, R19, R20, R24–R26). -/

theorem departed_winds (i : SlotIx) (old : SlotState) (s : State) : Winds s (departed i old s) :=
  (Winds.ite (fun _ => loseEligibility_winds i s) fun _ => .refl s).trans (.ite (fun _ => evacuate_winds i _) fun _ => .refl _)

theorem depart_winds (i : SlotIx) (old : SlotState) (s : State) : Winds s (depart i old s) := by
  rw [depart_eq]
  exact ((departed_winds i old s).trans (flushEgress_winds i _)).trans (flushUpstream_winds i _)

theorem faultRecorded_winds (i : SlotIx) (cause : FaultCause) (s : State) : Winds s (faultRecorded i cause s) := by
  have hstop (v : State) : Winds v (v.updSlot i fun r => { r.stopTimers with lastFault := some cause }) :=
    .updSlot ⟨unspent_none _, unspent_none _, unspent_none _, fun _ => unspent_none _⟩
  exact ((changeState_winds i .faulted s).trans (hstop _)).trans (raiseFlag_winds i .fault _)

theorem enterFaulted_winds (i : SlotIx) (cause : FaultCause) (s : State) : Winds s (enterFaulted i cause s) := by
  rw [enterFaulted_eq]
  exact ((faultRecorded_winds i cause s).trans (linkGoDark_winds i _)).trans (depart_winds i _ _)

theorem enterDrained_winds {flags : State → State} (hflags : ∀ s, Winds s (flags s)) (i : SlotIx) (s : State) :
    Winds s (enterDrained i flags s) :=
  ((changeState_winds i _ s).trans (hflags _)).trans (linkPark_winds i _)

/-- The deadline timer starts, where the slot has a deadline (R15). -/
def deadlineStarted (i : SlotIx) (s : State) : State :=
  s.updSlot i fun r => { r with deadlineTimer := if r.retireDeadline = 0 then none else some (1000 * r.retireDeadline) }

theorem enterRetiring_starts (i : SlotIx) (flags : State → State) (s : State) : enterRetiring i flags id s
    = evaluateConfirmation i (loseEligibility i (deadlineStarted i (flags (changeState i (.retiring .moving) s)))) := rfl

theorem deadlineStarted_winds (i : SlotIx) (s : State) : Winds s (deadlineStarted i s) := by
  refine .updSlot ⟨.inl rfl, .inl rfl, .inr ?_, fun _ => .inl rfl⟩
  dsimp only
  split
  · exact nofun
  · intro h
    have := Option.some.inj h
    omega

theorem enterRetiring_winds {flags : State → State} (hflags : ∀ s, Winds s (flags s)) (i : SlotIx) (s : State) :
    Winds s (enterRetiring i flags id s) := by
  rw [enterRetiring_starts]
  have hstart := (changeState_winds i (.retiring .moving) s).trans (hflags _)
  exact ((hstart.trans (deadlineStarted_winds i _)).trans (loseEligibility_winds i _)).trans (evaluateConfirmation_winds i _)

theorem retireAutomatically_winds {flags : State → State} (hflags : ∀ s, Winds s (flags s)) (i : SlotIx) (s : State) :
    Winds s (retireAutomatically i flags s) := by
  unfold retireAutomatically
  exact enterRetiring_winds (flags := fun v => if isLastMember s i then raiseFlag i .lastMember (flags v) else flags v)
    (fun v => .ite (fun _ => (hflags v).trans (raiseFlag_winds i _ _)) fun _ => hflags v) i s

theorem lockLossReported_winds (i : SlotIx) (s : State) : Winds s (lockLossReported i s) := by
  unfold lockLossReported
  split
  case h_6 => exact enterDrained_winds .refl i s
  case h_1 | h_2 | h_3 | h_4 | h_5 => exact enterFaulted_winds i _ s
  all_goals exact .refl s

theorem alarmReported_winds (i : SlotIx) (s : State) : Winds s (alarmReported i s) := by
  unfold alarmReported
  dsimp only
  split
  · exact enterFaulted_winds i _ s
  · split
    · exact retireAutomatically_winds .refl i s
    · exact .refl s

theorem attemptFailed_winds (i : SlotIx) (s : State) : Winds s (attemptFailed i s) := by
  unfold attemptFailed
  split
  · exact .refl s
  · split
    · exact .updLink ⟨.inr (by simp [LinkRecord.startAttempt]), .inl rfl, .inl rfl⟩
    · have hend : Winds s (s.updLink i fun l => { l with attemptTimer := none, lockLossTimer := none }) :=
        .updLink ⟨unspent_none _, .inl rfl, .inl rfl⟩
      refine (hend.trans (.bumpSlot (i := i) .trainFailures 1)).trans ?_
      unfold trainingFailed
      split
      · exact enterFaulted_winds i _ _
      · exact .refl _

theorem deadlinePasses_winds (i : SlotIx) (s : State) : Winds s (deadlinePasses i s) := by
  have hstop : Winds s (deadlineStopped i s) := .updSlot ⟨.inl rfl, .inl rfl, unspent_none _, fun _ => .inl rfl⟩
  unfold deadlinePasses
  dsimp only
  split
  · exact (hstop.trans (evacuate_winds i _)).trans (flushEgress_winds i _)
  · exact hstop.trans (raiseFlag_winds i _ _)

/-! Monitors (R142, R144). -/

theorem saturate_countStands {m : MonitorRecord} (h : 255 ≤ m.runningCount) : CountStands m m.saturate := by
  have hcount : m.saturate.runningCount ≤ m.runningCount := by
    show (m.atLimit 255).runningCount ≤ _
    unfold MonitorRecord.atLimit
    split
    · exact le_rfl
    · exact h
  have hphase : m.saturate.phase = m.phase ∧ m.saturate.mode = m.mode := by
    show (m.atLimit 255).phase = _ ∧ (m.atLimit 255).mode = _
    unfold MonitorRecord.atLimit
    split <;> exact ⟨rfl, rfl⟩
  exact ⟨hphase.2, fun hc => ⟨hphase.1 ▸ hc, hcount⟩⟩

theorem freeze_countStands (m : MonitorRecord) : CountStands m m.freeze := by
  have hmode : m.freeze.mode = m.mode := by
    show (m.atLimit m.alarmLimit).mode = _
    unfold MonitorRecord.atLimit
    split <;> rfl
  exact ⟨hmode, nofun⟩

/-! Every timed event. -/

/-- A timed event brings no timer and no count to its end; a saturation latch is taken with the count at 255. -/
theorem timed_winds {c : Instr} (hc : isTimed c = true)
    (hsaturated : ∀ i, c = .saturationLatch i → 255 ≤ (s.monitors.get i).runningCount) : Winds s (ran c s) := by
  cases c <;> cases hc
  case trainingLockLoss i =>
    show Winds s (if _ then attemptFailed i (bumpSlot i .lockLosses s) else s)
    split
    · exact .trans (.bumpSlot ..) (attemptFailed_winds i _)
    · exact .refl s
  case attemptTimerExpiry i =>
    show Winds s (if _ then attemptFailed i s else s)
    split
    · exact attemptFailed_winds i s
    · exact .refl s
  case lockLossExpiry i =>
    show Winds s (if _ then lockLossReported i (reportLeftUp i (cutReception i (bumpSlot i .lockLosses
      (s.updLink i fun l => { l with lost := true, lockLossTimer := none, tx := none })))) else s)
    split
    · have hlost : Winds s (s.updLink i fun l => { l with lost := true, lockLossTimer := none, tx := none }) :=
        .updLink ⟨.inl rfl, .inl rfl, .inl rfl⟩
      exact (((hlost.trans (.bumpSlot ..)).trans (cutReception_winds i _)).trans (reportLeftUp_winds i _)).trans
        (lockLossReported_winds i _)
    · exact .refl s
  case remotePauseExpiry i => exact .updLink ⟨.inl rfl, unspent_none _, .inr ⟨rfl, rfl, rfl⟩⟩
  case refreshTimerExpiry i => exact pauseAtRefresh_winds i s
  case probeWindowExpiry i =>
    show Winds s (if _ then enterFaulted i _ s else s)
    split
    · exact enterFaulted_winds i _ s
    · exact .refl s
  case qualifyTimerExpiry i =>
    show Winds s (if _ then enterFaulted i _ s else s)
    split
    · exact enterFaulted_winds i _ s
    · exact .refl s
  case deadlineExpiry i =>
    show Winds s (if _ then deadlinePasses i s else s)
    split
    · exact deadlinePasses_winds i s
    · exact .refl s
  case acknowledgmentExpiry i =>
    show Winds s (if _ then enterDrained i (raiseFlag i .ackMissing) s else s)
    split
    · exact enterDrained_winds (raiseFlag_winds i _) i s
    · exact .refl s
  case drainTimerExpiry e =>
    obtain h | ⟨m, -, h | h⟩ := moveTimer_cases (.inl (exec_eq_next (.drainTimerExpiry e) s)) <;> rw [h]
    · exact .refl s
    · exact engineCommit_winds e m s
    · exact (engineCommit_winds e m s).trans (.updPool fun _ => ⟨.inl rfl, .inl rfl⟩)
  case settleTimerExpiry e =>
    obtain h | ⟨m, -, h | h⟩ := moveTimer_cases (.inr (exec_eq_next (.settleTimerExpiry e) s)) <;> rw [h]
    · exact .refl s
    · exact engineCommit_winds e m s
    · exact (engineCommit_winds e m s).trans (.updPool fun _ => ⟨.inl rfl, .inl rfl⟩)
  case rampTimerExpiry p => exact .updPool fun _ => ⟨unspent_none _, .inl rfl⟩
  case adoptionTimerExpiry p =>
    show Winds s (if _ then recompute p ((dropStale p s).updPool p fun r => { r with adoptionTimer := none }) else s)
    split
    · have hdrop : Winds s (dropStale p s) := .updPool fun _ => ⟨.inl rfl, .inl rfl⟩
      have hclose (v : State) : Winds v (v.updPool p fun r => { r with adoptionTimer := none }) :=
        .updPool fun _ => ⟨.inl rfl, unspent_none _⟩
      exact (hdrop.trans (hclose _)).trans (recompute_winds p _)
    · exact .refl s
  case saturationLatch i =>
    show Winds s (if _ then s.updMonitor i MonitorRecord.saturate else s)
    split
    · exact .updMonitor (saturate_countStands (hsaturated i rfl))
    · exact .refl s
  case beaconAlarm i =>
    show Winds s (if _ then alarmReported i (raiseFlag i .beaconAlarm (s.updMonitor i MonitorRecord.freeze)) else s)
    split
    · exact .trans (.trans (.updMonitor (freeze_countStands _)) (raiseFlag_winds i _ _)) (alarmReported_winds i _)
    · exact .refl s
  case lampBaseStep => exact .of_eq rfl rfl rfl rfl rfl (fun _ => ⟨rfl, rfl⟩) rfl fun _ => rfl

end Sys2Proof.Machine
end

section
/-! SUPPORT. The part a microsecond later, and the one event that can fall due at it (R1, R142, R144, R157; log entry 3). -/

namespace Sys2Proof.Machine

variable {s t u v : State} {p q : PoolIx} {i j : SlotIx} {b : BinIx} {e : EngineIx} {m : MoveRecord} {c : Instr} {unit n : Nat}

/-! The monitors' count (R142). -/

theorem tick_counting (m : MonitorRecord) (h : m.phase = .counting) : m.tick
    = if m.tickRemainder + 1 < m.divisor then { m with tickRemainder := m.tickRemainder + 1 }
      else { m with tickRemainder := 0, runningCount := min 255 (m.runningCount + 1) } := by
  rw [MonitorRecord.tick, h]

theorem tick_still (m : MonitorRecord) (h : m.phase ≠ .counting) : m.tick = m := by
  unfold MonitorRecord.tick
  split
  · next hc => exact absurd hc h
  · rfl
  · rfl

theorem ticksOf_still (n : Nat) (m : MonitorRecord) (h : m.phase ≠ .counting) : ticksOf n m = m := by
  induction n with
  | zero => rfl
  | succ n ih => rw [ticksOf, tick_still m h, ih]

/-- The count after further ticks, from any count and remainder. -/
theorem ticksOf_counting (n : Nat) (m : MonitorRecord) (h : m.phase = .counting) (hrem : m.tickRemainder < m.divisor)
    (hcount : m.runningCount ≤ 255) : ticksOf n m = { m with
      runningCount := min 255 (m.runningCount + (m.tickRemainder + n) / m.divisor)
      tickRemainder := (m.tickRemainder + n) % m.divisor } := by
  induction n generalizing m with
  | zero =>
    rw [ticksOf, Nat.add_zero, Nat.div_eq_of_lt hrem, Nat.mod_eq_of_lt hrem, Nat.add_zero, min_eq_right hcount]
  | succ n ih =>
    rw [ticksOf, tick_counting m h]
    split
    · next hlt =>
      rw [ih { m with tickRemainder := m.tickRemainder + 1 } h hlt hcount]
      simp only [Nat.add_assoc, Nat.add_comm 1 n]
    · next hge =>
      have hpos : 0 < m.divisor := by omega
      have hsum : m.tickRemainder + (n + 1) = n + m.divisor := by omega
      rw [ih { m with tickRemainder := 0, runningCount := min 255 (m.runningCount + 1) } h hpos (min_le_left ..)]
      simp only [hsum, Nat.zero_add, Nat.add_div_right n hpos, Nat.add_mod_right]
      congr 1
      generalize n / m.divisor = whole
      omega

theorem ticksOf_divides (m : MonitorRecord) (n : Nat) :
    (m.phase = .counting → 1 ≤ m.divisor → m.runningCount = 0 → m.tickRemainder = 0 →
      ticksOf n m = { m with runningCount := min 255 (n / m.divisor), tickRemainder := n % m.divisor })
    ∧ (m.phase ≠ .counting → ticksOf n m = m) := by
  refine ⟨fun h hdiv hcount hrem => ?_, ticksOf_still n m⟩
  rw [ticksOf_counting n m h (by omega) (by omega), hcount, hrem, Nat.zero_add, Nat.zero_add]

/-! The microsecond. -/

/-- The part a microsecond later, before what falls due is taken. -/
def ticked (s : State) : State := tick (chooseIfIdle s)

theorem idle_eq (s : State) : idle s = forEach takeDue (timedEvents s) (ticked s) := rfl

/-- The choice of a cycle on an IDLE bus changes the cycle and the forced preamble. -/
theorem ScannerRecord.chooseCycle_fields (c : ScannerRecord) :
    c.chooseCycle = { c with cycle := c.chooseCycle.cycle, forcedPreamble := c.chooseCycle.forcedPreamble } := by
  unfold ScannerRecord.chooseCycle
  split
  · rfl
  · split <;> rfl

theorem ScannerRecord.chooseCycle_begins {c : ScannerRecord} (h : c.waitingRead ≠ none ∨ c.mode = .scan) :
    c.chooseCycle.cycle ≠ none := by
  cases hwait : c.waitingRead with
  | some i =>
    rw [ScannerRecord.chooseCycle_single hwait, ScannerRecord.beginCycle_cycle]
    exact Option.some_ne_none _
  | none =>
    rw [ScannerRecord.chooseCycle_scan hwait (h.resolve_left fun hne => hne hwait), ScannerRecord.beginCycle_cycle]
    exact Option.some_ne_none _

theorem chooseIfIdle_frame (s : State) : ∃ scanner, chooseIfIdle s = { s with scanner := scanner } := by
  rw [chooseIfIdle_eq]
  split
  · exact ⟨_, rfl⟩
  · exact ⟨_, rfl⟩

theorem chooseIfIdle_waits (h : s.scanner.cycle ≠ none ∨ s.scanner.waitingRead = none ∧ s.scanner.mode ≠ .scan) :
    (chooseIfIdle s).scanner = s.scanner := by
  rw [chooseIfIdle_eq]
  split
  · next hcycle =>
    obtain ⟨hwait, hmode⟩ := h.resolve_left fun hne => hne hcycle
    show s.scanner.chooseCycle = _
    rw [ScannerRecord.chooseCycle_idle hwait hmode, ← hcycle]
  · rfl

theorem chooseIfIdle_begins (hcycle : s.scanner.cycle = none) (h : s.scanner.waitingRead ≠ none ∨ s.scanner.mode = .scan) :
    (chooseIfIdle s).scanner.cycle ≠ none ∧ (chooseIfIdle s).scanner = { s.scanner with
      cycle := (chooseIfIdle s).scanner.cycle, forcedPreamble := (chooseIfIdle s).scanner.forcedPreamble } := by
  rw [chooseIfIdle_eq, if_pos hcycle]
  exact ⟨ScannerRecord.chooseCycle_begins h, ScannerRecord.chooseCycle_fields _⟩

theorem tick_scanner (s : State) : (tick s).scanner = s.scanner := by rw [tick_rest]

theorem ticked_of (s : State) : Ticked s (ticked s) := by
  obtain ⟨scanner, hchoose⟩ := chooseIfIdle_frame s
  have hbus : (ticked s).scanner = (chooseIfIdle s).scanner := tick_scanner _
  have hframe : ticked s = { s with
      micros := (s.micros + 1) % 25000, slots := (ticked s).slots, pools := (ticked s).pools, links := (ticked s).links
      upstream := (ticked s).upstream, engines := (ticked s).engines, monitors := (ticked s).monitors
      scanner := (ticked s).scanner } := by
    rw [ticked, hchoose, tick_rest]
  have hengine (e : EngineIx) : (ticked s).engines.get e = (s.engines.get e).map (MoveRecord.ticked s) := by
    rw [ticked, hchoose, tick_engines]
    rfl
  refine ⟨?_, fun i => ?_, fun p => ?_, fun i => ?_, fun i => ?_, fun e m he hphase => ?_, fun e m he hphase => ?_, fun e he => ?_,
    fun i => ?_, fun h => hbus.trans (chooseIfIdle_waits h), fun hcycle h => ?_, ?_⟩
  · rw [hframe]
  · rw [ticked, hchoose]
    exact tick_slots _ i
  · rw [ticked, hchoose]
    exact tick_pools _ p
  · rw [ticked, hchoose]
    exact tick_links _ i
  · rw [ticked, hchoose]
    exact tick_upstream _ i
  · rw [hengine, he, Option.map_some, MoveRecord.ticked, hphase]
  · rw [hengine, he, Option.map_some, MoveRecord.ticked, hphase]
  · rw [hengine, he]
    rfl
  · rw [ticked, hchoose]
    exact tick_monitors _ i
  · rw [hbus]
    exact chooseIfIdle_begins hcycle h
  · have hclock : (ticked s).micros = (s.micros + 1) % 25000 := by rw [hframe]
    rw [hclock]
    exact hframe

end Sys2Proof.Machine
end

section
/-! SUPPORT. Which timed events fall due, and what an idle step takes when one does (R1, R142, R144, R171; log entries 3, 24). -/

namespace Sys2Proof.Machine

variable {s t u v : State} {p q : PoolIx} {i j : SlotIx} {b : BinIx} {e : EngineIx} {m : MoveRecord} {c : Instr} {unit n : Nat}

/-- The command falls due at `v`, in an idle step that began at `s`: its timer is at its end, or its monitor counts and has come to
its limit. -/
inductive Falls (s v : State) : Instr → Prop where
  | trainingLockLoss (i : SlotIx) : (v.links.get i).inAttempt = true → (v.links.get i).lockLossTimer = some 0 → Falls s v (.trainingLockLoss i)
  | attemptTimer (i : SlotIx) : (v.links.get i).attemptTimer = some 0 → Falls s v (.attemptTimerExpiry i)
  | lockLoss (i : SlotIx) : (v.links.get i).carries = true → (v.links.get i).lockLossTimer = some 0 → Falls s v (.lockLossExpiry i)
  | remotePause (i : SlotIx) : (v.links.get i).remotePause = some 0 → Falls s v (.remotePauseExpiry i)
  | refresh (i : SlotIx) : (v.upstream.get i).pause = some 0 → Falls s v (.refreshTimerExpiry i)
  | probeWindow (i : SlotIx) : (v.slots.get i).probeTimer = some 0 → Falls s v (.probeWindowExpiry i)
  | qualify (i : SlotIx) : (v.slots.get i).qualifyTimer = some 0 → Falls s v (.qualifyTimerExpiry i)
  | deadline (i : SlotIx) : (v.slots.get i).deadlineTimer = some 0 → Falls s v (.deadlineExpiry i)
  | acknowledgment (i : SlotIx) : (v.slots.get i).ackTimer = some 0 → Falls s v (.acknowledgmentExpiry i)
  | drain (e : EngineIx) (m : MoveRecord) : v.engines.get e = some m → m.phase = .draining → m.timer = 0 → Falls s v (.drainTimerExpiry e)
  | settle (e : EngineIx) (m : MoveRecord) : v.engines.get e = some m → m.phase = .settling → m.timer = 0 → Falls s v (.settleTimerExpiry e)
  | ramp (p : PoolIx) : (v.pools.get p).rampTimer = some 0 → Falls s v (.rampTimerExpiry p)
  | adoption (p : PoolIx) : (v.pools.get p).adoptionTimer = some 0 → Falls s v (.adoptionTimerExpiry p)
  | saturation (i : SlotIx) : (v.monitors.get i).phase = .counting → (v.monitors.get i).mode = .poll →
      countReaches s i 255 v = true → Falls s v (.saturationLatch i)
  | alarm (i : SlotIx) : (v.monitors.get i).phase = .counting → (v.monitors.get i).mode = .alarm →
      countReaches s i (s.monitors.get i).alarmLimit v = true → Falls s v (.beaconAlarm i)

theorem isDue_iff {timer : Timer} : isDue timer = true ↔ timer = some 0 := decide_eq_true_iff

theorem Unspent.due {timer timer' : Timer} (h : Unspent timer timer') (hdue : timer' = some 0) : timer = some 0 :=
  h.elim (fun heq => heq.symm.trans hdue) fun hne => absurd hdue hne

theorem CountStands.reaches (h : CountStands (u.monitors.get i) (v.monitors.get i)) (hphase : (v.monitors.get i).phase = .counting)
    (hreaches : countReaches s i n v = true) : countReaches s i n u = true := by
  obtain ⟨hbefore, hlimit⟩ := of_decide_eq_true hreaches
  exact decide_eq_true ⟨hbefore, hlimit.trans (h.counting hphase).2⟩

/-- What falls due after a timed event was due before it (R1). -/
theorem Winds.falls (h : Winds u v) (htimeout : 0 < u.agent.ackTimeout) (hfalls : Falls s v c) : Falls s u c := by
  have hslot (i : SlotIx) := h.slots.slots i
  have hlink (i : SlotIx) := h.slots.links i
  cases hfalls with
  | trainingLockLoss i hattempt hdue =>
    obtain hnone | ⟨htimer, hstands, -⟩ := (hlink i).loss
    · exact nomatch hnone.symm.trans hdue
    · exact .trainingLockLoss i (hstands.symm.trans hattempt) (htimer.symm.trans hdue)
  | attemptTimer i hdue => exact .attemptTimer i ((hlink i).attempt.due hdue)
  | lockLoss i hcarries hdue =>
    obtain hnone | ⟨htimer, -, hstands⟩ := (hlink i).loss
    · exact nomatch hnone.symm.trans hdue
    · exact .lockLoss i (hstands.symm.trans hcarries) (htimer.symm.trans hdue)
  | remotePause i hdue => exact .remotePause i ((hlink i).pause.due hdue)
  | refresh i hdue => exact .refresh i ((h.upstream i).due hdue)
  | probeWindow i hdue => exact .probeWindow i ((hslot i).probe.due hdue)
  | qualify i hdue => exact .qualify i ((hslot i).qualify.due hdue)
  | deadline i hdue => exact .deadline i ((hslot i).deadline.due hdue)
  | acknowledgment i hdue => exact .acknowledgment i (((hslot i).ack htimeout).due hdue)
  | drain e m he hphase hdue =>
    obtain hstands | hne := h.engines e
    · exact .drain e m (hstands.symm.trans he) hphase hdue
    · exact absurd hdue (hne m he)
  | settle e m he hphase hdue =>
    obtain hstands | hne := h.engines e
    · exact .settle e m (hstands.symm.trans he) hphase hdue
    · exact absurd hdue (hne m he)
  | ramp p hdue => exact .ramp p ((h.pools p).1.due hdue)
  | adoption p hdue => exact .adoption p ((h.pools p).2.due hdue)
  | saturation i hphase hmode hreaches =>
    have hmonitor := h.monitors i
    exact .saturation i (hmonitor.counting hphase).1 (hmonitor.mode.symm.trans hmode) (hmonitor.reaches hphase hreaches)
  | alarm i hphase hmode hreaches =>
    have hmonitor := h.monitors i
    exact .alarm i (hmonitor.counting hphase).1 (hmonitor.mode.symm.trans hmode) (hmonitor.reaches hphase hreaches)

/-! The timed events, the base step of the lamps apart. -/

/-- The timed events of slots, engines and pools, in their order. -/
def clockEvents (s : State) : List TimedEvent :=
  (List.finRange 12).flatMap (slotEvents s) ++ (List.finRange 4).flatMap engineEvents ++ (List.finRange 4).flatMap poolEvents

theorem timedEvents_eq (s : State) : timedEvents s = clockEvents s ++ [⟨fun s => decide (s.micros = 0), .lampBaseStep⟩] := rfl

theorem moveDue_iff {phase : MovePhase} : moveDue v e phase = true
    ↔ ∃ m, v.engines.get e = some m ∧ m.phase = phase ∧ m.timer = 0 := by
  unfold moveDue
  cases v.engines.get e <;> simp

/-- An event that does not fall due leaves the part as it is: one of a monitor may be due in the other mode. -/
theorem takeDue_stays {ev : TimedEvent} (hev : ev ∈ clockEvents s) (h : ¬ Falls s v ev.command) : takeDue ev v = v := by
  rw [takeDue_eq]
  by_cases hdue : ev.due v = true
  case neg => exact if_neg hdue
  rw [if_pos hdue]
  simp only [clockEvents, List.mem_append, List.mem_flatMap, slotEvents, engineEvents, poolEvents, List.mem_cons,
    List.not_mem_nil, or_false] at hev
  obtain (⟨i, -, hev⟩ | ⟨e, -, hev⟩) | ⟨p, -, hev⟩ := hev
  · obtain rfl | rfl | rfl | rfl | rfl | rfl | rfl | rfl | rfl | rfl | rfl := hev
    · obtain ⟨hattempt, hdue⟩ := Bool.and_eq_true_iff.mp hdue
      exact absurd (.trainingLockLoss i hattempt (isDue_iff.mp hdue)) h
    · exact absurd (.attemptTimer i (isDue_iff.mp hdue)) h
    · obtain ⟨hcarries, hdue⟩ := Bool.and_eq_true_iff.mp hdue
      exact absurd (.lockLoss i hcarries (isDue_iff.mp hdue)) h
    · exact absurd (.remotePause i (isDue_iff.mp hdue)) h
    · exact absurd (.refresh i (isDue_iff.mp hdue)) h
    · exact absurd (.probeWindow i (isDue_iff.mp hdue)) h
    · exact absurd (.qualify i (isDue_iff.mp hdue)) h
    · exact absurd (.deadline i (isDue_iff.mp hdue)) h
    · exact absurd (.acknowledgment i (isDue_iff.mp hdue)) h
    · exact if_neg fun ⟨hphase, hmode⟩ => h (.saturation i hphase hmode hdue)
    · exact if_neg fun ⟨hphase, hmode⟩ => h (.alarm i hphase hmode hdue)
  · obtain rfl | rfl := hev
    · obtain ⟨m, he, hphase, htimer⟩ := moveDue_iff.mp hdue
      exact absurd (.drain e m he hphase htimer) h
    · obtain ⟨m, he, hphase, htimer⟩ := moveDue_iff.mp hdue
      exact absurd (.settle e m he hphase htimer) h
  · obtain rfl | rfl := hev
    · exact absurd (.ramp p (isDue_iff.mp hdue)) h
    · exact absurd (.adoption p (isDue_iff.mp hdue)) h

/-- An event that falls due is taken. -/
theorem takeDue_falls {ev : TimedEvent} (hev : ev ∈ clockEvents s) (h : Falls s v ev.command) : takeDue ev v = ran ev.command v := by
  rw [takeDue_eq]
  refine if_pos ?_
  simp only [clockEvents, List.mem_append, List.mem_flatMap, slotEvents, engineEvents, poolEvents, List.mem_cons,
    List.not_mem_nil, or_false] at hev
  obtain (⟨i, -, hev⟩ | ⟨e, -, hev⟩) | ⟨p, -, hev⟩ := hev
  · obtain rfl | rfl | rfl | rfl | rfl | rfl | rfl | rfl | rfl | rfl | rfl := hev
    · cases h with | trainingLockLoss _ hattempt hdue => exact Bool.and_eq_true_iff.mpr ⟨hattempt, isDue_iff.mpr hdue⟩
    · cases h with | attemptTimer _ hdue => exact isDue_iff.mpr hdue
    · cases h with | lockLoss _ hcarries hdue => exact Bool.and_eq_true_iff.mpr ⟨hcarries, isDue_iff.mpr hdue⟩
    · cases h with | remotePause _ hdue => exact isDue_iff.mpr hdue
    · cases h with | refresh _ hdue => exact isDue_iff.mpr hdue
    · cases h with | probeWindow _ hdue => exact isDue_iff.mpr hdue
    · cases h with | qualify _ hdue => exact isDue_iff.mpr hdue
    · cases h with | deadline _ hdue => exact isDue_iff.mpr hdue
    · cases h with | acknowledgment _ hdue => exact isDue_iff.mpr hdue
    · cases h with | saturation _ _ _ hreaches => exact hreaches
    · cases h with | alarm _ _ _ hreaches => exact hreaches
  · obtain rfl | rfl := hev
    · cases h with | drain _ m he hphase htimer => exact moveDue_iff.mpr ⟨m, he, hphase, htimer⟩
    · cases h with | settle _ m he hphase htimer => exact moveDue_iff.mpr ⟨m, he, hphase, htimer⟩
  · obtain rfl | rfl := hev
    · cases h with | ramp _ hdue => exact isDue_iff.mpr hdue
    · cases h with | adoption _ hdue => exact isDue_iff.mpr hdue

/-- What falls due is the command of one of the events. -/
theorem Falls.mem (h : Falls s v c) : c ∈ (clockEvents s).map TimedEvent.command := by
  simp only [clockEvents, List.map_append, List.mem_append, List.map_flatMap, List.mem_flatMap, slotEvents, engineEvents, poolEvents,
    List.map_cons, List.map_nil, List.mem_cons, List.not_mem_nil, or_false]
  cases h <;> simp [List.mem_finRange]

/-- Lists of events of different numbers hold different commands. -/
theorem nodup_flatMap_of_apart {n : Nat} {f : Fin n → List TimedEvent} (hf : ∀ i, ((f i).map TimedEvent.command).Nodup)
    (happart : ∀ i j c, c ∈ (f i).map TimedEvent.command → c ∈ (f j).map TimedEvent.command → i = j) :
    (((List.finRange n).flatMap f).map TimedEvent.command).Nodup := by
  rw [List.map_flatMap, List.nodup_flatMap]
  exact ⟨fun i _ => hf i, (List.nodup_finRange n).imp fun hne c hi hj => hne (happart _ _ c hi hj)⟩

theorem slotEvents_nodup (s : State) : (((List.finRange 12).flatMap (slotEvents s)).map TimedEvent.command).Nodup := by
  refine nodup_flatMap_of_apart (fun i => by simp [slotEvents]) fun i j c hi hj => ?_
  simp only [slotEvents, List.map_cons, List.map_nil, List.mem_cons, List.not_mem_nil, or_false] at hi hj
  obtain rfl | rfl | rfl | rfl | rfl | rfl | rfl | rfl | rfl | rfl | rfl := hi <;> simpa using hj

theorem engineEvents_nodup : (((List.finRange 4).flatMap engineEvents).map TimedEvent.command).Nodup := by
  refine nodup_flatMap_of_apart (fun e => by simp [engineEvents]) fun i j c hi hj => ?_
  simp only [engineEvents, List.map_cons, List.map_nil, List.mem_cons, List.not_mem_nil, or_false] at hi hj
  obtain rfl | rfl := hi <;> simpa using hj

theorem poolEvents_nodup : (((List.finRange 4).flatMap poolEvents).map TimedEvent.command).Nodup := by
  refine nodup_flatMap_of_apart (fun e => by simp [poolEvents]) fun i j c hi hj => ?_
  simp only [poolEvents, List.map_cons, List.map_nil, List.mem_cons, List.not_mem_nil, or_false] at hi hj
  obtain rfl | rfl := hi <;> simpa using hj

/-- No command is that of two events. -/
theorem clockEvents_nodup (s : State) : ((clockEvents s).map TimedEvent.command).Nodup := by
  rw [clockEvents, List.map_append, List.map_append, List.nodup_append', List.nodup_append']
  refine ⟨⟨slotEvents_nodup s, engineEvents_nodup, fun c hslot hengine => ?_⟩, poolEvents_nodup, fun c hrest hpool => ?_⟩
  all_goals
    simp only [List.mem_append, List.map_flatMap, List.mem_flatMap, slotEvents, engineEvents, poolEvents, List.map_cons,
      List.map_nil, List.mem_cons, List.not_mem_nil, or_false] at *
  · obtain ⟨e, -, rfl | rfl⟩ := hengine <;> simp at hslot
  · obtain ⟨p, -, rfl | rfl⟩ := hpool <;> simp at hrest

/-! What an idle step takes. -/

theorem takeDue_none {evs : List TimedEvent} (hevs : ∀ ev ∈ evs, ev ∈ clockEvents s) (h : ∀ ev ∈ evs, ¬ Falls s v ev.command) :
    forEach takeDue evs v = v := by
  induction evs with
  | nil => rfl
  | cons ev evs ih =>
    rw [forEach_cons, takeDue_stays (hevs ev List.mem_cons_self) (h ev List.mem_cons_self)]
    exact ih (fun ev hev => hevs ev (List.mem_cons_of_mem _ hev)) fun ev hev => h ev (List.mem_cons_of_mem _ hev)

theorem Falls.timed (h : Falls s v c) : isTimed c = true := by cases h <;> rfl

theorem Falls.winds (h : Falls s v c) : Winds v (ran c v) := by
  refine timed_winds h.timed fun i hc => ?_
  subst hc
  cases h with
  | saturation _ _ _ hreaches => exact (of_decide_eq_true hreaches).2

/-- Where one command alone falls due, it alone is taken. -/
theorem takeDue_one {evs : List TimedEvent} (hevs : ∀ ev ∈ evs, ev ∈ clockEvents s) (hnodup : (evs.map TimedEvent.command).Nodup)
    (htimeout : 0 < v.agent.ackTimeout) (hc : Falls s v c) (hmem : c ∈ evs.map TimedEvent.command)
    (hone : ∀ c', Falls s v c' → c' = c) : forEach takeDue evs v = ran c v := by
  induction evs with
  | nil => cases hmem
  | cons ev evs ih =>
    obtain ⟨hnot, hnodup⟩ := List.nodup_cons.mp hnodup
    have hrest (ev' : TimedEvent) (hev' : ev' ∈ evs) := hevs ev' (List.mem_cons_of_mem _ hev')
    rw [forEach_cons]
    by_cases heq : ev.command = c
    · rw [takeDue_falls (hevs ev List.mem_cons_self) (heq.symm ▸ hc), heq]
      refine takeDue_none hrest fun ev' hev' hfalls => ?_
      have hsame := hone _ (hc.winds.falls htimeout hfalls)
      exact hnot (List.mem_map.mpr ⟨ev', hev', hsame.trans heq.symm⟩)
    · rw [takeDue_stays (hevs ev List.mem_cons_self) fun hfalls => heq (hone _ hfalls)]
      exact ih hrest hnodup ((List.mem_cons.mp hmem).resolve_left fun h => heq h.symm)

/-- At every 25th millisecond the lamps take their base step. -/
theorem takeDue_lamps (v : State) : takeDue ⟨fun s => decide (s.micros = 0), .lampBaseStep⟩ v
    = if v.micros = 0 then stepLamps v else v := by
  rw [takeDue_eq]
  exact if_congr decide_eq_true_iff rfl rfl

theorem idle_falls (s : State) : idle s
    = if (forEach takeDue (clockEvents s) (ticked s)).micros = 0 then stepLamps (forEach takeDue (clockEvents s) (ticked s))
      else forEach takeDue (clockEvents s) (ticked s) := by
  have happend (evs evs' : List TimedEvent) (v : State) :
      forEach takeDue (evs ++ evs') v = forEach takeDue evs' (forEach takeDue evs v) := List.foldl_append
  rw [idle_eq, timedEvents_eq, happend, forEach_cons, forEach_nil, takeDue_lamps]

end Sys2Proof.Machine
end

section
/-! SUPPORT. The events that fall due a microsecond later are those whose timer or count has one tick to go (R1, R142, R144). -/

namespace Sys2Proof.Machine

variable {s t u : State} {p : PoolIx} {i : SlotIx} {e : EngineIx} {m : MoveRecord} {c : Instr} {unit n : Nat} {timer : Timer}

theorem countDown_due (h : countDown unit s timer = some 0) : ∃ n, timer = some n ∧ n ≤ if TickFalls unit s then 1 else 0 := by
  unfold countDown at h
  split at h
  · next hfalls =>
    obtain ⟨n, rfl, hn⟩ := Option.map_eq_some_iff.mp h
    exact ⟨n, rfl, by rw [if_pos hfalls]; omega⟩
  · exact ⟨0, h, Nat.zero_le _⟩

theorem countDown_last (hfalls : TickFalls unit s) (h : timer = some 1) : countDown unit s timer = some 0 := by
  rw [countDown, if_pos hfalls, h]
  rfl

/-- A count comes to its limit at a tick exactly where one tick was to go (R142, R144). -/
theorem tick_reaches {m : MonitorRecord} {limit : Nat} (hphase : m.phase = .counting) (hrem : m.tickRemainder < m.divisor)
    (hlimit : limit ≤ 255) (hlt : m.runningCount < limit) :
    limit ≤ m.tick.runningCount ↔ (limit - m.runningCount) * m.divisor - m.tickRemainder ≤ 1 := by
  obtain ⟨k, hk⟩ : ∃ k, limit = m.runningCount + 1 + k := ⟨limit - m.runningCount - 1, by omega⟩
  have hticks : (limit - m.runningCount) * m.divisor = k * m.divisor + m.divisor := by
    rw [hk, show m.runningCount + 1 + k - m.runningCount = k + 1 by omega, Nat.succ_mul]
  have hmore : k ≠ 0 → m.divisor ≤ k * m.divisor := fun hk => Nat.le_mul_of_pos_left _ (Nat.pos_of_ne_zero hk)
  have hlast : k = 0 → k * m.divisor = 0 := fun hk => by rw [hk, Nat.zero_mul]
  rw [hticks, tick_counting m hphase]
  split
  · show limit ≤ m.runningCount ↔ _
    omega
  · show limit ≤ min 255 (m.runningCount + 1) ↔ _
    omega

theorem tick_stands (m : MonitorRecord) : m.tick.phase = m.phase ∧ m.tick.mode = m.mode := by
  obtain ⟨-, hphase, hmode, -⟩ := tick_monitor_stands m
  exact ⟨hphase, hmode⟩

section
variable (h : Ticked s u)
include h

theorem Ticked.inAttempt (i : SlotIx) : (u.links.get i).inAttempt = (s.links.get i).inAttempt := by
  rw [h.links, LinkRecord.inAttempt, LinkRecord.inAttempt]
  dsimp only
  unfold countDown
  split
  · rw [Option.isSome_map]
  · rfl

theorem Ticked.carries (i : SlotIx) : (u.links.get i).carries = (s.links.get i).carries := by
  rw [h.links]
  rfl

theorem Ticked.timeout : u.agent.ackTimeout = s.agent.ackTimeout := by rw [h.rest]

theorem Ticked.monitor (i : SlotIx) : (u.monitors.get i).phase = (s.monitors.get i).phase
    ∧ (u.monitors.get i).mode = (s.monitors.get i).mode := by
  rw [h.monitors]
  split
  · exact tick_stands _
  · exact ⟨rfl, rfl⟩

/-- A count that comes to its limit had at most one tick to go, and ticks. -/
theorem Ticked.reaches {limit : Nat} (hs : MonitorLaw (s.monitors.get i)) (hlimit : limit ≤ 255)
    (hphase : (u.monitors.get i).phase = .counting) (hreaches : countReaches s i limit u = true) :
    (s.monitors.get i).runningCount < limit
      ∧ (limit - (s.monitors.get i).runningCount) * (s.monitors.get i).divisor - (s.monitors.get i).tickRemainder
        ≤ if TickFalls 10 s then 1 else 0 := by
  obtain ⟨hlt, hle⟩ := of_decide_eq_true hreaches
  rw [(h.monitor i).1] at hphase
  rw [h.monitors] at hle
  split at hle
  · next hfalls =>
    rw [if_pos hfalls]
    exact ⟨hlt, (tick_reaches hphase hs.counts.2.1 hlimit hlt).mp hle⟩
  · omega

theorem Ticked.reached {limit : Nat} (hs : MonitorLaw (s.monitors.get i)) (hlimit : limit ≤ 255)
    (hphase : (s.monitors.get i).phase = .counting) (hlt : (s.monitors.get i).runningCount < limit) (hfalls : TickFalls 10 s)
    (hone : (limit - (s.monitors.get i).runningCount) * (s.monitors.get i).divisor - (s.monitors.get i).tickRemainder = 1) :
    countReaches s i limit u = true := by
  refine decide_eq_true ⟨hlt, ?_⟩
  rw [h.monitors, if_pos hfalls]
  exact (tick_reaches hphase hs.counts.2.1 hlimit hlt).mpr hone.le

/-- The move of an engine, a microsecond before. -/
theorem Ticked.move (he : u.engines.get e = some m) : ∃ m', s.engines.get e = some m' ∧ m'.phase = m.phase
    ∧ (m.phase = .draining → m.timer = if TickFalls 1000 s then m'.timer - 1 else m'.timer)
    ∧ (m.phase = .settling → m.timer = if TickFalls 10 s then m'.timer - 1 else m'.timer) := by
  cases hbefore : s.engines.get e with
  | none => exact nomatch (h.engines e hbefore).symm.trans he
  | some m' =>
    refine ⟨m', rfl, ?_⟩
    cases hphase : m'.phase with
    | draining =>
      obtain rfl := Option.some.inj ((h.draining e m' hbefore hphase).symm.trans he)
      exact ⟨hphase.symm, fun _ => rfl, fun hc => nomatch hphase.symm.trans hc⟩
    | settling =>
      obtain rfl := Option.some.inj ((h.settling e m' hbefore hphase).symm.trans he)
      exact ⟨hphase.symm, fun hc => (nomatch hphase.symm.trans hc), fun _ => rfl⟩

/-- What falls due ran, with at most one tick to go. -/
theorem Ticked.falls (hs : LinkLaws s) (hfalls : Falls s u c) : ∃ unit n, Runs s c unit n ∧ n ≤ if TickFalls unit s then 1 else 0 := by
  have hslot := h.slots
  have hlink := h.links
  have hcountdown {timer timer' : Timer} {unit : Nat} {c : Instr} (hruns : ∀ n, timer = some n → Runs s c unit n)
      (hticked : timer' = countDown unit s timer) (hdue : timer' = some 0) :
      ∃ unit n, Runs s c unit n ∧ n ≤ if TickFalls unit s then 1 else 0 := by
    obtain ⟨n, hn, hle⟩ := countDown_due (hticked.symm.trans hdue)
    exact ⟨unit, n, hruns n hn, hle⟩
  cases hfalls with
  | trainingLockLoss i hattempt hdue =>
    exact hcountdown (.trainingLockLoss i · ((h.inAttempt i).symm.trans hattempt)) (by rw [hlink]) hdue
  | attemptTimer i hdue => exact hcountdown (.attemptTimer i ·) (by rw [hlink]) hdue
  | lockLoss i hcarries hdue => exact hcountdown (.lockLoss i · ((h.carries i).symm.trans hcarries)) (by rw [hlink]) hdue
  | remotePause i hdue => exact hcountdown (.remotePause i ·) (by rw [hlink]) hdue
  | refresh i hdue => exact hcountdown (.refresh i ·) (by rw [h.upstream]) hdue
  | probeWindow i hdue => exact hcountdown (.probeWindow i ·) (by rw [hslot]) hdue
  | qualify i hdue => exact hcountdown (.qualify i ·) (by rw [hslot]) hdue
  | deadline i hdue => exact hcountdown (.deadline i ·) (by rw [hslot]) hdue
  | acknowledgment i hdue => exact hcountdown (.acknowledgment i ·) (by rw [hslot]) hdue
  | ramp p hdue => exact hcountdown (.ramp p ·) (by rw [h.pools]) hdue
  | adoption p hdue => exact hcountdown (.adoption p ·) (by rw [h.pools]) hdue
  | drain e m he hphase hdue =>
    obtain ⟨m', he', hphase', htimer, -⟩ := h.move he
    refine ⟨_, _, .drain e m' he' (hphase'.trans hphase), ?_⟩
    have htimer := htimer hphase
    split at htimer
    · next htick => rw [if_pos htick]; omega
    · omega
  | settle e m he hphase hdue =>
    obtain ⟨m', he', hphase', -, htimer⟩ := h.move he
    refine ⟨_, _, .settle e m' he' (hphase'.trans hphase), ?_⟩
    have htimer := htimer hphase
    split at htimer
    · next htick => rw [if_pos htick]; omega
    · omega
  | saturation i hphase hmode hreaches =>
    obtain ⟨hlt, hle⟩ := h.reaches (hs.monitors i) le_rfl hphase hreaches
    obtain ⟨hphase', hmode'⟩ := h.monitor i
    exact ⟨_, _, .saturation i (hphase'.symm.trans hphase) (hmode'.symm.trans hmode) hlt, hle⟩
  | alarm i hphase hmode hreaches =>
    obtain ⟨hlt, hle⟩ := h.reaches (hs.monitors i) (hs.monitors i).limits.2.2.2 hphase hreaches
    obtain ⟨hphase', hmode'⟩ := h.monitor i
    exact ⟨_, _, .alarm i (hphase'.symm.trans hphase) (hmode'.symm.trans hmode), hle⟩

/-- What has one tick to go falls due at that tick. -/
theorem Ticked.runs (hs : LinkLaws s) (htick : TickFalls unit s) (hruns : Runs s c unit n) (hn : n = 1) : Falls s u c := by
  have hslot := h.slots
  have hlink := h.links
  have hlast {timer timer' : Timer} (hticked : timer' = countDown unit s timer) (htimer : timer = some n) : timer' = some 0 :=
    hticked.trans (countDown_last htick (htimer.trans (congrArg some hn)))
  cases hruns with
  | trainingLockLoss i _ hattempt htimer =>
    exact .trainingLockLoss i ((h.inAttempt i).trans hattempt) (hlast (by rw [hlink]) htimer)
  | attemptTimer i _ htimer => exact .attemptTimer i (hlast (by rw [hlink]) htimer)
  | lockLoss i _ hcarries htimer => exact .lockLoss i ((h.carries i).trans hcarries) (hlast (by rw [hlink]) htimer)
  | remotePause i _ htimer => exact .remotePause i (hlast (by rw [hlink]) htimer)
  | refresh i _ htimer => exact .refresh i (hlast (by rw [h.upstream]) htimer)
  | probeWindow i _ htimer => exact .probeWindow i (hlast (by rw [hslot]) htimer)
  | qualify i _ htimer => exact .qualify i (hlast (by rw [hslot]) htimer)
  | deadline i _ htimer => exact .deadline i (hlast (by rw [hslot]) htimer)
  | acknowledgment i _ htimer => exact .acknowledgment i (hlast (by rw [hslot]) htimer)
  | ramp p _ htimer => exact .ramp p (hlast (by rw [h.pools]) htimer)
  | adoption p _ htimer => exact .adoption p (hlast (by rw [h.pools]) htimer)
  | drain e m he hphase => exact .drain e _ (h.draining e m he hphase) hphase (by dsimp only; rw [if_pos htick, hn])
  | settle e m he hphase => exact .settle e _ (h.settling e m he hphase) hphase (by dsimp only; rw [if_pos htick, hn])
  | saturation i hphase hmode hlt =>
    obtain ⟨hphase', hmode'⟩ := h.monitor i
    exact .saturation i (hphase'.trans hphase) (hmode'.trans hmode) (h.reached (hs.monitors i) le_rfl hphase hlt htick hn)
  | alarm i hphase hmode =>
    obtain ⟨hphase', hmode'⟩ := h.monitor i
    have hlaw := hs.monitors i
    exact .alarm i (hphase'.trans hphase) (hmode'.trans hmode)
      (h.reached hlaw hlaw.limits.2.2.2 hphase (hlaw.alarm hphase hmode) htick hn)

end

/-- Settles O40: what falls due at a microsecond is what had one tick to go, and what is taken brings nothing else to its end. -/
theorem runningCountsDivideTheMonitorTick : Obligations.RunningCountsDivideTheMonitorTick := by
  have hstep {s v : State} (hpending : s.pending = []) (hv : forEach takeDue (clockEvents s) (ticked s) = v) :
      (v.micros ≠ 0 → step s = .next v) ∧ (v.micros = 0 → step s = exec .lampBaseStep v) := by
    have hidle : step s = .next (idle s) := by rw [step, hpending]
    rw [hidle, idle_falls, hv]
    exact ⟨fun hne => by rw [if_neg hne], fun hzero => by rw [if_pos hzero]; rfl⟩
  refine ⟨ticksOf_divides, fun s hs hpending hquiet => ?_, fun s c unit hs hpending htimeout htick hruns hquiet => ?_⟩
  · have hticked := ticked_of s
    have hnone (c : Instr) : ¬ Falls s (ticked s) c := fun hfalls => by
      obtain ⟨unit, n, hruns, hle⟩ := hticked.falls hs hfalls
      exact absurd (hquiet c unit n hruns nofun) (Nat.not_lt.mpr hle)
    exact ⟨_, hticked, hstep hpending (takeDue_none (fun _ hev => hev) fun ev _ => hnone ev.command)⟩
  · have hticked := ticked_of s
    have hfalls : Falls s (ticked s) c := hticked.runs hs htick hruns rfl
    have hone (c' : Instr) (hfalls' : Falls s (ticked s) c') : c' = c := by
      obtain ⟨unit, n, hruns', hle⟩ := hticked.falls hs hfalls'
      by_contra hne
      exact absurd (hquiet c' unit n hruns' fun h => hne (Option.some.inj h)) (Nat.not_lt.mpr hle)
    have htaken := takeDue_one (fun _ hev => hev) (clockEvents_nodup s) (hticked.timeout ▸ htimeout) hfalls hfalls.mem hone
    have hclock : (ran c (ticked s)).micros = (ticked s).micros := hfalls.winds.clock
    obtain ⟨hnext, hlamps⟩ := hstep hpending htaken
    rw [hclock] at hnext hlamps
    exact ⟨_, _, hticked, exec_eq_next c _, hnext, hlamps⟩

end Sys2Proof.Machine
end
